-- ==== Sys2Proof/Word.lean ====
section
/-! DEFINITION. The words of the part: a byte of a link, and a line time. -/

namespace Sys2Proof

/-- A byte of a message, an entry or a segment (R186). -/
abbrev Byte := BitVec 8

/-- A line time, or any stored time: a 32-bit count that wraps (R2, R3). -/
abbrev Time := BitVec 32

end Sys2Proof
end

