-- ==== Sys2Proof/Syntax.lean ====
section
/-! DEFINITION. The commands of the block: one constructor of `Instr` for each row of spec/opcode_table.json.
A REQUEST carries its field bytes as they cross the link (R186), so that every form of a command, the ones its rule
refuses BAD_FIELD among them, is a term. -/

namespace Sys2Proof

/-- The four host ports (00_scope.md section 2). -/
inductive Port where
  | hp0 | hp1 | hp2 | hp3
deriving DecidableEq, Repr

/-- The level of a pin, numbered as R128 numbers IDLE_LEVEL. -/
inductive Level where
  | low | high
deriving DecidableEq, Repr

/-- A place in the descriptor table (R13). -/
abbrev DescIdx := Fin 48

/-- PCAPT of a port over consecutive samples of its synchronizer, oldest first (R6). -/
structure CapturePin where
  port : Port
  samples : List Level
deriving DecidableEq, Repr

/-- A stretch of a transaction: whether it opens with a fall of PCSn, the whole bytes of PMOSI in it, and whether it ends with a
rise of PCSn (R175). -/
structure Stretch where
  falls : Bool
  mosi : List Byte
  rises : Bool
deriving DecidableEq, Repr

/-- One step of the part: a command taken, or an event. -/
inductive Instr where
  /-- CHIP_RESET (R185): RESETn falls. -/
  | chipReset
  /-- RESET_RELEASE (R185): RESETn rises, with the TBSEL pins (R1) and, bit p of `pcsLow` set, PCSn of port p low (R175). -/
  | resetRelease (tbsel : BitVec 2) (pcsLow : BitVec 4)
  /-- TICK (R2): the REFCLK cycles left of the tick pass, and its boundary is reached. -/
  | tick
  /-- LEASE_LOW (R153) on a port. -/
  | leaseLow (p : Port)
  /-- LAPSE (R160) of a port's session. -/
  | lapse (p : Port)
  /-- CAPTURE_EDGE (R6, R7): samples of a port's PCAPT, each rise of which is a capture edge. -/
  | captureEdge (pin : CapturePin)
  /-- TIMED_START_REACHED (R77). -/
  | timedStartReached
  /-- NOT_BEFORE_REACHED (R46) for a queued descriptor. -/
  | notBeforeReached (d : DescIdx)
  /-- WINDOW_EXPIRY (R84) of a WAITING TIMED descriptor. -/
  | windowExpiry (d : DescIdx)
  /-- ASAP_EXPIRY (R85) of a queued descriptor. -/
  | asapExpiry (d : DescIdx)
  /-- HELD_EXPIRY_PASSED (R64) for a HELD descriptor. -/
  | heldExpiryPassed (d : DescIdx)
  /-- PREAMBLE_END (R73). -/
  | preambleEnd
  /-- BODY_END (R74). -/
  | bodyEnd
  /-- GAP_END (R74). -/
  | gapEnd
  /-- GUARD_END (R76). -/
  | guardEnd
  /-- COMPARISON_EVENT (R118). -/
  | comparisonEvent
  /-- ECHO_STOP (R120). -/
  | echoStop
  /-- HOLD_END (R122). -/
  | holdEnd
  /-- STROBE_PULSE_END (R110) on a port's PSTRB. -/
  | strobePulseEnd (p : Port)
  /-- OPEN (R148): port, request tag, field bytes. -/
  | openSession (p : Port) (tag : Byte) (fields : List Byte)
  /-- RENEW (R152). -/
  | renew (p : Port) (tag : Byte) (fields : List Byte)
  /-- CLOSE (R155). -/
  | close (p : Port) (tag : Byte) (fields : List Byte)
  /-- LOAD_BEGIN (R22). -/
  | loadBegin (p : Port) (tag : Byte) (fields : List Byte)
  /-- LOAD_DATA (R27). -/
  | loadData (p : Port) (tag : Byte) (fields : List Byte)
  /-- QUERY_FRAME (R31). -/
  | queryFrame (p : Port) (tag : Byte) (fields : List Byte)
  /-- SUBMIT (R48). -/
  | submit (p : Port) (tag : Byte) (fields : List Byte)
  /-- CANCEL (R66). -/
  | cancel (p : Port) (tag : Byte) (fields : List Byte)
  /-- QUERY_FREE (R58). -/
  | queryFree (p : Port) (tag : Byte) (fields : List Byte)
  /-- LINE_ENABLE (R87). -/
  | lineEnable (p : Port) (tag : Byte) (fields : List Byte)
  /-- LINE_DISABLE (R88). -/
  | lineDisable (p : Port) (tag : Byte) (fields : List Byte)
  /-- QUERY_LINE (R93). -/
  | queryLine (p : Port) (tag : Byte) (fields : List Byte)
  /-- RECOVER (R124). -/
  | recover (p : Port) (tag : Byte) (fields : List Byte)
  /-- CLAIM (R131). -/
  | claim (p : Port) (tag : Byte) (fields : List Byte)
  /-- RELEASE (R133). -/
  | release (p : Port) (tag : Byte) (fields : List Byte)
  /-- STAGE (R136). -/
  | stage (p : Port) (tag : Byte) (fields : List Byte)
  /-- COMMIT (R138). -/
  | commit (p : Port) (tag : Byte) (fields : List Byte)
  /-- QUERY_PROFILE (R142). -/
  | queryProfile (p : Port) (tag : Byte) (fields : List Byte)
  /-- QUERY_TIME (R5). -/
  | queryTime (p : Port) (tag : Byte) (fields : List Byte)
  /-- READ_CAPTURE (R8). -/
  | readCapture (p : Port) (tag : Byte) (fields : List Byte)
  /-- SET_TIME (R10). -/
  | setTime (p : Port) (tag : Byte) (fields : List Byte)
  /-- QUERY_LINK (R181). -/
  | queryLink (p : Port) (tag : Byte) (fields : List Byte)
  /-- UNKNOWN_COMMAND (R168): a REQUEST with a code that names no command. -/
  | unknownCommand (p : Port) (code : Byte) (tag : Byte) (fields : List Byte)
  /-- POLL (R182): its bytes up to `bytes` of them, from the fall of PCSn or on from where the transaction stands. -/
  | poll (p : Port) (bytes : Nat)
  /-- VOID_TRANSACTION (R175, R177, R178): a stretch of a transaction whose bytes take no REQUEST, entry or reset. -/
  | voidTransaction (p : Port) (stretch : Stretch)
  /-- LINK_RESET (R183, R184), confirmed by 0x3C. -/
  | linkReset (p : Port)
  /-- FAILED_CONFIRM (R183): the byte sent in place of 0x3C, or none when PCSn rises first. -/
  | failedConfirm (p : Port) (confirm : Option Byte)
  /-- REQUEST_NOT_TAKEN (R179): the message of a REQUEST and the CRC byte received with it. -/
  | requestNotTaken (p : Port) (msg : List Byte) (crc : Byte)
  /-- LSENSE_CHANGE (R114): after `cycles` REFCLK cycles of the tick in hand the pin takes the level. -/
  | lsenseChange (cycles : Nat) (level : Level)
  /-- CARRIER_BURST_END (R104): the REFCLK cycles to the end of the burst in hand pass. -/
  | carrierBurstEnd
deriving DecidableEq, Repr

end Sys2Proof
end

