-- ==== Sys2Proof/Decode.lean ====
section
/-! DEFINITION. The words of the opcode table. No row of spec/opcode_table.json gives bits ("fields" is empty in every
row and no row has "fixed"), so no word spells a command. What crosses a link as bytes is decoded in
Sys2Proof/Machine/Operands.lean and Sys2Proof/Machine/Links.lean. -/

namespace Sys2Proof

/-- The command that the low `nbits` bits of `w` spell by the table: none, since no row gives bits. -/
def decodeTableWord (_nbits _w : Nat) : Option Instr := none

end Sys2Proof
end

