-- ==== Sys2Proof/Config.lean ====
section
/-! DEFINITION. What the spec fixes for every L460: sizes, limits and the command codes of R168. -/

namespace Sys2Proof.Config

/-- R4: the minimum notice for a timed start, in ticks. -/
def lead : Nat := 32
/-- R4: the greatest distance ahead of an admitted time. -/
def horizon : Nat := 2 ^ 30
/-- R20: the most live descriptors one port owns. -/
def portLive : Nat := 16
/-- R20: the most segments one port holds. -/
def portHeld : Nat := 96
/-- R163: the entries of one event queue. -/
def queueSize : Nat := 24
/-- R81: the bypass count at which an ASAP descriptor blocks. -/
def bypassLimit : Nat := 8
/-- R121: the fault streak at which the next fault entry disables the line. -/
def streakLimit : Nat := 3
/-- R113: the quiet run saturates here. -/
def quietRunMax : Nat := 255
/-- R118: the mismatch count saturates here. -/
def mismatchMax : Nat := 65535
/-- R180: the link error counts saturate here. -/
def linkCountMax : Nat := 255
/-- R128: the longest carrier period, so the longest sample window of R114. -/
def windowMax : Nat := 1023
/-- R58: the longest duration a QUERY_FREE may ask for. -/
def longestReservation : Nat := 72224752
/-- R178: the longest message, head included. -/
def maxMessage : Nat := 40
/-- R178: the head of a message: command code, request tag, field count. -/
def headBytes : Nat := 3
/-- The bytes of a segment (R19). -/
def segmentBytes : Nat := 16
/-- What a pool byte that nothing has written reads as: DESIGN CHOICE, log 7. -/
def blankByte : Byte := 0

/-- R168: the command codes. -/
def codeOpen : Byte := 0x10
def codeRenew : Byte := 0x11
def codeClose : Byte := 0x12
def codeLoadBegin : Byte := 0x20
def codeLoadData : Byte := 0x21
def codeQueryFrame : Byte := 0x22
def codeSubmit : Byte := 0x30
def codeCancel : Byte := 0x31
def codeQueryFree : Byte := 0x32
def codeLineEnable : Byte := 0x40
def codeLineDisable : Byte := 0x41
def codeQueryLine : Byte := 0x42
def codeRecover : Byte := 0x43
def codeClaim : Byte := 0x50
def codeRelease : Byte := 0x51
def codeStage : Byte := 0x52
def codeCommit : Byte := 0x53
def codeQueryProfile : Byte := 0x54
def codeQueryTime : Byte := 0x60
def codeReadCapture : Byte := 0x61
def codeSetTime : Byte := 0x62
def codeQueryLink : Byte := 0x70

/-- R168: the 22 codes that name a command; any other code is UNKNOWN_COMMAND. -/
def knownCodes : List Byte :=
  [codeOpen, codeRenew, codeClose, codeLoadBegin, codeLoadData, codeQueryFrame, codeSubmit, codeCancel,
   codeQueryFree, codeLineEnable, codeLineDisable, codeQueryLine, codeRecover, codeClaim, codeRelease,
   codeStage, codeCommit, codeQueryProfile, codeQueryTime, codeReadCapture, codeSetTime, codeQueryLink]

/-- R177: the first byte of a transaction that names its kind. -/
def kindRequest : Byte := 0xA5
def kindPoll : Byte := 0x5A
def kindReset : Byte := 0xC3
/-- R183: the confirm byte of a LINK_RESET. -/
def confirmByte : Byte := 0x3C

end Sys2Proof.Config
end

