-- ==== Sys2Proof/Machine/State.lean ====
section
/-! DEFINITION. The state of the part, block by block as the spec's chapters give it, and the state after reset. Counts
that other state determines (used, live, held and reserved counts, PATTNn, LOUT, the line condition, the occupied
interval, the held set) are functions in Sys2Proof/Machine, not fields (log 16). -/

namespace Sys2Proof.Machine

/-- A segment of the pool (R19). -/
abbrev SegIdx := Fin 192

/-- The segment pool's bytes: (address, byte) pairs, addresses rising, none equal to `Config.blankByte`. -/
abbrev Memory := List Host.Cell

/-! ## Frame Store -/

/-- R13: descriptor states. -/
inductive DescState where
  | free | loading | held | waiting | onLine
deriving DecidableEq, Repr

/-- R15: frame classes. -/
inductive FrameClass where
  | timed | asap | chained
deriving DecidableEq, Repr

/-- R15: codings. -/
inductive Coding where
  | nrz | manchester | biphase
deriving DecidableEq, Repr

/-- R15: the carrier field. -/
inductive Carrier where
  | on | off
deriving DecidableEq, Repr

/-- R16, R64: an expiry is absent, a stored time, or replaced by the passed mark. -/
inductive Expiry where
  | absent
  | at (t : Time)
  | passed
deriving DecidableEq, Repr

/-- R15 to R18, R46: one record of the descriptor table. -/
structure Desc where
  state : DescState := .free
  owner : Option Port := none
  tag : Byte := 0
  cls : FrameClass := .timed
  bodyBits : Nat := 0
  preBits : Nat := 0
  coding : Coding := .nrz
  carrier : Carrier := .on
  reps : Nat := 0
  gap : Nat := 0
  priority : Option (Fin 4) := none
  strobeStart : Bool := false
  strobeEnd : Bool := false
  segs : List SegIdx := []
  fill : Nat := 0
  start : Option Time := none
  slip : Option Nat := none
  notBefore : Option Time := none
  expiry : Expiry := .absent
  predTag : Option Byte := none
  offset : Option Nat := none
  admission : Option (BitVec 48) := none
  bypass : Nat := 0
  eligible : Bool := false
  successor : Option DescIdx := none
  resStart : Option Time := none
  resEnd : Option Time := none
  repsSent : Nat := 0
  actualStart : Option Time := none
  mismatches : Nat := 0
  truncate : Bool := false
deriving DecidableEq, Repr

/-- R13: a FREE record, every field cleared. -/
def Desc.blank : Desc := {}

/-- R13, R19: the descriptor table and the segment pool. -/
structure FrameStore where
  descs : Vector Desc 48
  pool : Memory
deriving DecidableEq, Repr

/-! ## Schedule Unit -/

/-- R45: the four ASAP queues, each in the order of admission. -/
structure AsapQueues where
  q0 : List DescIdx := []
  q1 : List DescIdx := []
  q2 : List DescIdx := []
  q3 : List DescIdx := []
deriving DecidableEq, Repr

/-- R40: the timed reservation list, the ASAP queues and the admission sequence counter. -/
structure Schedule where
  timed : List DescIdx := []
  asap : AsapQueues := {}
  counter : BitVec 48 := 0
deriving DecidableEq, Repr

/-! ## Line Dispatcher -/

/-- R70: line states. -/
inductive LineState where
  | disabled | idle | busy | draining | fault
deriving DecidableEq, Repr

/-- R70: phases; no phase is `none` of `Option Phase`. -/
inductive Phase where
  | preamble | body | gap | guard
deriving DecidableEq, Repr

/-- R72: condition causes. -/
inductive Cause where
  | chipReset | hostEnable | hostDisable | drainEnd | echo | blocked | faultLimit | holdEnd | recovered
deriving DecidableEq, Repr

/-- R70: the Line Dispatcher. -/
structure Dispatcher where
  line : LineState := .disabled
  phase : Option Phase := none
  slot : Option DescIdx := none
  plannedEnd : Time := 0
  guardEnd : Time := 0
  cause : Cause := .chipReset
deriving DecidableEq, Repr

/-! ## Line Encoder -/

/-- R96: what the encoder is doing. -/
inductive Activity where
  | resting | sending | gap
deriving DecidableEq, Repr

/-- R96: a half-cell of the current bit. -/
inductive Half where
  | first | second
deriving DecidableEq, Repr

/-- R103: the coded level of a half-cell. -/
inductive HalfLevel where
  | active | quiet
deriving DecidableEq, Repr

/-- R96. `ticks` counts the ticks gone by in the half-cell or gap in hand (R98, R106); a half-cell whose `ticks` is HBT has
ended and waits for the step its end raises. `lastEnd` is the line time at which the last half-cell produced ended,
the actual end of R35 and R108. -/
structure Encoder where
  activity : Activity := .resting
  repetition : Nat := 0
  bitPos : Nat := 0
  half : Half := .first
  prevLevel : HalfLevel := .quiet
  carrierPhase : Nat := 0
  ticks : Nat := 0
  lastEnd : Time := 0
deriving DecidableEq, Repr

/-- R96, R110: a strobe output: LOW, HIGH until the next tick boundary, or HIGH with that boundary reached and
STROBE_PULSE_END due. -/
inductive Strobe where
  | low | high | ending
deriving DecidableEq, Repr

/-! ## Echo Monitor -/

/-- R113, R114. `sync1` and `sync2` are the synchroniser's stages; `sinceHigh` and `sinceLow` count the samples since the
last one at that level, saturating at the longest window; `tickQuiet` says that LSENSE was sensed quiet at every
REFCLK cycle of the tick in hand so far. -/
structure EchoMonitor where
  quietRun : Nat := 0
  counted : Bool := false
  abortPending : Bool := false
  streak : Nat := 0
  holdEnd : Time := 0
  sync1 : Level := .low
  sync2 : Level := .low
  sinceHigh : Nat := Config.windowMax
  sinceLow : Nat := 0
  tickQuiet : Bool := true
deriving DecidableEq, Repr

/-! ## Profile Unit -/

/-- R128: DUTY. -/
inductive Duty where
  | quarter | third | half
deriving DecidableEq, Repr

/-- R128: ECHO_MODE. -/
inductive EchoMode where
  | off | count | abort
deriving DecidableEq, Repr

/-- R128: the nine profile fields, with their defaults. -/
structure Profile where
  hbt : Nat := 500
  guard : Nat := 1000
  carrierPeriod : Nat := 632
  duty : Duty := .third
  idleLevel : Level := .low
  echoMode : EchoMode := .off
  echoThreshold : Nat := 3
  quiet : Nat := 16
  faultHold : Nat := 20000
deriving DecidableEq, Repr

/-- R128: the fields in table order. -/
inductive ProfileField where
  | hbt | guard | carrierPeriod | duty | idleLevel | echoMode | echoThreshold | quiet | faultHold
deriving DecidableEq, Repr

/-- R127: the Profile Unit. -/
structure ProfileUnit where
  active : Profile := {}
  staged : Option Profile := none
  holder : Option Port := none
deriving DecidableEq, Repr

/-! ## Session Unit -/

/-- R145: session states. -/
inductive SessionState where
  | closed | opened | closing | lapsed
deriving DecidableEq, Repr

/-- R147: lease classes. -/
inductive LeaseClass where
  | l0 | l1 | l2 | l3
deriving DecidableEq, Repr

/-- R145: close forms. -/
inductive CloseForm where
  | drain | purge
deriving DecidableEq, Repr

/-- R145: one session record. -/
structure Session where
  state : SessionState := .closed
  lease : Option LeaseClass := none
  remaining : Nat := 0
  form : Option CloseForm := none
deriving DecidableEq, Repr

/-! ## Event Queues -/

/-- R167: result codes, in the order of their values. -/
inductive ResultCode where
  | ok | loadReady | admitted | cancelled | truncated | tooLateToCancel | none
  | noSession | closing | badField | unknownCommand | tagInUse | portLimit | noDescriptor | noSegments | noRoom
  | notFound | wrongState | outOfOrder | incomplete | tooLate | tooFar | conflict | noPredecessor | chainTaken
  | notHolder | claimed | notDisabled | notEmpty | senseActive
deriving DecidableEq, Repr

/-- R36: details of ABORTED. -/
inductive AbortDetail where
  | echo | blocked
deriving DecidableEq, Repr

/-- R36: details of EXPIRED. -/
inductive ExpiryDetail where
  | window | wouldOverlap
deriving DecidableEq, Repr

/-- R36: the outcome of a retirement, with its detail. -/
inductive FrameOutcome where
  | sent
  | sentLate (lateness : Nat)
  | truncated
  | aborted (why : AbortDetail)
  | expired (why : ExpiryDetail)
  | cancelled
  | purged
  | rescheduled
  | chainBroken
deriving DecidableEq, Repr

/-- R32: the four capacity counts. -/
structure Capacity where
  live : Nat
  held : Nat
  freeDescs : Nat
  freeSegs : Nat
deriving DecidableEq, Repr

/-- R32: the STATUS view of a descriptor. -/
structure StatusView where
  state : DescState
  cls : FrameClass
  fill : Nat
  expected : Nat
  segments : Nat
  repsSent : Nat
  reps : Nat
  truncate : Bool
  bypass : Nat
  successor : Option Byte
  mismatches : Nat
deriving DecidableEq, Repr

/-- R33: the times that stand in the record, by state and class. -/
inductive TimesView where
  | loading
  | held (pred : Byte) (offset : Nat) (expiry : Expiry)
  | waitingTimed (start : Time) (slip : Nat) (resEnd : Time)
  | waitingAsap (notBefore : Option Time) (expiry : Expiry)
  | waitingChained (notBefore : Option Time) (offset : Nat) (expiry : Expiry)
  | onLineTimed (start : Time) (slip : Nat) (length : Nat) (lateness : Nat)
  | onLineOther (actualStart : Time)
deriving DecidableEq, Repr

/-- R131: what a CLAIM answered OK carries. -/
inductive ClaimResult where
  | heldAlready | granted
deriving DecidableEq, Repr

/-- R55: why a predecessor is refused. -/
inductive PredRefusal where
  | notLive | loop
deriving DecidableEq, Repr

/-- R142: the claim as seen from the asking port. -/
inductive ClaimView where
  | byThisPort | byOther | unheld
deriving DecidableEq, Repr

/-- The result data of a REPLY, one constructor for each shape the commands' rules give. -/
inductive ReplyData where
  | none
  | opened (found : SessionState) (lease : LeaseClass)
  | renewed (remaining : Nat) (lease : LeaseClass) (state : SessionState)
  | closed (form : CloseForm) (live : Nat)
  | loadReady (tag : Byte) (bytes : Nat) (segments : Nat)
  | loaded (fill : Nat) (left : Nat)
  | fillLevel (fill : Nat)
  | capacity (c : Capacity)
  | status (v : StatusView) (c : Capacity)
  | times (cls : FrameClass) (v : TimesView) (c : Capacity)
  | admittedTimed (tag : Byte) (start stop : Time)
  | admittedAsap (tag : Byte) (eligible : Bool)
  | admittedChained (tag pred : Byte)
  | conflictEnd (t : Time)
  | noPredecessor (why : PredRefusal)
  | chainTaken (tag : Byte)
  | cancelled (tag : Byte)
  | cancelOnLine (tag : Byte) (repsSent reps : Nat)
  | room (s : Time) (next : Option Time)
  | lineState (l : LineState)
  | lineReport (l : LineState) (phase : Option Phase) (cause : Cause) (streak : Nat) (owner : Option Port)
      (guardEnd : Option Time) (next : Option Time)
  | claim (r : ClaimResult)
  | badProfileField (f : ProfileField)
  | staged (differing : Nat)
  | committed (rescheduled broken : Nat)
  | profile (p : Profile) (claim : ClaimView)
  | time (t : Time) (divisor : Nat)
  | capture (t : Time) (overrun : Bool)
  | timeSet (old new : Time)
  | timesCarried (n : Nat)
  | link (crcErrors framingErrors : Nat) (p : Port)
deriving DecidableEq, Repr

/-- R165: an entry of an event queue. Sys2Proof/Machine/Layout.lean gives its 20 bytes. -/
inductive Entry where
  | reply (code tag : Byte) (result : ResultCode) (data : ReplyData)
  | frameDone (tag : Byte) (outcome : FrameOutcome) (times : Option (Time × Time)) (repsSent mismatches : Nat)
  | sessionLapsed (lease : LeaseClass) (lapsedFrom : SessionState) (purged : Nat) (onLine : Option Byte)
      (claimReleased : Bool)
  | sessionClosed (form : CloseForm)
deriving DecidableEq, Repr

/-- R163: the entries, oldest first, and the three sticky flags. -/
structure EventQueue where
  entries : List Entry := []
  lineChanged : Bool := false
  leaseLow : Bool := false
  captureReady : Bool := false
deriving DecidableEq, Repr

/-! ## Capture slots and links -/

/-- R7: a capture slot. -/
structure Capture where
  full : Bool := false
  time : Time := 0
  overrun : Bool := false
deriving DecidableEq, Repr

/-- R175: link states. -/
inductive LinkState where
  | resting | kind | request | answer | poll | confirm | ignore
deriving DecidableEq, Repr

/-- R175, R180. PCSn is high exactly in RESTING. `length` is the length n of the REQUEST in hand (R178). `out` holds the
bytes fixed to be driven on PMISO next, the status summary among them (R176), and `pad` the byte driven once they are
gone; `miso` keeps the bytes driven since PCSn last fell, oldest first. -/
structure Link where
  state : LinkState := .resting
  byteCount : Nat := 0
  length : Nat := 0
  buffer : List Byte := []
  crc : Byte := 0
  crcErrors : Nat := 0
  framingErrors : Nat := 0
  out : List Byte := []
  pad : Byte := 0
  miso : List Byte := []
deriving DecidableEq, Repr

/-- What the blocks hold for one port. `pcapt` is the last sample of PCAPT, none until the pin has been sampled since the
release (R6). -/
structure PortState where
  session : Session := {}
  queue : EventQueue := {}
  capture : Capture := {}
  pcapt : Option Level := none
  strobe : Strobe := .low
  link : Link := {}
deriving DecidableEq, Repr

/-- The four ports. -/
structure Ports where
  hp0 : PortState := {}
  hp1 : PortState := {}
  hp2 : PortState := {}
  hp3 : PortState := {}
deriving DecidableEq, Repr

/-! ## Time Base and the whole state -/

/-- R1, R2. -/
structure TimeBase where
  divisor : Nat := 24
  prescale : Nat := 0
  time : Time := 0
deriving DecidableEq, Repr

/-- The state of the part, the levels its pins hold it to, and the queue of waiting commands. -/
structure State where
  inReset : Bool
  lsense : Level
  clock : TimeBase
  store : FrameStore
  sched : Schedule
  disp : Dispatcher
  enc : Encoder
  echo : EchoMonitor
  prof : ProfileUnit
  ports : Ports
  pending : List Instr
deriving DecidableEq, Repr

/-- The machine right after reset (R185): every block at the value its rule gives, no command waiting. The divisor is
that of the nominal TBSEL = 10 (log 5); the values R185 does not give are those of logs 6, 7 and 17. -/
def State.reset : State where
  inReset := false
  lsense := .low
  clock := {}
  store := { descs := Vector.replicate 48 Desc.blank, pool := [] }
  sched := {}
  disp := {}
  enc := {}
  echo := {}
  prof := {}
  ports := {}
  pending := []

/-- Why a command stops the machine. No command of this block does: what the part refuses it answers (R167, R179), and a
line fault is a state of the line (R121). Closed, with no constructor. -/
inductive Fault where
deriving DecidableEq, Repr

/-- Why a command has no meaning. -/
inductive Refusal where
  /-- Raised by an arm of exec for a row that has no meaning yet: safe, the machine stops. No arm raises it now. -/
  | notModelled (mnemonic : String)
deriving DecidableEq, Repr

end Sys2Proof.Machine
end

