-- ==== Sys2Proof/Machine/Time.lean ====
section
/-! DEFINITION. Comparing times (R3), the classes of an offered time (R4), intervals (R44) and the measures of a frame
(00_scope.md section 7.4). -/

namespace Sys2Proof.Machine

/-- R3: the distance from a to b, (b - a) mod 2^32. -/
def distance (a b : Time) : Nat := (b - a).toNat

/-- R3: a is before b. -/
def before (a b : Time) : Bool := decide (1 ≤ distance a b ∧ distance a b < 2 ^ 31)

/-- R3: a stored time is reached or passed at `now`. -/
def reached (t now : Time) : Bool := decide (t = now) || before t now

/-- A time plus a duration, mod 2^32 (R3). -/
def plus (t : Time) (ticks : Nat) : Time := t + BitVec.ofNat 32 ticks

/-- A time less a duration, mod 2^32. -/
def minus (t : Time) (ticks : Nat) : Time := t - BitVec.ofNat 32 ticks

/-- R4: the classes of an offered time. -/
inductive TimeClass where
  | near | ahead | far | past
deriving DecidableEq, Repr

/-- R4: the class of the offered time t (`ahead` is the class OPEN). -/
def classOf (now t : Time) : TimeClass :=
  let d := distance now t
  if d < Config.lead then .near
  else if d ≤ Config.horizon then .ahead
  else if d ≤ 2 ^ 31 then .far
  else .past

/-- R44: the half-open intervals [a1, b1) and [a2, b2) overlap. -/
def overlap (a1 b1 a2 b2 : Time) : Bool := before a1 b2 && before a2 b1

/-- Half-cells of one repetition: 2 x (P + L). -/
def Desc.halfCells (x : Desc) : Nat := 2 * (x.preBits + x.bodyBits)

/-- Ticks of one repetition (00_scope.md section 7.4, R99). -/
def Desc.repTicks (x : Desc) (hbt : Nat) : Nat := x.halfCells * hbt

/-- Total duration (00_scope.md section 7.4). -/
def Desc.duration (x : Desc) (hbt : Nat) : Nat := x.reps * x.repTicks hbt + (x.reps - 1) * x.gap

/-- R42: the reservation length under a profile. -/
def Desc.reservation (x : Desc) (p : Profile) : Nat := x.duration p.hbt + p.guard

/-- R15: payload bytes of the body. -/
def Desc.bodyBytes (x : Desc) : Nat := (x.bodyBits + 7) / 8

/-- R15, R19: segments of a body of L bits. -/
def segmentsFor (bits : Nat) : Nat := (bits + 127) / 128

end Sys2Proof.Machine
end

