-- ==== Sys2Proof/Machine/Layout.lean ====
section
/-! DEFINITION. The byte layouts of R186: CRC-8 (R178), multi-byte values, named values, result data, the 20 bytes of an
entry. -/

namespace Sys2Proof.Machine

/-! ## Bytes and the CRC -/

/-- A count in one byte. -/
def byteOf (n : Nat) : Byte := BitVec.ofNat 8 n

/-- Two bytes, most significant first (R186). -/
def be16 (n : Nat) : List Byte := [byteOf (n / 256), byteOf n]

/-- Four bytes, most significant first (R186). -/
def be32 (n : Nat) : List Byte := [byteOf (n / 16777216), byteOf (n / 65536), byteOf (n / 256), byteOf n]

/-- A line time in four bytes. -/
def timeBytes (t : Time) : List Byte := be32 t.toNat

/-- The value of bytes sent most significant first. -/
def natOfBytes (bs : List Byte) : Nat := bs.foldl (fun n b => n * 256 + b.toNat) 0

/-- A line time read from its bytes. -/
def timeOfBytes (bs : List Byte) : Time := BitVec.ofNat 32 (natOfBytes bs)

/-- R178: one bit into the CRC accumulator: shift left, and apply 0x07 where the bit and the former top bit differ. -/
def crcBit (acc : Byte) (bit : Bool) : Byte :=
  if acc.msb != bit then (acc <<< 1) ^^^ 0x07 else acc <<< 1

/-- R178: one byte into the accumulator, most significant bit first. -/
def crcByte (acc b : Byte) : Byte :=
  [7, 6, 5, 4, 3, 2, 1, 0].foldl (fun a i => crcBit a (b.getLsbD i)) acc

/-- R178: the CRC-8 of a run of bytes, from 0. -/
def crc8 (bs : List Byte) : Byte := bs.foldl crcByte 0

/-- A bit at a place of a byte. -/
def bitAt (place : Nat) (set : Bool) : Byte := if set then byteOf (2 ^ place) else 0

/-- A marks byte (R186): its flags from bit 7 down. -/
def marks (flags : List Bool) : Byte :=
  (flags.zipIdx.map fun (f, i) => bitAt (7 - i) f).foldl (· ||| ·) 0

/-! ## Named values, each numbered by its defining list (R186) -/

def Port.number : Port → Nat
  | .hp0 => 0 | .hp1 => 1 | .hp2 => 2 | .hp3 => 3

/-- By the list of R32; FREE is never reported. -/
def DescState.number : DescState → Nat
  | .loading => 0 | .held => 1 | .waiting => 2 | .onLine => 3 | .free => 0

def FrameClass.number : FrameClass → Nat
  | .timed => 0 | .asap => 1 | .chained => 2

def LineState.number : LineState → Nat
  | .disabled => 0 | .idle => 1 | .busy => 2 | .draining => 3 | .fault => 4

def Phase.number : Phase → Nat
  | .preamble => 0 | .body => 1 | .gap => 2 | .guard => 3

def Cause.number : Cause → Nat
  | .chipReset => 0 | .hostEnable => 1 | .hostDisable => 2 | .drainEnd => 3 | .echo => 4
  | .blocked => 5 | .faultLimit => 6 | .holdEnd => 7 | .recovered => 8

def Duty.number : Duty → Nat
  | .quarter => 0 | .third => 1 | .half => 2

def Level.number : Level → Nat
  | .low => 0 | .high => 1

def EchoMode.number : EchoMode → Nat
  | .off => 0 | .count => 1 | .abort => 2

def ProfileField.number : ProfileField → Nat
  | .hbt => 0 | .guard => 1 | .carrierPeriod => 2 | .duty => 3 | .idleLevel => 4 | .echoMode => 5
  | .echoThreshold => 6 | .quiet => 7 | .faultHold => 8

def SessionState.number : SessionState → Nat
  | .closed => 0 | .opened => 1 | .closing => 2 | .lapsed => 3

def LeaseClass.number : LeaseClass → Nat
  | .l0 => 0 | .l1 => 1 | .l2 => 2 | .l3 => 3

def CloseForm.number : CloseForm → Nat
  | .drain => 0 | .purge => 1

def ClaimResult.number : ClaimResult → Nat
  | .heldAlready => 0 | .granted => 1

def PredRefusal.number : PredRefusal → Nat
  | .notLive => 0 | .loop => 1

/-- R142: the claim state, NONE among its values, is one named value (log 31). -/
def ClaimView.number : ClaimView → Nat
  | .byThisPort => 0 | .byOther => 1 | .unheld => 2

/-- R167: the values of the result codes. -/
def ResultCode.value : ResultCode → Nat
  | .ok => 0x00 | .loadReady => 0x01 | .admitted => 0x02 | .cancelled => 0x03 | .truncated => 0x04
  | .tooLateToCancel => 0x05 | .none => 0x06 | .noSession => 0x10 | .closing => 0x11 | .badField => 0x12
  | .unknownCommand => 0x13 | .tagInUse => 0x14 | .portLimit => 0x15 | .noDescriptor => 0x16
  | .noSegments => 0x17 | .noRoom => 0x18 | .notFound => 0x19 | .wrongState => 0x1A | .outOfOrder => 0x1B
  | .incomplete => 0x1C | .tooLate => 0x1D | .tooFar => 0x1E | .conflict => 0x1F | .noPredecessor => 0x20
  | .chainTaken => 0x21 | .notHolder => 0x22 | .claimed => 0x23 | .notDisabled => 0x24 | .notEmpty => 0x25
  | .senseActive => 0x26

/-- R36: the outcomes in the order of its table. -/
def FrameOutcome.number : FrameOutcome → Nat
  | .sent => 0 | .sentLate _ => 1 | .truncated => 2 | .aborted _ => 3 | .expired _ => 4
  | .cancelled => 5 | .purged => 6 | .rescheduled => 7 | .chainBroken => 8

/-- R186: the two detail bytes of a FRAME_DONE. -/
def FrameOutcome.detail : FrameOutcome → Nat
  | .sentLate n => n
  | .aborted .blocked => 1
  | .expired .wouldOverlap => 1
  | .sent | .truncated | .aborted .echo | .expired .window | .cancelled | .purged | .rescheduled | .chainBroken => 0

/-- R147: the lease periods. -/
def LeaseClass.period : LeaseClass → Nat
  | .l0 => 10000 | .l1 => 100000 | .l2 => 1000000 | .l3 => 10000000

/-- R147: the LEASE_LOW threshold, one quarter of the period. -/
def LeaseClass.threshold (c : LeaseClass) : Nat := c.period / 4

/-! ## Result data -/

/-- A time that may be absent: its bytes are 0x00 when it is (R186). -/
def optTimeBytes : Option Time → List Byte
  | some t => timeBytes t
  | none => [0, 0, 0, 0]

/-- The time of an expiry, if it stands. -/
def Expiry.time? : Expiry → Option Time
  | .at t => some t
  | .absent | .passed => none

/-- R32: the capacity counts in their order. -/
def Capacity.bytes (c : Capacity) : List Byte :=
  [byteOf c.live, byteOf c.held, byteOf c.freeDescs, byteOf c.freeSegs]

/-- The STATUS view (R32) as result data (log 13). -/
def StatusView.bytes (v : StatusView) (c : Capacity) : List Byte :=
  [marks [v.truncate, v.successor.isSome], byteOf v.state.number, byteOf v.cls.number, byteOf v.fill,
   byteOf v.expected, byteOf v.segments, byteOf v.repsSent, byteOf v.reps, byteOf v.bypass,
   v.successor.getD 0] ++ be16 v.mismatches ++ c.bytes

/-- The state a TIMES view reports. -/
def TimesView.state : TimesView → DescState
  | .loading => .loading
  | .held _ _ _ => .held
  | .waitingTimed _ _ _ | .waitingAsap _ _ | .waitingChained _ _ _ => .waiting
  | .onLineTimed _ _ _ _ | .onLineOther _ => .onLine

/-- The not_before and the expiry a TIMES view gives. -/
def TimesView.window : TimesView → Option Time × Expiry
  | .held _ _ e => (none, e)
  | .waitingAsap n e | .waitingChained n _ e => (n, e)
  | .loading | .waitingTimed _ _ _ | .onLineTimed _ _ _ _ | .onLineOther _ => (none, .absent)

/-- R186: the times of R33 from byte 5 on. -/
def TimesView.times : TimesView → List Byte
  | .loading => []
  | .held pred off e => [pred] ++ be16 off ++ optTimeBytes e.time?
  | .waitingTimed s slip e => timeBytes s ++ be16 slip ++ timeBytes e
  | .waitingAsap n e => optTimeBytes n ++ optTimeBytes e.time?
  | .waitingChained n off e => optTimeBytes n ++ be16 off ++ optTimeBytes e.time?
  | .onLineTimed s slip len late => timeBytes s ++ be16 slip ++ be32 len ++ be16 late
  | .onLineOther a => timeBytes a

/-- R186: the TIMES view packed in its own way: state, class and three marks in byte 0, then the capacity counts. -/
def TimesView.bytes (cls : FrameClass) (v : TimesView) (c : Capacity) : List Byte :=
  let (n, e) := v.window
  [byteOf (v.state.number * 64 + cls.number * 16) ||| bitAt 2 n.isSome ||| bitAt 1 e.time?.isSome
    ||| bitAt 0 (decide (e = .passed))] ++ c.bytes ++ v.times

/-- The nine fields of a profile in the order of R128. -/
def Profile.bytes (p : Profile) : List Byte :=
  be16 p.hbt ++ be16 p.guard ++ be16 p.carrierPeriod ++ [byteOf p.duty.number, byteOf (Level.number p.idleLevel),
    byteOf p.echoMode.number, byteOf p.echoThreshold, byteOf p.quiet] ++ be16 p.faultHold

/-- R186: the result data of a REPLY as bytes; where R186 leaves a layout open, logs 12 to 15 and 31 say what stands here. -/
def ReplyData.bytes : ReplyData → List Byte
  | .none => []
  | .opened found c => [byteOf found.number, byteOf c.number] ++ be32 c.period
  | .renewed r c st => be32 r ++ [byteOf c.number, byteOf st.number]
  | .closed f live => [byteOf f.number, byteOf live]
  | .loadReady tag n segs => [tag, byteOf n, byteOf segs]
  | .loaded fill left => [byteOf fill, byteOf left]
  | .fillLevel fill => [byteOf fill]
  | .capacity c => c.bytes
  | .status v c => v.bytes c
  | .times cls v c => v.bytes cls c
  | .admittedTimed tag s e => [tag] ++ timeBytes s ++ timeBytes e
  | .admittedAsap tag el => [marks [el], tag]
  | .admittedChained tag pred => [tag, pred]
  | .conflictEnd t => timeBytes t
  | .noPredecessor why => [byteOf why.number]
  | .chainTaken tag => [tag]
  | .cancelled tag => [tag]
  | .cancelOnLine tag sent reps => [tag, byteOf sent, byteOf reps]
  | .room s next => [marks [next.isSome]] ++ timeBytes s ++ optTimeBytes next
  | .lineState l => [byteOf l.number]
  | .lineReport l ph cause streak owner g next =>
    [marks [ph.isSome, owner.isSome, g.isSome, next.isSome], byteOf l.number,
     byteOf (ph.elim 0 Phase.number), byteOf cause.number, byteOf streak, byteOf (owner.elim 0 Port.number)]
      ++ optTimeBytes g ++ optTimeBytes next
  | .claim r => [byteOf r.number]
  | .badProfileField f => [byteOf f.number]
  | .staged n => [byteOf n]
  | .committed r b => [byteOf r, byteOf b]
  | .profile p c => p.bytes ++ [byteOf c.number]
  | .time t d => timeBytes t ++ [byteOf d]
  | .capture t o => [marks [o]] ++ timeBytes t
  | .timeSet old new => timeBytes old ++ timeBytes new
  | .timesCarried n => [byteOf n]
  | .link c f p => [byteOf c, byteOf f, byteOf (Port.number p)]

/-! ## Entries -/

/-- An entry filled up with 0x00 to its 20 bytes (R163, R186). -/
def padEntry (bs : List Byte) : List Byte := (bs ++ List.replicate 20 0).take 20

/-- R186: the 20 bytes of an entry. -/
def Entry.bytes : Entry → List Byte
  | .reply code tag r data => padEntry ([byteOf r.value, code, tag] ++ data.bytes)
  | .frameDone tag o times sent mis =>
    padEntry ([byteOf (0x40 + o.number), tag, marks [times.isSome]] ++ be16 o.detail
      ++ optTimeBytes (times.map (·.1)) ++ optTimeBytes (times.map (·.2)) ++ [byteOf sent] ++ be16 mis)
  | .sessionLapsed c st n on rel =>
    padEntry [0x80, byteOf c.number, byteOf st.number, byteOf n, marks [on.isSome, rel], on.getD 0]
  | .sessionClosed f => padEntry [0xC0, byteOf f.number]

end Sys2Proof.Machine
end

