-- ==== Sys2Proof/Machine/Ops.lean ====
section
/-! DEFINITION. The named operations over the state that the commands' meanings share: the segment pool, the ports, the
descriptor table and its counts, entries of the event queues, the claim, sessions. -/

namespace Sys2Proof.Machine

/-! ## The segment pool (R19, R29) -/

/-- The byte at an address. -/
def Memory.read : Memory → Nat → Byte
  | [], _ => Config.blankByte
  | (a, b) :: rest, at_ => if a = at_ then b else Memory.read rest at_

/-- A byte put before cells of higher address, unless it equals what an unlisted address reads as. -/
def Memory.push (a : Nat) (b : Byte) (rest : Memory) : Memory :=
  if b = Config.blankByte then rest else (a, b) :: rest

/-- The pool with one byte written, in canonical form again. -/
def Memory.write (a : Nat) (b : Byte) : Memory → Memory
  | [] => Memory.push a b []
  | (a', b') :: rest =>
    if a < a' then Memory.push a b ((a', b') :: rest)
    else if a = a' then Memory.push a b rest
    else (a', b') :: Memory.write a b rest

/-- Canonical form: addresses rising, every one of them at least `low`, and no cell that holds the blank byte. -/
def Memory.wfFrom (low : Nat) : Memory → Bool
  | [] => true
  | (a, b) :: rest => decide (low ≤ a) && decide (b ≠ Config.blankByte) && Memory.wfFrom (a + 1) rest

/-- The pool is in canonical form. -/
def Memory.wf (m : Memory) : Bool := Memory.wfFrom 0 m

/-- R29: the pool address of byte position b of a segment list. -/
def segAddress (segs : List SegIdx) (b : Nat) : Option Nat :=
  (segs[b / Config.segmentBytes]?).map fun g => g.val * Config.segmentBytes + b % Config.segmentBytes

/-- R29: payload bytes written from byte position b on, in the order carried. -/
def writePayload (segs : List SegIdx) : Nat → List Byte → Memory → Memory
  | _, [], m => m
  | b, v :: vs, m =>
    writePayload segs (b + 1) vs ((segAddress segs b).elim m fun a => Memory.write a v m)

/-- R100: the payload byte at byte position b. -/
def readPayload (segs : List SegIdx) (m : Memory) (b : Nat) : Byte :=
  (segAddress segs b).elim 0 (Memory.read m)

/-! ## Ports -/

/-- The four ports in order. -/
def allPorts : List Port := [.hp0, .hp1, .hp2, .hp3]

def Ports.get (ps : Ports) : Port → PortState
  | .hp0 => ps.hp0 | .hp1 => ps.hp1 | .hp2 => ps.hp2 | .hp3 => ps.hp3

def Ports.modify (ps : Ports) (p : Port) (f : PortState → PortState) : Ports :=
  match p with
  | .hp0 => { ps with hp0 := f ps.hp0 }
  | .hp1 => { ps with hp1 := f ps.hp1 }
  | .hp2 => { ps with hp2 := f ps.hp2 }
  | .hp3 => { ps with hp3 := f ps.hp3 }

/-- Every port changed alike. -/
def Ports.map (ps : Ports) (f : PortState → PortState) : Ports :=
  { hp0 := f ps.hp0, hp1 := f ps.hp1, hp2 := f ps.hp2, hp3 := f ps.hp3 }

/-- What the blocks hold for port p. -/
def State.port (s : State) (p : Port) : PortState := s.ports.get p

def State.modPort (s : State) (p : Port) (f : PortState → PortState) : State :=
  { s with ports := s.ports.modify p f }

/-- The session record of p with a change. -/
def State.modSession (s : State) (p : Port) (f : Session → Session) : State :=
  s.modPort p fun q => { q with session := f q.session }

/-- The event queue of p with a change. -/
def State.modQueue (s : State) (p : Port) (f : EventQueue → EventQueue) : State :=
  s.modPort p fun q => { q with queue := f q.queue }

/-- The link of p with a change. -/
def State.modLink (s : State) (p : Port) (f : Link → Link) : State :=
  s.modPort p fun q => { q with link := f q.link }

/-- R2: now. -/
def State.now (s : State) : Time := s.clock.time

/-! ## The descriptor table -/

/-- Every place of the table, in table order (R13). -/
def allDescs : List DescIdx := List.finRange 48

def State.desc (s : State) (d : DescIdx) : Desc := s.store.descs[d]

def State.setDesc (s : State) (d : DescIdx) (x : Desc) : State :=
  { s with store := { s.store with descs := s.store.descs.set d.val x d.isLt } }

def State.modDesc (s : State) (d : DescIdx) (f : Desc → Desc) : State := s.setDesc d (f (s.desc d))

/-- R13: live in every state but FREE. -/
def Desc.live (x : Desc) : Bool := decide (x.state ≠ .free)

/-- A live descriptor that port p owns. -/
def Desc.ownedBy (p : Port) (x : Desc) : Bool := x.live && decide (x.owner = some p)

/-- A descriptor that a purge retires and a LINK_RESET discards: LOADING, HELD or WAITING (R38, R159). -/
def Desc.offLine (x : Desc) : Bool :=
  decide (x.state = .loading ∨ x.state = .held ∨ x.state = .waiting)

/-- R20: the live count of p. -/
def State.liveCount (s : State) (p : Port) : Nat := s.store.descs.toList.countP (Desc.ownedBy p)

/-- R20: the held count of p. -/
def State.heldCount (s : State) (p : Port) : Nat :=
  ((s.store.descs.toList.filter (Desc.ownedBy p)).map fun x => x.segs.length).sum

/-- R13: the number of FREE descriptors. -/
def State.freeDescs (s : State) : Nat := s.store.descs.toList.countP fun x => !x.live

/-- R13, R25: the lowest-numbered FREE descriptor. -/
def State.firstFree (s : State) : Option DescIdx := allDescs.find? fun d => !(s.desc d).live

/-- R19: the free segments, lowest-numbered first (log 8). -/
def State.freeSegs (s : State) : List SegIdx :=
  (List.finRange 192).filter fun g => !s.store.descs.toList.any fun x => x.segs.contains g

/-- R32: the capacity counts as port p sees them. -/
def State.capacity (s : State) (p : Port) : Capacity :=
  { live := s.liveCount p, held := s.heldCount p, freeDescs := s.freeDescs, freeSegs := s.freeSegs.length }

/-- R21: the descriptor that a tag names in p's tag set. -/
def State.findTag (s : State) (p : Port) (tag : Byte) : Option DescIdx :=
  allDescs.find? fun d => (s.desc d).ownedBy p && decide ((s.desc d).tag = tag)

/-- R17: the descriptor that names d as its successor. -/
def State.predOf (s : State) (d : DescIdx) : Option DescIdx :=
  allDescs.find? fun e => decide ((s.desc e).successor = some d)

/-- R47: the chain behind a descriptor: its successor, that one's successor, and so on, at most `fuel` of them (a chain
has at most 16, R47). -/
def State.chainAfter (s : State) : Nat → DescIdx → List DescIdx
  | 0, _ => []
  | fuel + 1, d =>
    match (s.desc d).successor with
    | none => []
    | some e => e :: s.chainAfter fuel e

/-- R34 step 2: no descriptor names d as its successor any more. -/
def State.unlink (s : State) (d : DescIdx) : State :=
  { s with store := { s.store with
    descs := s.store.descs.map fun x => if x.successor = some d then { x with successor := none } else x } }

/-! ## The Schedule Unit's structures -/

def AsapQueues.remove (q : AsapQueues) (keep : DescIdx → Bool) : AsapQueues :=
  { q0 := q.q0.filter keep, q1 := q.q1.filter keep, q2 := q.q2.filter keep, q3 := q.q3.filter keep }

/-- R45: d joins the tail of the queue of a priority. -/
def AsapQueues.join (q : AsapQueues) (pri : Fin 4) (d : DescIdx) : AsapQueues :=
  match pri with
  | 0 => { q with q0 := q.q0 ++ [d] }
  | 1 => { q with q1 := q.q1 ++ [d] }
  | 2 => { q with q2 := q.q2 ++ [d] }
  | 3 => { q with q3 := q.q3 ++ [d] }

/-- R45: the ASAP order. -/
def AsapQueues.order (q : AsapQueues) : List DescIdx := q.q0 ++ q.q1 ++ q.q2 ++ q.q3

/-- The descriptors that fail `keep` leave the timed list and the queues; those that stay keep their order (R40, R45). -/
def State.keepScheduled (s : State) (keep : DescIdx → Bool) : State :=
  { s with sched := { s.sched with timed := s.sched.timed.filter keep, asap := s.sched.asap.remove keep } }

/-- R34 step 4: d leaves the structure or the ON_LINE slot that holds it. -/
def State.leave (s : State) (d : DescIdx) : State :=
  let s1 := s.keepScheduled fun e => decide (e ≠ d)
  if s1.disp.slot = some d then { s1 with disp := { s1.disp with slot := none } } else s1

/-- R41: the next admission sequence number, and the counter raised. -/
def State.takeNumber (s : State) : State :=
  { s with sched := { s.sched with counter := s.sched.counter + 1 } }

/-- R42: the place of a start in the timed list. -/
def insertByStart (s : State) (d : DescIdx) (t : Time) : List DescIdx → List DescIdx
  | [] => [d]
  | e :: rest =>
    match (s.desc e).start with
    | some u => if before t u then d :: e :: rest else e :: insertByStart s d t rest
    | none => e :: insertByStart s d t rest

/-- R42: the next listed start. -/
def State.nextListed (s : State) : Option Time := s.sched.timed.head?.bind fun d => (s.desc d).start

/-- R43: the occupied interval. -/
def State.occupied (s : State) : Option (Time × Time) :=
  if s.disp.line = .busy ∨ s.disp.line = .draining then
    match s.disp.slot with
    | some d => some ((s.desc d).actualStart.getD s.now, s.disp.plannedEnd)
    | none => if s.disp.phase = some .guard then some (s.now, s.disp.guardEnd) else none
  else none

/-- R44: the standing intervals, the occupied interval first and then the listed ones by start. -/
def State.standing (s : State) : List (Time × Time) :=
  s.occupied.toList ++ s.sched.timed.filterMap fun d =>
    match (s.desc d).resStart, (s.desc d).resEnd with
    | some a, some b => some (a, b)
    | _, _ => none

/-- R44: the first conflicting interval of a candidate. -/
def State.firstConflict (s : State) (a b : Time) : Option (Time × Time) :=
  s.standing.find? fun i => overlap a b i.1 i.2

/-! ## Event queues -/

/-- R164: an entry placed at the tail of p's queue. -/
def State.place (s : State) (p : Port) (e : Entry) : State :=
  s.modQueue p fun q => { q with entries := q.entries ++ [e] }

/-- R166: the REPLY of a command. -/
def State.reply (s : State) (p : Port) (code tag : Byte) (r : ResultCode) (data : ReplyData := .none) : State :=
  s.place p (.reply code tag r data)

/-- R163: the used count. -/
def State.used (s : State) (p : Port) : Nat := (s.port p).queue.entries.length

/-- R146: the session is OPEN or CLOSING. -/
def Session.active (x : Session) : Bool := decide (x.state = .opened ∨ x.state = .closing)

/-- The session of p is OPEN or CLOSING. -/
def State.hasSession (s : State) (p : Port) : Bool := (s.port p).session.active

/-- R169: the reserved count. -/
def State.reserved (s : State) (p : Port) : Nat :=
  s.liveCount p + if s.hasSession p then 1 else 0

/-- R170: at least n entries are neither used nor reserved. -/
def State.roomFor (s : State) (p : Port) (n : Nat) : Bool :=
  decide (s.used p + s.reserved p + n ≤ Config.queueSize)

/-! ## Claim and sessions -/

/-- R127: p holds the profile claim. -/
def State.holds (s : State) (p : Port) : Bool := decide (s.prof.holder = some p)

/-- R133, R134: p's claim, if it holds it, is released and the staged profile discarded. -/
def State.releaseClaim (s : State) (p : Port) : State :=
  if s.holds p then { s with prof := { s.prof with holder := none, staged := none } } else s

/-- R151: renewal, in OPEN or CLOSING. -/
def State.renew (s : State) (p : Port) : State :=
  match (s.port p).session.lease with
  | some c =>
    if s.hasSession p then
      s.modPort p fun q => { q with
        session := { q.session with remaining := c.period }
        queue := { q.queue with leaseLow := false } }
    else s
  | none => s

/-- R153: a lapse of p is due: lease remaining has come down to 0. A request taken first has renewed it (R162, log 28). -/
def State.lapseDue (s : State) (p : Port) : Bool :=
  !s.inReset && s.hasSession p && decide ((s.port p).session.remaining = 0)

/-- R158: a CLOSING session whose live count is 0 places SESSION_CLOSED and becomes CLOSED. -/
def State.complete (s : State) (p : Port) : State :=
  if (s.port p).session.state = .closing ∧ s.liveCount p = 0 then
    (s.place p (.sessionClosed ((s.port p).session.form.getD .drain))).modSession p fun _ => {}
  else s

/-! ## Strobes -/

/-- R110, R111: a pulse called for on p's PSTRB. -/
def State.pulse (s : State) (p : Port) : State := s.modPort p fun q => { q with strobe := .high }

end Sys2Proof.Machine
end

