-- ==== Sys2Proof/Machine/Chip.lean ====
section
/-! DEFINITION. CHIP_RESET and RESET_RELEASE (R185). -/

namespace Sys2Proof.Machine

/-- R185, R1, R2, R13, R96, R113: every block at its reset value; the levels outside the part, the waiting commands and
the divisor last latched are kept. -/
def State.blocksReset (s : State) : State :=
  { State.reset with
    lsense := s.lsense
    clock := { State.reset.clock with divisor := s.clock.divisor }
    pending := s.pending }

/-- CHIP_RESET (R185): RESETn is low. Everything in progress is abandoned and every block takes its reset value, which
nothing shows before the release (log 10). -/
def execChipReset (s : State) : Host.Outcome State Fault Refusal :=
  .next { s.blocksReset with inReset := true }

/-- R1: the tick divisor of the TBSEL pins. -/
def tickDivisor (tbsel : BitVec 2) : Nat := 8 * (tbsel.toNat + 1)

/-- R175: a link whose PCSn is low at the release ignores the transaction in progress. -/
def PortState.released (q : PortState) (pcsLow : Bool) : PortState :=
  { q with link := { q.link with state := if pcsLow then .ignore else .resting } }

/-- RESET_RELEASE (R185): at the rise of RESETn every block takes its reset value, the divisor is latched from TBSEL (R1),
and a port whose PCSn is low ignores its link until PCSn rises (R175). -/
def execResetRelease (tbsel : BitVec 2) (pcsLow : BitVec 4) (s : State) : Host.Outcome State Fault Refusal :=
  if s.inReset then
    let r := s.blocksReset
    .next { r with
      clock := { r.clock with divisor := tickDivisor tbsel }
      ports :=
        { hp0 := r.ports.hp0.released (pcsLow.getLsbD 0)
          hp1 := r.ports.hp1.released (pcsLow.getLsbD 1)
          hp2 := r.ports.hp2.released (pcsLow.getLsbD 2)
          hp3 := r.ports.hp3.released (pcsLow.getLsbD 3) } }
  else .next s

end Sys2Proof.Machine
end

