-- ==== Sys2Proof/Machine/Flags.lean ====
section
/-! DEFINITION. The line condition (R71, R72), the sticky flags (R172), PATTNn (R173) and the status summary (R176). -/

namespace Sys2Proof.Machine

/-- R71: the line condition, numbered as the status summary codes it (R186). -/
inductive Condition where
  | disabled | enabled | draining | fault
deriving DecidableEq, Repr

/-- R71: the condition of a line state. -/
def LineState.condition : LineState → Condition
  | .idle | .busy => .enabled
  | .draining => .draining
  | .fault => .fault
  | .disabled => .disabled

def Condition.number : Condition → Nat
  | .disabled => 0 | .enabled => 1 | .draining => 2 | .fault => 3

/-- R71: LINE_CHANGED set in a port whose session is OPEN or CLOSING. -/
def PortState.flagLine (q : PortState) : PortState :=
  if q.session.active then { q with queue := { q.queue with lineChanged := true } } else q

/-- R71, R72: the line moves to a state; a move that changes the condition records the cause and flags the ports. -/
def State.moveLine (s : State) (l : LineState) (cause : Cause) : State :=
  if l.condition = s.disp.line.condition then { s with disp := { s.disp with line := l } }
  else { s with disp := { s.disp with line := l, cause := cause }, ports := s.ports.map PortState.flagLine }

/-- R89: the line enters DISABLED; the encoder rests, so LOUT is at the idle level (R97). -/
def State.enterDisabled (s : State) (cause : Cause) : State :=
  let s1 := s.moveLine .disabled cause
  { s1 with
    disp := { s1.disp with phase := none, slot := none }
    echo := { s1.echo with streak := 0 }
    enc := { s1.enc with activity := .resting } }

/-- R173: PATTNn of a port is asserted. -/
def State.attention (s : State) (p : Port) : Bool :=
  let q := (s.port p).queue
  !s.inReset && (!q.entries.isEmpty || q.lineChanged || q.leaseLow || q.captureReady)

/-- R176, R186: the status summary of a port. -/
def State.summary (s : State) (p : Port) : List Byte :=
  let q := s.port p
  [byteOf (s.used p * 8 + q.session.state.number * 2) ||| bitAt 0 (s.holds p),
   byteOf (s.disp.line.condition.number * 64) ||| bitAt 5 q.queue.lineChanged ||| bitAt 4 q.queue.leaseLow
     ||| bitAt 3 q.queue.captureReady ||| 0x05]

end Sys2Proof.Machine
end

