-- ==== Sys2Proof/Machine/Retire.lean ====
section
/-! DEFINITION. Retirement (R34 to R37), release and breakage of chains (R61 to R65), the purge walk (R159) and the
discards of a LINK_RESET (R38, R39). -/

namespace Sys2Proof.Machine

/-- R35: the FRAME_DONE entry of a descriptor; its actual times stand only if it went ON_LINE. -/
def frameDone (x : Desc) (o : FrameOutcome) (stop : Time) : Entry :=
  .frameDone x.tag o (x.actualStart.map fun a => (a, stop)) x.repsSent x.mismatches

/-- R61: SENT and SENT_LATE release a successor. -/
def FrameOutcome.releases : FrameOutcome → Bool
  | .sent | .sentLate _ => true
  | .truncated | .aborted _ | .expired _ | .cancelled | .purged | .rescheduled | .chainBroken => false

/-- R61: the outcome of the successor of a frame that is not released. -/
def FrameOutcome.passOn : FrameOutcome → FrameOutcome
  | .purged => .purged
  | .sent | .sentLate _ | .truncated | .aborted _ | .expired _ | .cancelled | .rescheduled | .chainBroken =>
    .chainBroken

/-- R62 step 3: the expiry is absent or lies after now, so a released descriptor joins its queue. -/
def Expiry.open_ (e : Expiry) (now : Time) : Bool :=
  match e with
  | .absent => true
  | .at t => before now t
  | .passed => false

/-- R62: the record of a successor after its release into a queue. -/
def Desc.released (x : Desc) (stop now : Time) (number : BitVec 48) : Desc :=
  let nb := plus stop (x.offset.getD 0)
  { x with state := .waiting, notBefore := some nb, admission := some number, bypass := 0, eligible := reached nb now }

/-- R62: a released successor takes the next number and joins the tail of its priority's queue. -/
def State.release (s : State) (c : DescIdx) (stop : Time) : State :=
  let x := s.desc c
  let s1 := (s.setDesc c (x.released stop s.now s.sched.counter)).takeNumber
  { s1 with sched := { s1.sched with asap := s1.sched.asap.join (x.priority.getD 0) c } }

/-- R34: a descriptor retires with an outcome; `stop` is its actual end. Its chain follows in the same event (R61). The
completion of a CLOSING session (step 7) is left out here for the port `defer`, whose command or lapse causes the
retirement and carries it out itself. `fuel` bounds the chain (a chain has at most 16 descriptors, R47; log 25). -/
def State.retire (fuel : Nat) (d : DescIdx) (o : FrameOutcome) (stop : Time) (defer : Option Port) (s : State) : State :=
  match fuel with
  | 0 => s
  | fuel + 1 =>
    let x := s.desc d
    if x.live then
      let s1 : State := match x.owner with
        | some p => s.place p (frameDone x o stop)
        | none => s
      let s2 : State := s1.unlink d
      let s3 : State := match (s2.desc d).successor with
        | none => s2
        | some c =>
          if (s2.desc c).state = .held then
            if o.releases then
              if (s2.desc c).expiry.open_ s2.now then s2.release c stop
              else State.retire fuel c (.expired .window) stop defer
                (s2.modDesc c fun y => { y with notBefore := some (plus stop (y.offset.getD 0)) })
            else State.retire fuel c o.passOn stop defer s2
          else s2
      let s4 : State := (s3.leave d).setDesc d Desc.blank
      match x.owner with
      | some p => if defer = some p then s4 else s4.complete p
      | none => s4
    else s

/-- Enough for any chain of the table. -/
def chainFuel : Nat := 49

/-- R34 for a frame that never went on the line, or whose end the caller gives. -/
def State.retireNow (s : State) (d : DescIdx) (o : FrameOutcome) (stop : Time) (defer : Option Port) : State :=
  State.retire chainFuel d o stop defer s

/-! ## The purge walk -/

/-- A descriptor put into a list by its admission sequence number, lowest first. -/
def insertByAdmission (s : State) (d : DescIdx) : List DescIdx → List DescIdx
  | [] => [d]
  | e :: rest =>
    if ((s.desc d).admission.getD 0).toNat < ((s.desc e).admission.getD 0).toNat then d :: e :: rest
    else e :: insertByAdmission s d rest

/-- R159 pass 1: the WAITING descriptors of p by admission sequence number. -/
def State.admittedOf (s : State) (p : Port) : List DescIdx :=
  (allDescs.filter fun d => (s.desc d).ownedBy p && decide ((s.desc d).state = .waiting)).foldr
    (insertByAdmission s) []

/-- R159 pass 2: the LOADING and HELD descriptors of p in table order. -/
def State.unadmittedOf (s : State) (p : Port) : List DescIdx :=
  allDescs.filter fun d => (s.desc d).ownedBy p && decide ((s.desc d).state = .loading ∨ (s.desc d).state = .held)

/-- R65: a HELD descriptor whose predecessor is still to be purged is passed over at its own place. -/
def State.passedOver (s : State) (d : DescIdx) : Bool :=
  decide ((s.desc d).state = .held) &&
    match s.predOf d with
    | some e => (s.desc e).offLine
    | none => false

/-- R159: one place of the walk. A descriptor that has retired as a successor is not taken again. -/
def State.purgeOne (p : Port) (s : State) (d : DescIdx) : State :=
  if (s.desc d).ownedBy p && (s.desc d).offLine && !s.passedOver d then s.retireNow d .purged s.now (some p) else s

/-- R159: the purge walk of port p. -/
def State.purgeWalk (s : State) (p : Port) : State :=
  (s.admittedOf p ++ s.unadmittedOf p).foldl (State.purgeOne p) s

/-- R18: the truncate mark of p's ON_LINE descriptor, if it has one, is set. -/
def State.markOnLine (s : State) (p : Port) : State :=
  match s.disp.slot with
  | some d => if (s.desc d).ownedBy p then s.modDesc d fun x => { x with truncate := true } else s
  | none => s

/-! ## Discard and orphans -/

/-- R38, R39: what a LINK_RESET on p makes of a record: p's ON_LINE descriptor becomes an orphan, p's others are freed. -/
def Desc.afterReset (p : Port) (x : Desc) : Desc :=
  if x.ownedBy p then
    if x.state = .onLine then { x with owner := none, truncate := true, successor := none } else Desc.blank
  else x

/-- R184 steps 2 and 3. -/
def State.discardAll (s : State) (p : Port) : State :=
  let s1 := s.keepScheduled fun d => !(s.desc d).ownedBy p
  { s1 with store := { s1.store with descs := s1.store.descs.map (Desc.afterReset p) } }

end Sys2Proof.Machine
end

