-- ==== Sys2Proof/Machine/Encoding.lean ====
section
/-! DEFINITION. The Line Encoder (R96 to R112) and the sensing of LSENSE (R114): levels, the carrier, LOUT, one REFCLK
cycle and one tick boundary. -/

namespace Sys2Proof.Machine

/-- The inverse of a coded level. -/
def HalfLevel.flip : HalfLevel → HalfLevel
  | .active => .quiet
  | .quiet => .active

/-- The opposite level of a pin (R103). -/
def Level.flip : Level → Level
  | .low => .high
  | .high => .low

/-- R100: the bit at a position of the repetition: the preamble's ones, then the body, most significant bit first. -/
def bitValue (x : Desc) (m : Memory) (pos : Nat) : Bool :=
  if pos < x.preBits then true
  else
    let j := pos - x.preBits
    (readPayload x.segs m (j / 8)).getLsbD (7 - j % 8)

/-- R101, R102: the coded level of a half-cell. -/
def codedLevel (c : Coding) (bit : Bool) (h : Half) (prev : HalfLevel) : HalfLevel :=
  match c, h with
  | .nrz, _ => if bit then .active else .quiet
  | .manchester, .first => if bit then .active else .quiet
  | .manchester, .second => if bit then .quiet else .active
  | .biphase, .first => prev.flip
  | .biphase, .second => if bit then prev else prev.flip

/-- R107: the level of the half-cell in hand of a frame. -/
def Encoder.level (e : Encoder) (x : Desc) (m : Memory) : HalfLevel :=
  codedLevel x.coding (bitValue x m e.bitPos) e.half e.prevLevel

/-- R104: the burst time of a profile. -/
def Profile.burst (p : Profile) : Nat :=
  match p.duty with
  | .quarter => p.carrierPeriod / 4
  | .third => p.carrierPeriod / 3
  | .half => p.carrierPeriod / 2

/-- The frame whose half-cell is being produced, and the half-cell's level. -/
def State.producing (s : State) : Option (Desc × HalfLevel) :=
  match s.enc.activity, s.disp.slot with
  | .sending, some d =>
    if s.enc.ticks < s.prof.active.hbt then some (s.desc d, s.enc.level (s.desc d) s.store.pool) else none
  | _, _ => none

/-- R104: carrier periods are being produced. -/
def State.carrierOn (s : State) : Bool :=
  match s.producing with
  | some (x, .active) => decide (x.carrier = .on)
  | _ => false

/-- R97, R103, R104, R185: the level of LOUT. -/
def State.lout (s : State) : Level :=
  let idle := s.prof.active.idleLevel
  if s.inReset then .low
  else
    match s.producing with
    | some (x, .active) =>
      if x.carrier = .off ∨ s.enc.carrierPhase < s.prof.active.burst then Level.flip idle else idle
    | _ => idle

/-! ## REFCLK cycles -/

/-- R114: LSENSE is sensed active: one of the last CARRIER_PERIOD samples was at the opposite level. -/
def sensedActive (e : EchoMonitor) (p : Profile) : Bool :=
  match p.idleLevel with
  | .low => decide (e.sinceHigh < p.carrierPeriod)
  | .high => decide (e.sinceLow < p.carrierPeriod)

/-- R114: one sample through the two-stage synchroniser, and the marks it moves. -/
def EchoMonitor.sample (e : EchoMonitor) (pin : Level) (p : Profile) : EchoMonitor :=
  let e1 : EchoMonitor := { e with
    sync1 := pin
    sync2 := e.sync1
    sinceHigh := if e.sync2 = .high then 0 else min Config.windowMax (e.sinceHigh + 1)
    sinceLow := if e.sync2 = .low then 0 else min Config.windowMax (e.sinceLow + 1) }
  { e1 with tickQuiet := e1.tickQuiet && !sensedActive e1 p }

/-- R104: the carrier phase one REFCLK cycle on. -/
def nextPhase (p : Profile) (phase : Nat) : Nat := if phase + 1 < p.carrierPeriod then phase + 1 else 0

/-- One REFCLK cycle inside a tick (R1, R104, R114). -/
def State.cycle (s : State) : State :=
  { s with
    clock := { s.clock with prescale := s.clock.prescale + 1 }
    echo := s.echo.sample s.lsense s.prof.active
    enc := if s.carrierOn then { s.enc with carrierPhase := nextPhase s.prof.active s.enc.carrierPhase } else s.enc }

/-- So many REFCLK cycles. -/
def State.cycles : Nat → State → State
  | 0, s => s
  | n + 1, s => State.cycles n s.cycle

/-! ## The tick boundary -/

/-- R99: the half-cell is the last of the body. -/
def Encoder.lastOfBody (e : Encoder) (x : Desc) : Bool :=
  decide (e.bitPos + 1 = x.preBits + x.bodyBits ∧ e.half = .second)

/-- The half-cell in hand has been produced whole, and its end has not been acted on. -/
def State.halfEnded (s : State) : Bool :=
  decide (s.enc.activity = .sending) && decide (s.prof.active.hbt ≤ s.enc.ticks)

/-- R99: the half-cell after the one in hand. -/
def Encoder.nextHalf (e : Encoder) : Encoder :=
  match e.half with
  | .first => { e with half := .second, ticks := 0 }
  | .second => { e with half := .first, bitPos := e.bitPos + 1, ticks := 0 }

/-- R98, R99, R105: the encoder at a tick boundary inside a repetition: a half-cell ends after HBT ticks; the next one
follows at once, unless it was the last of the body (BODY_END) or an abort is pending (ECHO_STOP). -/
def Encoder.tickSending (e : Encoder) (x : Desc) (m : Memory) (p : Profile) (abort : Bool) (now : Time) : Encoder :=
  if e.ticks + 1 < p.hbt then { e with ticks := e.ticks + 1 }
  else if e.ticks + 1 = p.hbt then
    let lvl := e.level x m
    let ended := { e with ticks := p.hbt, prevLevel := lvl, lastEnd := now }
    if abort || e.lastOfBody x then { ended with carrierPhase := 0 }
    else
      let next := ended.nextHalf
      if lvl = .active ∧ next.level x m = .active then next else { next with carrierPhase := 0 }
  else e

/-- R98, R106: the encoder at a tick boundary. -/
def State.tickEncoder (s : State) (now : Time) : Encoder :=
  match s.enc.activity, s.disp.slot with
  | .sending, some d => s.enc.tickSending (s.desc d) s.store.pool s.prof.active s.echo.abortPending now
  | .gap, some d => { s.enc with ticks := min (s.enc.ticks + 1) (s.desc d).gap }
  | _, _ => s.enc

/-- R114: the quiet run at a tick boundary. -/
def EchoMonitor.tickRun (e : EchoMonitor) : EchoMonitor :=
  { e with quietRun := if e.tickQuiet then min Config.quietRunMax (e.quietRun + 1) else 0, tickQuiet := true }

/-- R153, R110: a port at a tick boundary: the lease counts down, and a pulse in progress reaches its end. -/
def PortState.tick (q : PortState) : PortState :=
  { q with
    session := if q.session.active then { q.session with remaining := q.session.remaining - 1 } else q.session
    strobe := if q.strobe = .high then .ending else q.strobe }

/-- R1, R2: a tick boundary: the prescale count returns to 0, the line time advances, and what is counted in ticks
advances. The counted mark is cleared when the bit position changes (R118). -/
def State.boundary (s : State) : State :=
  let now := s.clock.time + 1
  let enc := s.tickEncoder now
  let run := s.echo.tickRun
  { s with
    clock := { s.clock with prescale := 0, time := now }
    enc := enc
    echo := { run with counted := run.counted && decide (enc.bitPos = s.enc.bitPos) }
    ports := s.ports.map PortState.tick }

/-- R99: the encoder begins a repetition; the counted mark is clear at its first bit (R118). -/
def State.beginRepetition (s : State) : State :=
  { s with
    enc := { s.enc with
      activity := .sending, repetition := s.enc.repetition + 1, bitPos := 0, half := .first
      prevLevel := .quiet, carrierPhase := 0, ticks := 0 }
    echo := { s.echo with counted := false } }

/-- The encoder rests (R108, R109). -/
def State.restEncoder (s : State) : State := { s with enc := { s.enc with activity := .resting } }

/-- R70, R73: the phase in which a repetition begins. -/
def Desc.firstPhase (x : Desc) : Phase := if x.preBits = 0 then .body else .preamble

end Sys2Proof.Machine
end

