-- ==== Sys2Proof/Machine/Decisions.lean ====
section
/-! DEFINITION. Start decisions (R77 to R83), fault entries (R121), the end of a frame (R75) and a refused later quiet
check (R117). -/

namespace Sys2Proof.Machine

/-! ## Quiet checks and fault entries -/

/-- R115, R116: the quiet check before a first repetition passes. -/
def State.quietFirst (s : State) : Bool :=
  decide (s.prof.active.echoMode = .off ∨ s.prof.active.quiet ≤ s.echo.quietRun)

/-- R117: the quiet check before a later repetition passes. -/
def State.quietLater (s : State) (gap : Nat) : Bool :=
  decide (s.prof.active.echoMode = .off ∨ min s.prof.active.quiet gap ≤ s.echo.quietRun)

/-- R122, R124: the quiet run suffices to return from FAULT. -/
def State.quietEnough (s : State) : Bool := decide (max s.prof.active.quiet 1 ≤ s.echo.quietRun)

/-- R121: a fault entry with the cause ECHO or BLOCKED. -/
def State.faultEntry (s : State) (cause : Cause) : State :=
  if s.disp.line = .draining then s.enterDisabled cause
  else if s.echo.streak < Config.streakLimit then
    let s1 := s.moveLine .fault cause
    { s1 with
      disp := { s1.disp with phase := none }
      echo := { s1.echo with streak := s1.echo.streak + 1, holdEnd := plus s1.now s1.prof.active.faultHold } }
  else s.enterDisabled .faultLimit

/-! ## Starting a frame -/

/-- R110: STROBE_START or STROBE_END on the owner's PSTRB. -/
def State.strobeFor (s : State) (owner : Option Port) (asked : Bool) : State :=
  match owner with
  | some p => if asked then s.pulse p else s
  | none => s

/-- R82 steps 2 to 6: a frame goes ON_LINE. -/
def State.goOnLine (s : State) (d : DescIdx) : State :=
  let x := s.desc d
  let s1 := (s.keepScheduled fun e => decide (e ≠ d)).setDesc d
    { x with state := .onLine, actualStart := some s.now, repsSent := 0, mismatches := 0 }
  let s2 := s1.moveLine .busy s1.disp.cause
  let s3 : State := { s2 with
    disp := { s2.disp with
      phase := some x.firstPhase, slot := some d, plannedEnd := plus s.now (x.reservation s.prof.active) }
    enc := { s2.enc with repetition := 0 }
    echo := { s2.echo with abortPending := false } }
  s3.beginRepetition.strobeFor x.owner x.strobeStart

/-- R81: the bypass count of every descriptor counted in the walk rises by 1. -/
def State.bump (s : State) (counted : List DescIdx) : State :=
  counted.foldl (fun t d => t.modDesc d fun x => { x with bypass := x.bypass + 1 }) s

/-- R82 step 1, R83: a frame chosen by a decision starts, or the quiet check refuses it. -/
def State.attempt (s : State) (d : DescIdx) (counted : List DescIdx) : State :=
  if s.quietFirst then (s.bump counted).goOnLine d else s.faultEntry .blocked

/-- R80: an eligible descriptor fits before the next listed start. -/
def State.fits (s : State) (x : Desc) : Bool :=
  match s.nextListed with
  | none => true
  | some t => !before t (plus s.now (x.reservation s.prof.active))

/-- R80: the walk of the ASAP order: the descriptor it starts, with those it counted. -/
def State.asapWalk (s : State) : List DescIdx → List DescIdx → Option (DescIdx × List DescIdx)
  | [], _ => none
  | d :: rest, counted =>
    let x := s.desc d
    if !x.eligible then s.asapWalk rest counted
    else if s.fits x then some (d, counted)
    else if x.bypass < Config.bypassLimit then s.asapWalk rest (counted ++ [d])
    else none

/-- R78 step 3. -/
def State.asapFirstFit (s : State) : State :=
  match s.asapWalk s.sched.asap.order [] with
  | some (d, counted) => s.attempt d counted
  | none => s

/-- R79: the frame's window has not passed. -/
def Desc.inWindow (x : Desc) (start now : Time) : Bool := !before (plus start (x.slip.getD 0)) now

/-- R79: the frame, started now, would end by the start of the entry that follows it in the list. -/
def State.fitsBefore (s : State) (x : Desc) (next : Option Time) : Bool :=
  match next with
  | none => true
  | some t => !before t (plus s.now (x.reservation s.prof.active))

/-- R79: a late frame that does not start retires with this detail. -/
def State.lateDetail (s : State) (x : Desc) (start : Time) : ExpiryDetail :=
  if x.inWindow start s.now then .wouldOverlap else .window

/-- R78 steps 1 and 2: the due timed frames in list order, and then the ASAP walk. -/
def State.decideLoop : Nat → State → State
  | 0, s => s
  | fuel + 1, s =>
    match s.sched.timed with
    | [] => s.asapFirstFit
    | d :: rest =>
      let x := s.desc d
      match x.start with
      | none => s.asapFirstFit
      | some t =>
        if t = s.now then s.attempt d []
        else if before t s.now then
          if x.inWindow t s.now && s.fitsBefore x (rest.head?.bind fun e => (s.desc e).start) then s.attempt d []
          else State.decideLoop fuel (s.retireNow d (.expired (s.lateDetail x t)) s.now none)
        else s.asapFirstFit

/-- R77, R78: a dispatch decision event: a start decision while the line is IDLE, and nothing otherwise. -/
def State.startDecision (s : State) : State :=
  if s.disp.line = .idle then State.decideLoop (s.sched.timed.length + 1) s else s

/-- R77: the decision event of a listed timed frame that left the list other than by starting between two states. A frame
that leaves a queue raises none here: R77 does not list it, and R162 says it of a lapse only (log 11). -/
def State.decideIfLeft (s before_ : State) : State :=
  if s.sched.timed.length < before_.sched.timed.length then s.startDecision else s

/-! ## Frame ends -/

/-- R75 step 1: the outcome of a frame that ends. -/
def Desc.endOutcome (x : Desc) : FrameOutcome :=
  if x.repsSent < x.reps then .truncated
  else
    match x.cls, x.actualStart, x.start with
    | .timed, some a, some t => if a = t then .sent else .sentLate (distance t a)
    | _, _, _ => .sent

/-- R125: a SENT or SENT_LATE retirement clears the fault streak. -/
def State.clearStreak (s : State) (o : FrameOutcome) : State :=
  if o.releases then { s with echo := { s.echo with streak := 0 } } else s

/-- R75: the frame on the line ends. -/
def State.frameEnd (s : State) (d : DescIdx) : State :=
  let x := s.desc d
  let s1 := { s with disp := { s.disp with
    phase := some .guard, slot := none, guardEnd := plus s.now s.prof.active.guard } }
  let s2 := s1.restEncoder.retireNow d x.endOutcome s.enc.lastEnd none
  (s2.clearStreak x.endOutcome).strobeFor x.owner x.strobeEnd

/-- R117, R120: the Echo Monitor stops the frame on the line: it retires ABORTED with no guard, and a fault entry follows.
An echo stop clears abort pending and the counted mark. -/
def State.echoAbort (s : State) (d : DescIdx) (why : AbortDetail) (cause : Cause) : State :=
  let x := s.desc d
  let s1 := s.restEncoder.retireNow d (.aborted why) s.enc.lastEnd none
  let s2 := s1.strobeFor x.owner x.strobeEnd
  let s3 : State := { s2 with
    disp := { s2.disp with phase := none, slot := none }
    echo := if why = .echo then { s2.echo with abortPending := false, counted := false } else s2.echo }
  s3.faultEntry cause

/-- R74, R117: the next repetition begins, or its quiet check refuses it. -/
def State.laterRepetition (s : State) (d : DescIdx) : State :=
  if s.quietLater (s.desc d).gap then
    ({ s with disp := { s.disp with phase := some (s.desc d).firstPhase } }).beginRepetition
  else s.echoAbort d .blocked .blocked

end Sys2Proof.Machine
end

