-- ==== Sys2Proof/Machine/Clock.lean ====
section
/-! DEFINITION. The clock and the pins: TICK, LEASE_LOW, LAPSE, CAPTURE_EDGE, STROBE_PULSE_END, LSENSE_CHANGE and
CARRIER_BURST_END. An event that its rule does not raise in the state has no effect (log 1); while RESETn is low none is
raised (R185). -/

namespace Sys2Proof.Machine

/-- R1: the REFCLK cycles left before the tick boundary. -/
def State.cyclesLeft (s : State) : Nat := s.clock.divisor - s.clock.prescale

/-- R1, R2: the rest of the tick and its boundary. -/
def State.wholeTick (s : State) : State := (State.cycles s.cyclesLeft s).boundary

/-- TICK (R1, R2). -/
def execTick (s : State) : Host.Outcome State Fault Refusal :=
  if s.inReset then .next s else .next s.wholeTick

/-- R153: lease remaining of p has come down to the threshold of its class. -/
def State.leaseLowDue (s : State) (p : Port) : Bool :=
  match (s.port p).session.lease with
  | some c => !s.inReset && s.hasSession p && decide ((s.port p).session.remaining ≤ c.threshold)
  | none => false

/-- LEASE_LOW (R153). -/
def execLeaseLow (p : Port) (s : State) : Host.Outcome State Fault Refusal :=
  if s.leaseLowDue p then .next (s.modQueue p fun q => { q with leaseLow := true }) else .next s

/-- R160 step 4: the tag of p's descriptor on the line, if it has one there. -/
def State.onLineTag (s : State) (p : Port) : Option Byte :=
  match s.disp.slot with
  | some d => if (s.desc d).ownedBy p then some (s.desc d).tag else none
  | none => none

/-- R160 steps 1 to 5. -/
def State.lapse (s : State) (p : Port) : State :=
  let x := (s.port p).session
  let s1 := s.releaseClaim p
  let s2 := s1.purgeWalk p
  let s3 := s2.markOnLine p
  let s4 := s3.place p (.sessionLapsed (x.lease.getD .l0) x.state (s1.liveCount p - s2.liveCount p)
    (s3.onLineTag p) (s.holds p))
  s4.modPort p fun q => { q with session := { state := .lapsed } }

/-- R162: the decision event of a frame that a lapse purged out of the timed list or a queue. R77 names the list only; the
model follows R162 for a lapse (log 11). -/
def State.decideIfPurged (s before_ : State) : State :=
  if s.sched.timed.length < before_.sched.timed.length ∨ s.sched.asap.order.length < before_.sched.asap.order.length then
    s.startDecision
  else s

/-- LAPSE (R160); the start decision of the listed and queued frames it purges is taken at its end (R162, log 11). -/
def execLapse (p : Port) (s : State) : Host.Outcome State Fault Refusal :=
  if s.lapseDue p then .next ((s.lapse p).decideIfPurged s) else .next s

/-- R7: what a capture edge does to a port. -/
def PortState.captureEdge (q : PortState) (now : Time) : PortState :=
  if q.capture.full then { q with capture := { q.capture with overrun := true } }
  else { q with
    capture := { full := true, time := now, overrun := false }
    queue := { q.queue with captureReady := true } }

/-- R6: one sample of PCAPT: a HIGH one after a LOW one is a capture edge. -/
def PortState.sampleCapture (q : PortState) (now : Time) (sample : Level) : PortState :=
  let r := if q.pcapt = some .low ∧ sample = .high then q.captureEdge now else q
  { r with pcapt := some sample }

/-- CAPTURE_EDGE (R6, R7): samples of PCAPT at the present line time; while RESETn is low the pin is not sampled. -/
def execCaptureEdge (pin : CapturePin) (s : State) : Host.Outcome State Fault Refusal :=
  if s.inReset then .next s
  else .next (s.modPort pin.port fun q => pin.samples.foldl (fun r l => r.sampleCapture s.now l) q)

/-- STROBE_PULSE_END (R110): a pulse whose tick boundary has come ends. -/
def execStrobePulseEnd (p : Port) (s : State) : Host.Outcome State Fault Refusal :=
  if !s.inReset ∧ (s.port p).strobe = .ending then .next (s.modPort p fun q => { q with strobe := .low }) else .next s

/-- LSENSE_CHANGE (R114): REFCLK cycles of the tick in hand pass, short of its boundary, and the pin takes the level. -/
def execLsenseChange (cycles : Nat) (level : Level) (s : State) : Host.Outcome State Fault Refusal :=
  if s.inReset then .next { s with lsense := level }
  else .next { State.cycles (min cycles (s.cyclesLeft - 1)) s with lsense := level }

/-- R104: the REFCLK cycles to the end of the burst in hand, when that end lies inside the tick. -/
def State.burstLeft (s : State) : Option Nat :=
  let n := s.prof.active.burst - s.enc.carrierPhase
  if s.carrierOn ∧ 0 < n ∧ n < s.cyclesLeft then some n else none

/-- CARRIER_BURST_END (R104): the burst in hand runs to its end, where LOUT returns to the idle level; the REFCLK cycles
that follow bring the rest of the period and then a new burst. -/
def execCarrierBurstEnd (s : State) : Host.Outcome State Fault Refusal :=
  if s.inReset then .next s
  else
    match s.burstLeft with
    | some n => .next (State.cycles n s)
    | none => .next s

end Sys2Proof.Machine
end

