-- ==== Sys2Proof/Machine/Links.lean ====
section
/-! DEFINITION. The transactions of a host port link (R175 to R183): the fall and the rise of PCSn, the bytes that cross the
link, the acceptance of a REQUEST, and the steps every taken request makes before its command acts. A row that takes a
command, an entry or a reset carries the bytes up to the one that decides; where the link is not in that transaction
already, the row begins with the rise and the fall of PCSn (log 9). -/

namespace Sys2Proof.Machine

/-- R186: the acceptance codes. -/
inductive Acceptance where
  | accepted | backpressure | crcFail | framing
deriving DecidableEq, Repr

def Acceptance.code : Acceptance → Byte
  | .accepted => 0x01 | .backpressure => 0x02 | .crcFail => 0x03 | .framing => 0x04

/-- R180: an error count raised, saturating. -/
def raise (n : Nat) : Nat := min Config.linkCountMax (n + 1)

/-- R180: the CRC-error count rises by 1. -/
def Link.crcError (l : Link) : Link := { l with crcErrors := raise l.crcErrors }

/-- R180: the framing-error count rises by 1. -/
def Link.framingError (l : Link) : Link := { l with framingErrors := raise l.framingErrors }

/-! ## PCSn and bytes -/

/-- R175, R176: PCSn falls, and the status summary is fixed for the transaction. -/
def Link.fall (l : Link) (summary : List Byte) : Link :=
  { l with state := .kind, byteCount := 0, out := summary, pad := 0, miso := [] }

/-- R175, R178, R183: PCSn rises; in REQUEST, before the CRC byte, and in CONFIRM this is a framing error. -/
def Link.rise (l : Link) : Link :=
  let r := { l with state := .resting, out := [], pad := 0 }
  match l.state with
  | .request | .confirm => r.framingError
  | .resting | .kind | .answer | .poll | .ignore => r

/-- R175, R186: so many bytes complete, and what is fixed for them goes out on PMISO. -/
def Link.drive (l : Link) (k : Nat) : Link :=
  { l with
    byteCount := l.byteCount + k
    miso := l.miso ++ (l.out ++ List.replicate k l.pad).take k
    out := l.out.drop k }

/-- R177: byte 0 names the kind of the transaction. -/
def Link.readKind (l : Link) (b : Byte) : Link :=
  if b = Config.kindRequest then { l with state := .request }
  else if b = Config.kindPoll then { l with state := .poll }
  else if b = Config.kindReset then { l with state := .confirm }
  else if b = 0 then { l with state := .ignore }
  else { l with state := .ignore }.framingError

/-- R178: byte 1 of a REQUEST is the length n of the message. With n outside 3 to 40 every later byte on PMISO is FRAMING. -/
def Link.readLength (l : Link) (n : Byte) : Link :=
  if n.toNat < Config.headBytes ∨ Config.maxMessage < n.toNat then
    { l with state := .ignore, pad := Acceptance.framing.code }.framingError
  else { l with length := n.toNat, buffer := [], crc := crcByte 0 n }

/-- R182: what a POLL sends from byte 2 on: of an entry at the head its length, its bytes and its CRC; of an empty queue
length 0. -/
def pollBytes (head : Option Entry) : List Byte :=
  match head with
  | some e => 20 :: e.bytes ++ [crc8 e.bytes]
  | none => [0]

/-- R175, R177, R178, R182: a byte from the host completes that decides nothing (`Link.decisive`). A POLL has its entry, the
head of the queue, fixed at byte 1, and goes to IGNORE when all it sends has been sent. Only a REQUEST writes the receive
buffer and the CRC accumulator (log 30). -/
def Link.byte (l : Link) (b : Byte) (head : Option Entry) : Link :=
  let m := l.drive 1
  match l.state with
  | .kind => m.readKind b
  | .request =>
    if l.byteCount = 1 then m.readLength b else { m with buffer := l.buffer ++ [b], crc := crcByte l.crc b }
  | .poll =>
    if l.byteCount = 1 then { m with out := pollBytes head }
    else if m.out = [] then { m with state := .ignore }
    else m
  | .resting | .answer | .confirm | .ignore => m

/-- R179, R182, R183: the next byte decides: the CRC byte of a REQUEST, the CRC byte of an entry, the confirm byte. -/
def Link.decisive (l : Link) : Bool :=
  match l.state with
  | .request => decide (l.byteCount = l.length + 2)
  | .poll => decide (l.byteCount = 23)
  | .confirm => true
  | .resting | .kind | .answer | .ignore => false

/-- Bytes from the host that decide nothing; none where one of them would. -/
def Link.clock (head : Option Entry) : List Byte → Link → Option Link
  | [], l => some l
  | b :: rest, l => if l.decisive then none else Link.clock head rest (l.byte b head)

/-- A transaction of p begins with the rise of PCSn that ends the one before and its fall, unless it goes on already. -/
def State.begun (s : State) (p : Port) (goesOn : Bool) : State :=
  if goesOn then s else s.modLink p fun l => l.rise.fall (s.summary p)

/-! ## REQUEST -/

/-- R178: a message: command code, request tag, field count, fields. -/
def message (code tag : Byte) (fields : List Byte) : List Byte :=
  [code, tag, byteOf fields.length] ++ fields

/-- R178: the CRC accumulator after the length byte and the message. -/
def messageCrc (msg : List Byte) : Byte := crc8 (byteOf msg.length :: msg)

/-- R186: the bytes on PMOSI of a REQUEST; a length over 255, which its byte cannot hold, is sent as 255. -/
def requestBytes (msg : List Byte) (crc : Byte) : List Byte :=
  Config.kindRequest :: byteOf (min 255 msg.length) :: msg ++ [crc]

/-- R175: the bytes that a link in REQUEST has received. -/
def Link.received (l : Link) : List Byte :=
  Config.kindRequest :: if l.byteCount ≤ 1 then [] else byteOf l.length :: l.buffer

/-- The link can go on to the end of a REQUEST: PCSn has fallen, and what it has received begins the REQUEST's bytes. -/
def Link.leadsTo (l : Link) (sent : List Byte) : Bool :=
  decide (l.state = .kind) || decide (l.state = .request) && l.received.isPrefixOf sent

/-- R175, R179: the link when the CRC byte of a REQUEST has completed: ANSWER, with the acceptance code to be sent as the
next byte and 0x00 after it; the receive buffer and the CRC accumulator stand so until another REQUEST (log 30). -/
def Link.answered (l : Link) (msg : List Byte) (crc : Byte) (a : Acceptance) : Link :=
  { l.drive (msg.length + 3 - l.byteCount) with
    state := .answer, length := msg.length, buffer := msg ++ [crc], crc := messageCrc msg, out := [a.code] }

/-- R179: the judgement of a whole REQUEST, in its order. -/
def State.judge (s : State) (p : Port) (msg : List Byte) (crc : Byte) : Acceptance :=
  if crc ≠ messageCrc msg then .crcFail
  else if (msg[2]?.elim 0 BitVec.toNat) + Config.headBytes ≠ msg.length then .framing
  else if s.roomFor p 1 then .accepted
  else .backpressure

/-- A REQUEST's bytes cross the link of p, on from where it stands, and it is answered with an acceptance code. -/
def State.answered (s : State) (p : Port) (msg : List Byte) (crc : Byte) (a : Acceptance) : State :=
  (s.begun p ((s.port p).link.leadsTo (requestBytes msg crc))).modLink p fun l => l.answered msg crc a

/-- R179: a REQUEST that the link does not take. -/
def State.refuse (s : State) (p : Port) (msg : List Byte) (crc : Byte) (a : Acceptance) : State :=
  let s1 := s.answered p msg crc a
  match a with
  | .crcFail => s1.modLink p Link.crcError
  | .framing => s1.modLink p Link.framingError
  | .backpressure | .accepted => s1

/-- R178: a REQUEST whose message is too long to be delimited. -/
def State.tooLong (s : State) (p : Port) (msg : List Byte) : State :=
  (s.begun p (decide ((s.port p).link.state = .kind))).modLink p fun l =>
    (requestBytes msg (messageCrc msg)).foldl (fun m b => m.byte b none) l

/-- R179: a REQUEST of a command code with a request tag and field bytes: where the link takes it, the lease is renewed
(R151) and `act` carries out the command; a message over 40 bytes cannot be delimited (R178); and while RESETn is low
there is no transaction (R185). A request taken first at the tick of a lapse renews the lease, and no lapse occurs at that
tick (R151, R162); the lapse that R12, R91 and R143 have follow is that of the renewed lease (log 28). -/
def State.request (s : State) (p : Port) (code tag : Byte) (fields : List Byte) (act : State → State) : State :=
  if s.inReset then s
  else
    let msg := message code tag fields
    if Config.maxMessage < msg.length then s.tooLong p msg
    else
      match s.judge p msg (messageCrc msg) with
      | .accepted => act ((s.answered p msg (messageCrc msg) .accepted).renew p)
      | a => s.refuse p msg (messageCrc msg) a

/-- R154: the session of p is CLOSED or LAPSED, which most commands refuse NO_SESSION. -/
def State.noSession (s : State) (p : Port) : Bool := !s.hasSession p

/-! ## POLL -/

/-- R171: the head entry leaves the queue. -/
def PortState.removeHead (q : PortState) : PortState := { q with queue := { q.queue with entries := q.queue.entries.tail } }

/-- R182: a byte of a POLL completes; at the CRC byte, transaction byte 23, the head entry is removed. -/
def PortState.pollByte (q : PortState) (b : Byte) : PortState :=
  let r := { q with link := q.link.byte b q.queue.entries.head? }
  if q.link.state = .poll ∧ q.link.decisive then r.removeHead else r

end Sys2Proof.Machine
end

