-- ==== Sys2Proof/Machine/Operands.lean ====
section
/-! DEFINITION. The operand forms of the commands: the field bytes of a REQUEST, read by the layouts of R186. A reader
answers none where the command's rule refuses the form BAD_FIELD. -/

namespace Sys2Proof.Machine

/-! ## Named values (R186) -/

def leaseClassOf : Nat → Option LeaseClass
  | 0 => some .l0 | 1 => some .l1 | 2 => some .l2 | 3 => some .l3 | _ => none

def closeFormOf : Nat → Option CloseForm
  | 0 => some .drain | 1 => some .purge | _ => none

def frameClassOf : Nat → Option FrameClass
  | 0 => some .timed | 1 => some .asap | 2 => some .chained | _ => none

def codingOf : Nat → Option Coding
  | 0 => some .nrz | 1 => some .manchester | 2 => some .biphase | _ => none

def carrierOf : Nat → Option Carrier
  | 0 => some .on | 1 => some .off | _ => none

def dutyOf : Nat → Option Duty
  | 0 => some .quarter | 1 => some .third | 2 => some .half | _ => none

def levelOf : Nat → Option Level
  | 0 => some .low | 1 => some .high | _ => none

def echoModeOf : Nat → Option EchoMode
  | 0 => some .off | 1 => some .count | 2 => some .abort | _ => none

/-- R31: the views of QUERY_FRAME. -/
inductive FrameView where
  | status | times
deriving DecidableEq, Repr

/-- R142: the copies of QUERY_PROFILE. -/
inductive ProfileCopy where
  | active | staged
deriving DecidableEq, Repr

/-! ## Single fields -/

/-- R148: the lease class of OPEN. -/
def readOpen : List Byte → Option LeaseClass
  | [b] => leaseClassOf b.toNat
  | _ => none

/-- R155: the form of CLOSE. -/
def readClose : List Byte → Option CloseForm
  | [b] => closeFormOf b.toNat
  | _ => none

/-- R66: the frame tag of CANCEL. -/
def readCancel : List Byte → Option Byte
  | [b] => some b
  | _ => none

/-- R31: the frame tag and the view of QUERY_FRAME. -/
def readQueryFrame : List Byte → Option (Byte × FrameView)
  | [tag, v] => if v = 0 then some (tag, .status) else if v = 1 then some (tag, .times) else none
  | _ => none

/-- R142: the copy of QUERY_PROFILE. -/
def readQueryProfile : List Byte → Option ProfileCopy
  | [b] => if b = 0 then some .active else if b = 1 then some .staged else none
  | _ => none

/-- R10: the new line time of SET_TIME. -/
def readSetTime : List Byte → Option Time
  | [a, b, c, d] => some (timeOfBytes [a, b, c, d])
  | _ => none

/-- R58, R59: the earliest time and the duration of QUERY_FREE. -/
def readQueryFree : List Byte → Option (Time × Nat)
  | [a, b, c, d, e, f, g, h] =>
    let dur := natOfBytes [e, f, g, h]
    if dur = 0 ∨ Config.longestReservation < dur then none else some (timeOfBytes [a, b, c, d], dur)
  | _ => none

/-! ## LOAD_BEGIN (R22, R23) -/

/-- R22: the fields of LOAD_BEGIN. -/
structure Shape where
  tag : Byte
  cls : FrameClass
  bodyBits : Nat
  preBits : Nat
  coding : Coding
  carrier : Carrier
  reps : Nat
  gap : Nat
  priority : Nat
  strobeStart : Bool
  strobeEnd : Bool
deriving DecidableEq, Repr

/-- R23: the ranges of a shape's fields. -/
def Shape.inRange (x : Shape) : Bool :=
  decide (1 ≤ x.bodyBits ∧ x.bodyBits ≤ 1024) && decide (x.preBits ≤ 63) && decide (1 ≤ x.reps ∧ x.reps ≤ 16)
    && decide (x.gap ≤ 65535) && decide (x.priority ≤ 3) && (decide (x.cls ≠ .timed) || decide (x.priority = 0))

/-- R22, R23, R186: LOAD_BEGIN's fields, none where one is out of range. -/
def readShape : List Byte → Option Shape
  | [tag, cls, l1, l0, pre, cod, car, reps, g1, g0, pri, acts] =>
    match frameClassOf cls.toNat, codingOf cod.toNat, carrierOf car.toNat with
    | some c, some k, some r =>
      let x : Shape := {
        tag := tag, cls := c, bodyBits := natOfBytes [l1, l0], preBits := pre.toNat, coding := k, carrier := r
        reps := reps.toNat, gap := natOfBytes [g1, g0], priority := pri.toNat
        strobeStart := acts.getLsbD 0, strobeEnd := acts.getLsbD 1 }
      if x.inRange && decide (acts.toNat < 4) then some x else none
    | _, _, _ => none
  | _ => none

def FrameClass.code : FrameClass → Byte
  | .timed => 0 | .asap => 1 | .chained => 2

def Coding.code : Coding → Byte
  | .nrz => 0 | .manchester => 1 | .biphase => 2

def Carrier.code : Carrier → Byte
  | .on => 0 | .off => 1

/-- R22, R186: the field bytes of a LOAD_BEGIN. -/
def Shape.bytes (x : Shape) : List Byte :=
  [x.tag, x.cls.code] ++ be16 x.bodyBits ++ [byteOf x.preBits, x.coding.code, x.carrier.code, byteOf x.reps]
    ++ be16 x.gap ++ [byteOf x.priority, bitAt 0 x.strobeStart ||| bitAt 1 x.strobeEnd]

/-! ## LOAD_DATA (R27) -/

/-- R27, R28 order 2: the frame tag, the offset and the payload bytes. -/
def readLoadData : List Byte → Option (Byte × Nat × List Byte)
  | tag :: off :: payload =>
    if payload.length = 0 ∨ 24 < payload.length ∨ 127 < off.toNat then none else some (tag, off.toNat, payload)
  | _ => none

/-! ## SUBMIT (R48) -/

/-- R48: the fields of SUBMIT; a timing field is present when the presence set names it. -/
structure Timing where
  tag : Byte
  start : Option Time := none
  slip : Option Nat := none
  notBefore : Option Time := none
  expiry : Option Time := none
  pred : Option Byte := none
  offset : Option Nat := none
deriving DecidableEq, Repr

/-- An item of `size` bytes at the head of `bs`, when it is present. -/
def item (present : Bool) (size : Nat) (bs : List Byte) : Option (Option (List Byte) × List Byte) :=
  if present then
    if size ≤ bs.length then some (some (bs.take size), bs.drop size) else none
  else some (none, bs)

/-- R48, R49 order 3, R186: SUBMIT's fields; none where the message carries no tag or presence set, where bit 6 or 7 of
the set is set, or where the length does not match. -/
def readTiming : List Byte → Option Timing
  | tag :: set :: rest =>
    if set.getLsbD 6 || set.getLsbD 7 then none
    else do
      let (start, r1) ← item (set.getLsbD 0) 4 rest
      let (slip, r2) ← item (set.getLsbD 1) 2 r1
      let (nb, r3) ← item (set.getLsbD 2) 4 r2
      let (exp, r4) ← item (set.getLsbD 3) 4 r3
      let (pred, r5) ← item (set.getLsbD 4) 1 r4
      let (off, r6) ← item (set.getLsbD 5) 2 r5
      if r6 = [] then
        some {
          tag := tag
          start := start.map timeOfBytes
          slip := slip.map natOfBytes
          notBefore := nb.map timeOfBytes
          expiry := exp.map timeOfBytes
          pred := pred.bind List.head?
          offset := off.map natOfBytes }
      else none
  | _ => none

/-- R48, R186: the field bytes of a SUBMIT. -/
def Timing.bytes (x : Timing) : List Byte :=
  [x.tag, bitAt 0 x.start.isSome ||| bitAt 1 x.slip.isSome ||| bitAt 2 x.notBefore.isSome
      ||| bitAt 3 x.expiry.isSome ||| bitAt 4 x.pred.isSome ||| bitAt 5 x.offset.isSome]
    ++ x.start.elim [] timeBytes ++ x.slip.elim [] be16 ++ x.notBefore.elim [] timeBytes
    ++ x.expiry.elim [] timeBytes ++ x.pred.elim [] (fun b => [b]) ++ x.offset.elim [] be16

/-- R16, R49 order 6: the presence set fits the class. -/
def Timing.fits (x : Timing) : FrameClass → Bool
  | .timed => x.start.isSome && x.notBefore.isNone && x.expiry.isNone && x.pred.isNone && x.offset.isNone
  | .asap => x.start.isNone && x.slip.isNone && x.pred.isNone && x.offset.isNone
  | .chained => x.start.isNone && x.slip.isNone && x.notBefore.isNone && x.pred.isSome && x.offset.isSome

/-! ## STAGE (R136) -/

/-- R128: the fields in table order. -/
def allProfileFields : List ProfileField :=
  [.hbt, .guard, .carrierPeriod, .duty, .idleLevel, .echoMode, .echoThreshold, .quiet, .faultHold]

/-- R186: the bytes of a profile field (log 14 for QUIET). -/
def ProfileField.size : ProfileField → Nat
  | .hbt | .guard | .carrierPeriod | .faultHold => 2
  | .duty | .idleLevel | .echoMode | .echoThreshold | .quiet => 1

/-- R128: the range of a profile field. -/
def ProfileField.inRange (f : ProfileField) (v : Nat) : Bool :=
  match f with
  | .hbt => decide (2 ≤ v ∧ v ≤ 2048)
  | .guard => decide (v ≤ 4095)
  | .carrierPeriod => decide (4 ≤ v ∧ v ≤ 1023)
  | .duty => (dutyOf v).isSome
  | .idleLevel => (levelOf v).isSome
  | .echoMode => (echoModeOf v).isSome
  | .echoThreshold => decide (1 ≤ v ∧ v ≤ 15)
  | .quiet => decide (v ≤ 255)
  | .faultHold => decide (1 ≤ v ∧ v ≤ 65535)

/-- R137: a named value written into a profile. -/
def Profile.setField (p : Profile) (f : ProfileField) (v : Nat) : Profile :=
  match f with
  | .hbt => { p with hbt := v }
  | .guard => { p with guard := v }
  | .carrierPeriod => { p with carrierPeriod := v }
  | .duty => { p with duty := (dutyOf v).getD p.duty }
  | .idleLevel => { p with idleLevel := (levelOf v).getD p.idleLevel }
  | .echoMode => { p with echoMode := (echoModeOf v).getD p.echoMode }
  | .echoThreshold => { p with echoThreshold := v }
  | .quiet => { p with quiet := v }
  | .faultHold => { p with faultHold := v }

/-- The value of a field, as R186 numbers it. -/
def Profile.field (p : Profile) : ProfileField → Nat
  | .hbt => p.hbt
  | .guard => p.guard
  | .carrierPeriod => p.carrierPeriod
  | .duty => p.duty.number
  | .idleLevel => Level.number p.idleLevel
  | .echoMode => p.echoMode.number
  | .echoThreshold => p.echoThreshold
  | .quiet => p.quiet
  | .faultHold => p.faultHold

/-- R137: the number of fields in which two profiles differ. -/
def Profile.differing (p q : Profile) : Nat := allProfileFields.countP fun f => decide (p.field f ≠ q.field f)

/-- The values of the fields named by a presence set, in table order, from the bytes that follow it; none where the
length does not match. -/
def readChanges (set : Nat) : List ProfileField → List Byte → Option (List (ProfileField × Nat))
  | [], bs => if bs = [] then some [] else none
  | f :: fs, bs => do
    let (v, rest) ← item (set.testBit f.number) f.size bs
    let more ← readChanges set fs rest
    some (v.elim more fun b => (f, natOfBytes b) :: more)

/-- R136, R137 order 2, R186: the fields STAGE names and their values; none where the message carries no presence set,
where a bit from 9 to 15 is set, or where the length does not match. -/
def readStage : List Byte → Option (List (ProfileField × Nat))
  | hi :: lo :: rest =>
    let set := natOfBytes [hi, lo]
    if 512 ≤ set then none else readChanges set allProfileFields rest
  | _ => none

/-- R137 order 4: the first named field, in table order, whose value is outside its range. -/
def firstOutOfRange (changes : List (ProfileField × Nat)) : Option ProfileField :=
  (changes.find? fun c => !c.1.inRange c.2).map (·.1)

/-- R137: every named value written. -/
def Profile.apply (p : Profile) (changes : List (ProfileField × Nat)) : Profile :=
  changes.foldl (fun q c => q.setField c.1 c.2) p

end Sys2Proof.Machine
end

