-- ==== Sys2Proof/Machine/FrameCommands.lean ====
section
/-! DEFINITION. LOAD_BEGIN, LOAD_DATA and QUERY_FRAME (R22 to R33). -/

namespace Sys2Proof.Machine

/-- R24 orders 4 to 8: why a LOAD_BEGIN whose fields are in range is refused. -/
def State.loadRefusal (s : State) (p : Port) (x : Shape) : Option ResultCode :=
  let segs := segmentsFor x.bodyBits
  if (s.findTag p x.tag).isSome then some .tagInUse
  else if Config.portLive ≤ s.liveCount p ∨ Config.portHeld < s.heldCount p + segs then some .portLimit
  else if s.firstFree = none then some .noDescriptor
  else if s.freeSegs.length < segs then some .noSegments
  else if !s.roomFor p 2 then some .noRoom
  else none

/-- R15 to R17, R25: the record of a descriptor just allocated. -/
def Shape.desc (x : Shape) (p : Port) (segs : List SegIdx) : Desc :=
  { state := .loading, owner := some p, tag := x.tag, cls := x.cls, bodyBits := x.bodyBits, preBits := x.preBits
    coding := x.coding, carrier := x.carrier, reps := x.reps, gap := x.gap
    priority := if x.cls = .timed then none else some (Fin.ofNat 4 x.priority)
    strobeStart := x.strobeStart, strobeEnd := x.strobeEnd, segs := segs }

/-- R24, R25: what a taken LOAD_BEGIN does. -/
def State.doLoadBegin (p : Port) (tag : Byte) (fields : List Byte) (s : State) : State :=
  let answer (r : ResultCode) (data : ReplyData) : State := s.reply p Config.codeLoadBegin tag r data
  if s.noSession p then answer .noSession .none
  else if (s.port p).session.state = .closing then answer .closing .none
  else
    match readShape fields with
    | none => answer .badField .none
    | some x =>
      match s.loadRefusal p x, s.firstFree with
      | none, some d =>
        let y := x.desc p (s.freeSegs.take (segmentsFor x.bodyBits))
        (s.setDesc d y).reply p Config.codeLoadBegin tag .loadReady
          (.loadReady x.tag y.bodyBytes (segmentsFor x.bodyBits))
      | some r, _ => answer r .none
      | none, none => answer .noDescriptor .none

/-- LOAD_BEGIN (R22). -/
def execLoadBegin (p : Port) (tag : Byte) (fields : List Byte) (s : State) : Host.Outcome State Fault Refusal :=
  .next (s.request p Config.codeLoadBegin tag fields (State.doLoadBegin p tag fields))

/-- R29: the payload bytes written, and the fill level advanced. -/
def State.loadPayload (s : State) (d : DescIdx) (offset : Nat) (payload : List Byte) : State :=
  let x := s.desc d
  let s1 := { s with store := { s.store with pool := writePayload x.segs offset payload s.store.pool } }
  s1.setDesc d { x with fill := offset + payload.length }

/-- R28, R29: what a taken LOAD_DATA does. -/
def State.doLoadData (p : Port) (tag : Byte) (fields : List Byte) (s : State) : State :=
  let answer (r : ResultCode) (data : ReplyData) : State := s.reply p Config.codeLoadData tag r data
  if s.noSession p then answer .noSession .none
  else
    match readLoadData fields with
    | none => answer .badField .none
    | some (ftag, off, payload) =>
      match s.findTag p ftag with
      | none => answer .notFound .none
      | some d =>
        let x := s.desc d
        if x.state ≠ .loading then answer .wrongState .none
        else if off ≠ x.fill then answer .outOfOrder (.fillLevel x.fill)
        else if x.bodyBytes < x.fill + payload.length then answer .badField .none
        else
          (s.loadPayload d off payload).reply p Config.codeLoadData tag .ok
            (.loaded (off + payload.length) (x.bodyBytes - (off + payload.length)))

/-- LOAD_DATA (R27). -/
def execLoadData (p : Port) (tag : Byte) (fields : List Byte) (s : State) : Host.Outcome State Fault Refusal :=
  .next (s.request p Config.codeLoadData tag fields (State.doLoadData p tag fields))

/-- R32: the STATUS view of a descriptor. -/
def State.statusView (s : State) (x : Desc) : StatusView :=
  { state := x.state, cls := x.cls, fill := x.fill, expected := x.bodyBytes, segments := x.segs.length
    repsSent := x.repsSent, reps := x.reps, truncate := x.truncate, bypass := x.bypass
    successor := x.successor.map fun e => (s.desc e).tag, mismatches := x.mismatches }

/-- R33: the TIMES view of a descriptor. -/
def Desc.timesView (x : Desc) : TimesView :=
  match x.state, x.cls with
  | .loading, _ | .free, _ => .loading
  | .held, _ => .held (x.predTag.getD 0) (x.offset.getD 0) x.expiry
  | .waiting, .timed => .waitingTimed (x.start.getD 0) (x.slip.getD 0) (x.resEnd.getD 0)
  | .waiting, .asap => .waitingAsap x.notBefore x.expiry
  | .waiting, .chained => .waitingChained x.notBefore (x.offset.getD 0) x.expiry
  | .onLine, .timed =>
    .onLineTimed (x.start.getD 0) (x.slip.getD 0) (distance (x.start.getD 0) (x.resEnd.getD 0))
      (distance (x.start.getD 0) (x.actualStart.getD 0))
  | .onLine, _ => .onLineOther (x.actualStart.getD 0)

/-- R32: what a taken QUERY_FRAME does. Every reply carries the capacity counts (R31, log 29). -/
def State.doQueryFrame (p : Port) (tag : Byte) (fields : List Byte) (s : State) : State :=
  let answer (r : ResultCode) (data : ReplyData) : State := s.reply p Config.codeQueryFrame tag r data
  if s.noSession p then answer .noSession (.capacity (s.capacity p))
  else
    match readQueryFrame fields with
    | none => answer .badField (.capacity (s.capacity p))
    | some (ftag, view) =>
      match s.findTag p ftag with
      | none => answer .notFound (.capacity (s.capacity p))
      | some d =>
        match view with
        | .status => answer .ok (.status (s.statusView (s.desc d)) (s.capacity p))
        | .times => answer .ok (.times (s.desc d).cls (s.desc d).timesView (s.capacity p))

/-- QUERY_FRAME (R31). -/
def execQueryFrame (p : Port) (tag : Byte) (fields : List Byte) (s : State) : Host.Outcome State Fault Refusal :=
  .next (s.request p Config.codeQueryFrame tag fields (State.doQueryFrame p tag fields))

end Sys2Proof.Machine
end

