-- ==== Sys2Proof/Machine/LineCommands.lean ====
section
/-! DEFINITION. LINE_ENABLE, LINE_DISABLE, QUERY_LINE and RECOVER (R87, R88, R93, R124). -/

namespace Sys2Proof.Machine

/-- The first tests of a holder's command without fields, in the order of R87, R88, R124, R133 and R138: session, length,
claim. -/
def State.holderRefusal (s : State) (p : Port) (fields : List Byte) : Option ResultCode :=
  if s.noSession p then some .noSession
  else if fields ≠ [] then some .badField
  else if !s.holds p then some .notHolder
  else none

/-- R87: the effect of a LINE_ENABLE that passes its tests. -/
def State.enableLine (s : State) : State :=
  match s.disp.line with
  | .disabled => (s.moveLine .idle .hostEnable).startDecision
  | .draining => s.moveLine .busy .hostEnable
  | .idle | .busy | .fault => s

/-- R87: what a taken LINE_ENABLE does. -/
def State.doLineEnable (p : Port) (tag : Byte) (fields : List Byte) (s : State) : State :=
  match s.holderRefusal p fields with
  | some r => s.reply p Config.codeLineEnable tag r
  | none =>
    if s.disp.line = .fault then s.reply p Config.codeLineEnable tag .wrongState
    else s.enableLine.reply p Config.codeLineEnable tag .ok (.lineState s.enableLine.disp.line)

/-- LINE_ENABLE (R87). -/
def execLineEnable (p : Port) (tag : Byte) (fields : List Byte) (s : State) : Host.Outcome State Fault Refusal :=
  .next (s.request p Config.codeLineEnable tag fields (State.doLineEnable p tag fields))

/-- R88: the effect of a LINE_DISABLE that passes its tests. -/
def State.disableLine (s : State) : State :=
  match s.disp.line with
  | .idle | .fault => s.enterDisabled .hostDisable
  | .busy => s.moveLine .draining .hostDisable
  | .draining | .disabled => s

/-- R88: what a taken LINE_DISABLE does. -/
def State.doLineDisable (p : Port) (tag : Byte) (fields : List Byte) (s : State) : State :=
  match s.holderRefusal p fields with
  | some r => s.reply p Config.codeLineDisable tag r
  | none => s.disableLine.reply p Config.codeLineDisable tag .ok (.lineState s.disableLine.disp.line)

/-- LINE_DISABLE (R88). -/
def execLineDisable (p : Port) (tag : Byte) (fields : List Byte) (s : State) : Host.Outcome State Fault Refusal :=
  .next (s.request p Config.codeLineDisable tag fields (State.doLineDisable p tag fields))

/-- R93: the values of a QUERY_LINE reply. -/
def State.lineReport (s : State) : ReplyData :=
  .lineReport s.disp.line s.disp.phase s.disp.cause s.echo.streak
    (s.disp.slot.bind fun d => (s.desc d).owner)
    (if s.disp.phase = some .guard then some s.disp.guardEnd else none)
    s.nextListed

/-- R93: what a taken QUERY_LINE does. -/
def State.doQueryLine (p : Port) (tag : Byte) (fields : List Byte) (s : State) : State :=
  if fields ≠ [] then s.reply p Config.codeQueryLine tag .badField
  else
    (s.modQueue p fun q => { q with lineChanged := false }).reply p Config.codeQueryLine tag .ok s.lineReport

/-- QUERY_LINE (R93). -/
def execQueryLine (p : Port) (tag : Byte) (fields : List Byte) (s : State) : Host.Outcome State Fault Refusal :=
  .next (s.request p Config.codeQueryLine tag fields (State.doQueryLine p tag fields))

/-- R124: what a taken RECOVER does. -/
def State.doRecover (p : Port) (tag : Byte) (fields : List Byte) (s : State) : State :=
  match s.holderRefusal p fields with
  | some r => s.reply p Config.codeRecover tag r
  | none =>
    if s.disp.line ≠ .fault then s.reply p Config.codeRecover tag .wrongState
    else if !s.quietEnough then s.reply p Config.codeRecover tag .senseActive
    else (s.moveLine .idle .recovered).startDecision.reply p Config.codeRecover tag .ok

/-- RECOVER (R124). -/
def execRecover (p : Port) (tag : Byte) (fields : List Byte) (s : State) : Host.Outcome State Fault Refusal :=
  .next (s.request p Config.codeRecover tag fields (State.doRecover p tag fields))

end Sys2Proof.Machine
end

