-- ==== Sys2Proof/Machine/LineEvents.lean ====
section
/-! DEFINITION. The frame on the line: PREAMBLE_END, BODY_END, GAP_END, GUARD_END, COMPARISON_EVENT, ECHO_STOP and
HOLD_END. An event that its rule does not raise in the state has no effect (log 1). -/

namespace Sys2Proof.Machine

/-- R73: the encoder has ended the last preamble half-cell. -/
def State.preambleEnded (s : State) : Option DescIdx :=
  match s.disp.slot with
  | some d =>
    if !s.inReset ∧ s.disp.phase = some .preamble ∧ s.enc.activity = .sending
        ∧ (s.desc d).preBits ≤ s.enc.bitPos then some d else none
  | none => none

/-- PREAMBLE_END (R73): the phase moves from PREAMBLE to BODY. -/
def execPreambleEnd (s : State) : Host.Outcome State Fault Refusal :=
  match s.preambleEnded with
  | some _ => .next { s with disp := { s.disp with phase := some .body } }
  | none => .next s

/-- R74: the last body half-cell of a repetition has ended, with no abort pending (R119). -/
def State.bodyEnded (s : State) : Option DescIdx :=
  match s.disp.slot with
  | some d =>
    if !s.inReset ∧ s.disp.phase = some .body ∧ s.halfEnded ∧ s.enc.lastOfBody (s.desc d)
        ∧ s.echo.abortPending = false then some d else none
  | none => none

/-- R74 at the end of a body: repetitions sent rises, and a gap, the next repetition or the frame's end follows. -/
def State.endBody (s : State) (d : DescIdx) : State :=
  let s1 := s.modDesc d fun x => { x with repsSent := x.repsSent + 1 }
  let x := s1.desc d
  if !x.truncate ∧ x.repsSent < x.reps then
    if x.gap = 0 then s1.laterRepetition d
    else { s1 with
      disp := { s1.disp with phase := some .gap }
      enc := { s1.enc with activity := .gap, ticks := 0 } }
  else s1.frameEnd d

/-- BODY_END (R74). -/
def execBodyEnd (s : State) : Host.Outcome State Fault Refusal :=
  match s.bodyEnded with
  | some d => .next (s.endBody d)
  | none => .next s

/-- R106: the gap has run its length. -/
def State.gapEnded (s : State) : Option DescIdx :=
  match s.disp.slot with
  | some d =>
    if !s.inReset ∧ s.disp.phase = some .gap ∧ s.enc.activity = .gap ∧ (s.desc d).gap ≤ s.enc.ticks then some d
    else none
  | none => none

/-- GAP_END (R74): with the truncate mark set the frame ends, and otherwise the next repetition begins. -/
def execGapEnd (s : State) : Host.Outcome State Fault Refusal :=
  match s.gapEnded with
  | some d => if (s.desc d).truncate then .next (s.frameEnd d) else .next (s.laterRepetition d)
  | none => .next s

/-- R76: the guard end is reached in phase GUARD. -/
def State.guardEnded (s : State) : Bool :=
  !s.inReset && decide (s.disp.phase = some .guard) && reached s.disp.guardEnd s.now

/-- GUARD_END (R76, R89). -/
def execGuardEnd (s : State) : Host.Outcome State Fault Refusal :=
  if s.guardEnded then
    match s.disp.line with
    | .busy =>
      .next (({ s with disp := { s.disp with phase := none } }).moveLine .idle s.disp.cause).startDecision
    | .draining => .next (s.enterDisabled .drainEnd)
    | .disabled | .idle | .fault => .next s
  else .next s

/-- R98, R118: the middle tick boundary of a half-cell under COUNT or ABORT, with the frame on the line. -/
def State.comparing (s : State) : Option DescIdx :=
  match s.disp.slot with
  | some d =>
    if !s.inReset ∧ s.enc.activity = .sending ∧ s.prof.active.echoMode ≠ .off ∧ s.clock.prescale = 0
        ∧ s.enc.ticks = s.prof.active.hbt / 2 then some d else none
  | none => none

/-- R118: the expected level differs from what is sensed. -/
def State.mismatch (s : State) (d : DescIdx) : Bool :=
  decide (s.enc.level (s.desc d) s.store.pool = .active) != sensedActive s.echo s.prof.active

/-- R118, R119: a mismatch is counted, and under ABORT the threshold sets abort pending. -/
def State.countMismatch (s : State) (d : DescIdx) : State :=
  let n := min Config.mismatchMax ((s.desc d).mismatches + 1)
  let s1 := s.modDesc d fun x => { x with mismatches := n }
  { s1 with echo := { s1.echo with
      counted := true
      abortPending := s1.echo.abortPending
        || decide (s1.prof.active.echoMode = .abort ∧ n = s1.prof.active.echoThreshold) } }

/-- COMPARISON_EVENT (R118, R119). -/
def execComparisonEvent (s : State) : Host.Outcome State Fault Refusal :=
  match s.comparing with
  | some d => if s.mismatch d && !s.echo.counted then .next (s.countMismatch d) else .next s
  | none => .next s

/-- R119, R120: the half-cell in which abort pending was set has ended. -/
def State.stopDue (s : State) : Option DescIdx :=
  match s.disp.slot with
  | some d => if !s.inReset ∧ s.halfEnded ∧ s.echo.abortPending then some d else none
  | none => none

/-- R120: the echo stop. -/
def State.echoStopped (s : State) (d : DescIdx) : State :=
  let s1 := if s.enc.lastOfBody (s.desc d) then s.modDesc d fun x => { x with repsSent := x.repsSent + 1 } else s
  s1.echoAbort d .echo .echo

/-- ECHO_STOP (R120). -/
def execEchoStop (s : State) : Host.Outcome State Fault Refusal :=
  match s.stopDue with
  | some d => .next (s.echoStopped d)
  | none => .next s

/-- R122: the fault hold end is reached in FAULT. -/
def State.holdEnded (s : State) : Bool :=
  !s.inReset && decide (s.disp.line = .fault) && reached s.echo.holdEnd s.now

/-- R122: the hold restarts. -/
def State.restartHold (s : State) : State :=
  { s with echo := { s.echo with holdEnd := plus s.now s.prof.active.faultHold } }

/-- HOLD_END (R122). -/
def execHoldEnd (s : State) : Host.Outcome State Fault Refusal :=
  if s.holdEnded then
    if s.quietEnough then .next (s.moveLine .idle .holdEnd).startDecision else .next s.restartHold
  else .next s

end Sys2Proof.Machine
end

