-- ==== Sys2Proof/Machine/LinkCommands.lean ====
section
/-! DEFINITION. QUERY_LINK, UNKNOWN_COMMAND and the transactions of the links: POLL, VOID_TRANSACTION, LINK_RESET,
FAILED_CONFIRM and REQUEST_NOT_TAKEN (R168, R177 to R184). While RESETn is low the part takes no transaction (R185). -/

namespace Sys2Proof.Machine

/-- R181: what a taken QUERY_LINK does. -/
def State.doQueryLink (p : Port) (tag : Byte) (fields : List Byte) (s : State) : State :=
  let l := (s.port p).link
  if fields ≠ [] then s.reply p Config.codeQueryLink tag .badField
  else s.reply p Config.codeQueryLink tag .ok (.link l.crcErrors l.framingErrors p)

/-- QUERY_LINK (R181). -/
def execQueryLink (p : Port) (tag : Byte) (fields : List Byte) (s : State) : Host.Outcome State Fault Refusal :=
  .next (s.request p Config.codeQueryLink tag fields (State.doQueryLink p tag fields))

/-- UNKNOWN_COMMAND (R168): refused in every session state; a code that names a command makes no such step (log 1). -/
def execUnknownCommand (p : Port) (code tag : Byte) (fields : List Byte) (s : State) : Host.Outcome State Fault Refusal :=
  if Config.knownCodes.contains code then .next s
  else .next (s.request p code tag fields fun t => t.reply p code tag .unknownCommand)

/-- R182: the bytes of a POLL from the fall of PCSn, or on from where the transaction stands, up to so many of them. -/
def State.pollLink (s : State) (p : Port) (bytes : Nat) : State :=
  let l := (s.port p).link
  (s.begun p (decide (l.state = .kind ∨ l.state = .poll))).modPort p fun q =>
    (((Config.kindPoll :: List.replicate bytes 0).take bytes).drop q.link.byteCount).foldl PortState.pollByte q

/-- POLL (R171, R182): the head entry is removed when its CRC byte, transaction byte 23, completes. -/
def execPoll (p : Port) (bytes : Nat) (s : State) : Host.Outcome State Fault Refusal :=
  if s.inReset then .next s else .next (s.pollLink p bytes)

/-- R175, R177, R178, R182: a fall of PCSn, bytes, a rise; none where a byte decides, or where the rise is a LINK_RESET's
that FAILED_CONFIRM stands for. -/
def Link.void (l : Link) (summary : List Byte) (head : Option Entry) (stretch : Stretch) : Option Link :=
  match (if stretch.falls then l.rise.fall summary else l).clock head stretch.mosi with
  | some m => if stretch.rises then (if m.state = .confirm then none else some m.rise) else some m
  | none => none

/-- VOID_TRANSACTION (R175 to R178): the transactions that come to nothing, and the stretches of one that take no command,
entry or reset. A stretch in which a byte decides, or that meets PCSn high without lowering it, is no such step (log 1). -/
def execVoidTransaction (p : Port) (stretch : Stretch) (s : State) : Host.Outcome State Fault Refusal :=
  let q := s.port p
  if s.inReset ∨ (stretch.falls = false ∧ q.link.state = .resting) then .next s
  else
    match q.link.void (s.summary p) q.queue.entries.head? stretch with
    | some l => .next (s.modLink p fun _ => l)
    | none => .next s

/-- R184 steps 4 to 7 for the port itself: a pulse in progress on PSTRB runs on (R111), and so does the sampling of PCAPT
(R6). -/
def PortState.afterReset (q : PortState) : PortState :=
  { q with
    session := {}
    queue := {}
    capture := {}
    link := { q.link with crcErrors := 0, framingErrors := 0 } }

/-- R184: the effects of a LINK_RESET in its order. -/
def State.resetLink (s : State) (p : Port) : State :=
  ((s.releaseClaim p).discardAll p).modPort p PortState.afterReset

/-- R183: the link when the byte after 0xC3 has completed: IGNORE, with 0x00 to be sent until PCSn rises. -/
def Link.confirmRead (l : Link) : Link := { l.drive (2 - l.byteCount) with state := .ignore }

/-- A LINK_RESET's bytes begin on the link of p, unless they have begun. -/
def State.begunReset (s : State) (p : Port) : State :=
  let l := (s.port p).link
  s.begun p (decide (l.state = .kind ∨ l.state = .confirm))

/-- LINK_RESET (R183, R184); the start decision of the listed frames it discards is taken at its end (log 11). -/
def execLinkReset (p : Port) (s : State) : Host.Outcome State Fault Refusal :=
  if s.inReset then .next s
  else .next ((((s.begunReset p).modLink p Link.confirmRead).resetLink p).decideIfLeft s)

/-- R183: a LINK_RESET whose confirm byte is another one, or is cut off by PCSn. -/
def Link.confirmFailed (l : Link) (confirm : Option Byte) : Link :=
  match confirm with
  | some _ => l.confirmRead.framingError
  | none => { l.drive (1 - l.byteCount) with state := .confirm }.rise

/-- FAILED_CONFIRM (R183): void, with the framing-error count raised; the confirm byte 0x3C makes no such step (log 1). -/
def execFailedConfirm (p : Port) (confirm : Option Byte) (s : State) : Host.Outcome State Fault Refusal :=
  if s.inReset ∨ confirm = some Config.confirmByte then .next s
  else .next ((s.begunReset p).modLink p fun l => l.confirmFailed confirm)

/-- REQUEST_NOT_TAKEN (R179): a REQUEST judged CRC_FAIL, FRAMING or BACKPRESSURE is not acted on. One that the link would
accept, or whose length cannot be delimited (R178), makes no such step (log 1). -/
def execRequestNotTaken (p : Port) (msg : List Byte) (crc : Byte) (s : State) : Host.Outcome State Fault Refusal :=
  if s.inReset ∨ msg.length < Config.headBytes ∨ Config.maxMessage < msg.length then .next s
  else
    match s.judge p msg crc with
    | .accepted => .next s
    | a => .next (s.refuse p msg crc a)

end Sys2Proof.Machine
end

