-- ==== Sys2Proof/Machine/ProfileCommands.lean ====
section
/-! DEFINITION. CLAIM, RELEASE, STAGE, COMMIT and QUERY_PROFILE (R131 to R144). -/

namespace Sys2Proof.Machine

/-- R131: the claim granted to p, with a staged copy of the active profile. -/
def State.grant (s : State) (p : Port) : State :=
  { s with prof := { s.prof with holder := some p, staged := some s.prof.active } }

/-- R131: what a taken CLAIM does. -/
def State.doClaim (p : Port) (tag : Byte) (fields : List Byte) (s : State) : State :=
  let answer (r : ResultCode) (data : ReplyData) : State := s.reply p Config.codeClaim tag r data
  if (s.port p).session.state ≠ .opened then answer .noSession .none
  else if fields ≠ [] then answer .badField .none
  else if s.holds p then answer .ok (.claim .heldAlready)
  else if s.prof.holder.isSome then answer .claimed .none
  else (s.grant p).reply p Config.codeClaim tag .ok (.claim .granted)

/-- CLAIM (R131). -/
def execClaim (p : Port) (tag : Byte) (fields : List Byte) (s : State) : Host.Outcome State Fault Refusal :=
  .next (s.request p Config.codeClaim tag fields (State.doClaim p tag fields))

/-- R133: what a taken RELEASE does. -/
def State.doRelease (p : Port) (tag : Byte) (fields : List Byte) (s : State) : State :=
  match s.holderRefusal p fields with
  | some r => s.reply p Config.codeRelease tag r
  | none => (s.releaseClaim p).reply p Config.codeRelease tag .ok

/-- RELEASE (R133). -/
def execRelease (p : Port) (tag : Byte) (fields : List Byte) (s : State) : Host.Outcome State Fault Refusal :=
  .next (s.request p Config.codeRelease tag fields (State.doRelease p tag fields))

/-- R127: the staged profile, which is present while a port holds the claim. -/
def State.stagedProfile (s : State) : Profile := s.prof.staged.getD s.prof.active

/-- R137: what a taken STAGE does. -/
def State.doStage (p : Port) (tag : Byte) (fields : List Byte) (s : State) : State :=
  let answer (r : ResultCode) (data : ReplyData) : State := s.reply p Config.codeStage tag r data
  if s.noSession p then answer .noSession .none
  else
    match readStage fields with
    | none => answer .badField .none
    | some changes =>
      if !s.holds p then answer .notHolder .none
      else
        match firstOutOfRange changes with
        | some f => answer .badField (.badProfileField f)
        | none =>
          let new := s.stagedProfile.apply changes
          ({ s with prof := { s.prof with staged := some new } }).reply p Config.codeStage tag .ok
            (.staged (new.differing s.prof.active))

/-- STAGE (R136). -/
def execStage (p : Port) (tag : Byte) (fields : List Byte) (s : State) : Host.Outcome State Fault Refusal :=
  .next (s.request p Config.codeStage tag fields (State.doStage p tag fields))

/-- R140: what the revalidation walk keeps as it goes: the state, the last kept end, and the counts of R139. -/
structure Walk where
  state : State
  lastEnd : Option Time
  rescheduled : Nat
  broken : Nat

/-- R140: the descriptor's start is before the last kept end. -/
def Walk.rejects (w : Walk) (start : Time) : Bool :=
  match w.lastEnd with
  | none => false
  | some e => before start e

/-- R140, R141: one listed descriptor judged under the new profile. -/
def Walk.judge (w : Walk) (d : DescIdx) : Walk :=
  let x := w.state.desc d
  let start := x.start.getD 0
  let stop := plus start (x.reservation w.state.prof.active)
  if w.rejects start then
    { w with
      state := w.state.retireNow d .rescheduled w.state.now none
      rescheduled := w.rescheduled + 1
      broken := w.broken + (w.state.chainAfter chainFuel d).length }
  else { w with state := w.state.setDesc d { x with resEnd := some stop }, lastEnd := some stop }

/-- R140: the revalidation walk of the timed list. -/
def State.revalidate (s : State) : Walk :=
  s.sched.timed.foldl Walk.judge { state := s, lastEnd := none, rescheduled := 0, broken := 0 }

/-- R139 steps 1 and 2, R113: the staged profile becomes active, the staged copy stays, and the Echo Monitor's marks are
clear. LOUT follows the new IDLE_LEVEL, which it is a function of. -/
def State.activate (s : State) : State :=
  { s with
    prof := { s.prof with active := s.stagedProfile, staged := some s.stagedProfile }
    echo := { s.echo with counted := false, abortPending := false } }

/-- R138, R139: what a taken COMMIT does. -/
def State.doCommit (p : Port) (tag : Byte) (fields : List Byte) (s : State) : State :=
  match s.holderRefusal p fields with
  | some r => s.reply p Config.codeCommit tag r
  | none =>
    if s.disp.line ≠ .disabled then s.reply p Config.codeCommit tag .notDisabled
    else
      let w := s.activate.revalidate
      w.state.reply p Config.codeCommit tag .ok (.committed w.rescheduled w.broken)

/-- COMMIT (R138). -/
def execCommit (p : Port) (tag : Byte) (fields : List Byte) (s : State) : Host.Outcome State Fault Refusal :=
  .next (s.request p Config.codeCommit tag fields (State.doCommit p tag fields))

/-- R142: the claim as seen from p. -/
def State.claimView (s : State) (p : Port) : ClaimView :=
  match s.prof.holder with
  | none => .unheld
  | some q => if q = p then .byThisPort else .byOther

/-- R142: what a taken QUERY_PROFILE does. -/
def State.doQueryProfile (p : Port) (tag : Byte) (fields : List Byte) (s : State) : State :=
  let answer (r : ResultCode) (data : ReplyData) : State := s.reply p Config.codeQueryProfile tag r data
  match readQueryProfile fields with
  | none => answer .badField .none
  | some .active => answer .ok (.profile s.prof.active (s.claimView p))
  | some .staged =>
    if !s.holds p then answer .notHolder .none else answer .ok (.profile s.stagedProfile (s.claimView p))

/-- QUERY_PROFILE (R142). -/
def execQueryProfile (p : Port) (tag : Byte) (fields : List Byte) (s : State) : Host.Outcome State Fault Refusal :=
  .next (s.request p Config.codeQueryProfile tag fields (State.doQueryProfile p tag fields))

end Sys2Proof.Machine
end

