-- ==== Sys2Proof/Machine/ScheduleCommands.lean ====
section
/-! DEFINITION. SUBMIT, CANCEL and QUERY_FREE (R48 to R69). -/

namespace Sys2Proof.Machine

/-! ## SUBMIT -/

/-- The reply of a SUBMIT. -/
def State.submitReply (s : State) (p : Port) (tag : Byte) (r : ResultCode) (data : ReplyData := .none) : State :=
  s.reply p Config.codeSubmit tag r data

/-- R51: the record of an admitted TIMED frame. -/
def Desc.admitTimed (x : Desc) (start : Time) (slip : Nat) (profile : Profile) (number : BitVec 48) : Desc :=
  { x with
    state := .waiting, start := some start, slip := some slip, admission := some number
    resStart := some start, resEnd := some (plus start (x.reservation profile)) }

/-- R51 steps 1 to 4: a TIMED frame admitted. -/
def State.admitTimed (s : State) (d : DescIdx) (start : Time) (slip : Nat) : State :=
  let s1 := s.setDesc d ((s.desc d).admitTimed start slip s.prof.active s.sched.counter)
  { s1 with sched := { s1.sched with
      timed := insertByStart s d start s.sched.timed, counter := s.sched.counter + 1 } }

/-- R50, R51: a SUBMIT of a TIMED descriptor after the tests of R49. -/
def State.submitTimed (s : State) (p : Port) (tag : Byte) (d : DescIdx) (t : Timing) (start : Time) : State :=
  let stop := plus start ((s.desc d).reservation s.prof.active)
  match classOf s.now start with
  | .past | .near => s.submitReply p tag .tooLate
  | .far => s.submitReply p tag .tooFar
  | .ahead =>
    match s.firstConflict start stop with
    | some i => s.submitReply p tag .conflict (.conflictEnd i.2)
    | none =>
      ((s.admitTimed d start (t.slip.getD 0)).submitReply p tag .admitted (.admittedTimed t.tag start stop)).startDecision

/-- R52: why a SUBMIT of an ASAP descriptor is refused. -/
def asapRefusal (now : Time) (t : Timing) : Option ResultCode :=
  if t.notBefore.map (classOf now) = some .far then some .tooFar
  else if t.expiry.map (classOf now) = some .far then some .tooFar
  else if t.expiry.map (classOf now) = some .past then some .tooLate
  else
    match t.notBefore, t.expiry with
    | some n, some e => if before n e then none else some .badField
    | _, _ => none

/-- R46: a not_before that is absent, reached or passed. -/
def eligibleAt (now : Time) (notBefore : Option Time) : Bool :=
  match notBefore with
  | none => true
  | some t => reached t now

/-- An expiry as a SUBMIT gives it. -/
def expiryOf : Option Time → Expiry
  | none => .absent
  | some t => .at t

/-- R53: the record of an admitted ASAP frame. -/
def Desc.admitAsap (x : Desc) (t : Timing) (now : Time) (number : BitVec 48) : Desc :=
  { x with
    state := .waiting, notBefore := t.notBefore, expiry := expiryOf t.expiry, admission := some number
    bypass := 0, eligible := eligibleAt now t.notBefore }

/-- R53 steps 1 to 3: an ASAP frame admitted. -/
def State.admitAsap (s : State) (d : DescIdx) (t : Timing) : State :=
  let s1 := s.setDesc d ((s.desc d).admitAsap t s.now s.sched.counter)
  { s1 with sched := { s1.sched with
      asap := s.sched.asap.join ((s.desc d).priority.getD 0) d, counter := s.sched.counter + 1 } }

/-- R52, R53: a SUBMIT of an ASAP descriptor after the tests of R49. -/
def State.submitAsap (s : State) (p : Port) (tag : Byte) (d : DescIdx) (t : Timing) : State :=
  match asapRefusal s.now t with
  | some r => s.submitReply p tag r
  | none =>
    ((s.admitAsap d t).submitReply p tag .admitted (.admittedAsap t.tag (eligibleAt s.now t.notBefore))).startDecision

/-- R56: the record of an admitted CHAINED frame. -/
def Desc.admitChained (x : Desc) (t : Timing) (pred : Byte) : Desc :=
  { x with state := .held, predTag := some pred, offset := t.offset, expiry := expiryOf t.expiry, notBefore := none }

/-- R56 steps 1 to 4: a CHAINED frame admitted behind its predecessor e. -/
def State.admitChained (s : State) (d e : DescIdx) (t : Timing) (pred : Byte) : State :=
  (s.setDesc d ((s.desc d).admitChained t pred)).modDesc e fun x => { x with successor := some d }

/-- R55, R56: a SUBMIT of a CHAINED descriptor after the tests of R49. -/
def State.submitChained (s : State) (p : Port) (tag : Byte) (d : DescIdx) (t : Timing) (pred : Byte) : State :=
  match s.findTag p pred with
  | none => s.submitReply p tag .noPredecessor (.noPredecessor .notLive)
  | some e =>
    if e = d ∨ e ∈ s.chainAfter chainFuel d then s.submitReply p tag .noPredecessor (.noPredecessor .loop)
    else
      match (s.desc e).successor with
      | some c => s.submitReply p tag .chainTaken (.chainTaken (s.desc c).tag)
      | none =>
        match t.expiry.map (classOf s.now) with
        | some .far => s.submitReply p tag .tooFar
        | some .past => s.submitReply p tag .tooLate
        | _ => (s.admitChained d e t pred).submitReply p tag .admitted (.admittedChained t.tag pred)

/-- R49: what a taken SUBMIT does. -/
def State.doSubmit (p : Port) (tag : Byte) (fields : List Byte) (s : State) : State :=
  if s.noSession p then s.submitReply p tag .noSession
  else if (s.port p).session.state = .closing then s.submitReply p tag .closing
  else
    match readTiming fields with
    | none => s.submitReply p tag .badField
    | some t =>
      match s.findTag p t.tag with
      | none => s.submitReply p tag .notFound
      | some d =>
        let x := s.desc d
        if x.state ≠ .loading then s.submitReply p tag .wrongState
        else if !t.fits x.cls then s.submitReply p tag .badField
        else if x.fill < x.bodyBytes then s.submitReply p tag .incomplete (.fillLevel x.fill)
        else
          match x.cls with
          | .timed => s.submitTimed p tag d t (t.start.getD 0)
          | .asap => s.submitAsap p tag d t
          | .chained => s.submitChained p tag d t (t.pred.getD 0)

/-- SUBMIT (R48). -/
def execSubmit (p : Port) (tag : Byte) (fields : List Byte) (s : State) : Host.Outcome State Fault Refusal :=
  .next (s.request p Config.codeSubmit tag fields (State.doSubmit p tag fields))

/-! ## CANCEL -/

/-- R68: a repetition remains to be cut. -/
def State.canTruncate (s : State) (x : Desc) : Bool :=
  decide (s.disp.phase = some .gap ∨ x.repsSent + 1 < x.reps)

/-- R68: a CANCEL that finds the descriptor ON_LINE. -/
def State.cancelOnLine (s : State) (p : Port) (tag : Byte) (d : DescIdx) : State :=
  let x := s.desc d
  let data := ReplyData.cancelOnLine x.tag x.repsSent x.reps
  if s.canTruncate x then
    (s.modDesc d fun y => { y with truncate := true }).reply p Config.codeCancel tag .truncated data
  else s.reply p Config.codeCancel tag .tooLateToCancel data

/-- R67: a CANCEL of a LOADING, HELD or WAITING descriptor. The session completes after the REPLY (R34 step 7), and the
start decision of a listed frame that left is taken at the end (log 11). -/
def State.cancelWaiting (s : State) (p : Port) (tag : Byte) (d : DescIdx) : State :=
  let s1 := s.retireNow d .cancelled s.now (some p)
  ((s1.reply p Config.codeCancel tag .cancelled (.cancelled (s.desc d).tag)).complete p).decideIfLeft s

/-- R67: what a taken CANCEL does. -/
def State.doCancel (p : Port) (tag : Byte) (fields : List Byte) (s : State) : State :=
  if s.noSession p then s.reply p Config.codeCancel tag .noSession
  else
    match readCancel fields with
    | none => s.reply p Config.codeCancel tag .badField
    | some ftag =>
      match s.findTag p ftag with
      | none => s.reply p Config.codeCancel tag .notFound
      | some d => if (s.desc d).state = .onLine then s.cancelOnLine p tag d else s.cancelWaiting p tag d

/-- CANCEL (R66). -/
def execCancel (p : Port) (tag : Byte) (fields : List Byte) (s : State) : Host.Outcome State Fault Refusal :=
  .next (s.request p Config.codeCancel tag fields (State.doCancel p tag fields))

/-! ## QUERY_FREE -/

/-- R60: the search from a candidate: within the horizon, the first candidate that overlaps nothing. Every move leaves one
standing interval behind, so as many moves as there are intervals suffice. -/
def State.freeFrom (s : State) (d : Nat) : Nat → Time → Option Time
  | 0, _ => none
  | fuel + 1, c =>
    if Config.horizon < distance s.now c then none
    else
      match s.firstConflict c (plus c d) with
      | none => some c
      | some i => s.freeFrom d fuel i.2

/-- R60: the candidate the search begins with. -/
def State.firstCandidate (s : State) (t : Time) : Time :=
  match classOf s.now t with
  | .past | .near => plus s.now Config.lead
  | .ahead | .far => t

/-- R60: the earliest start at which d ticks fit. -/
def State.freeStart (s : State) (t : Time) (d : Nat) : Option Time :=
  s.freeFrom d (s.standing.length + 1) (s.firstCandidate t)

/-- R60: the next listed start after a time. -/
def State.nextListedAfter (s : State) (c : Time) : Option Time :=
  (s.sched.timed.filterMap fun d => (s.desc d).start).find? fun t => before c t

/-- R59, R60: what a taken QUERY_FREE does. -/
def State.doQueryFree (p : Port) (tag : Byte) (fields : List Byte) (s : State) : State :=
  let answer (r : ResultCode) (data : ReplyData) : State := s.reply p Config.codeQueryFree tag r data
  if s.noSession p then answer .noSession .none
  else
    match readQueryFree fields with
    | none => answer .badField .none
    | some (t, d) =>
      if classOf s.now t = .far then answer .tooFar .none
      else
        match s.freeStart t d with
        | some c => answer .ok (.room c (s.nextListedAfter c))
        | none => answer .none .none

/-- QUERY_FREE (R58). -/
def execQueryFree (p : Port) (tag : Byte) (fields : List Byte) (s : State) : Host.Outcome State Fault Refusal :=
  .next (s.request p Config.codeQueryFree tag fields (State.doQueryFree p tag fields))

end Sys2Proof.Machine
end

