-- ==== Sys2Proof/Machine/ScheduleEvents.lean ====
section
/-! DEFINITION. The stored times of the schedule: TIMED_START_REACHED, NOT_BEFORE_REACHED, WINDOW_EXPIRY, ASAP_EXPIRY and
HELD_EXPIRY_PASSED. A stored time is acted on when it is reached or passed (R3); an event that is not due has no effect
(log 1). -/

namespace Sys2Proof.Machine

/-- R77: the start of the first listed frame is reached or passed. -/
def State.startDue (s : State) : Bool :=
  !s.inReset && match s.nextListed with
    | some t => reached t s.now
    | none => false

/-- TIMED_START_REACHED (R77, R78): a dispatch decision event. -/
def execTimedStartReached (s : State) : Host.Outcome State Fault Refusal :=
  if s.startDue then .next s.startDecision else .next s

/-- R46: a queued descriptor that is not eligible yet and whose not_before is reached. -/
def State.notBeforeDue (s : State) (d : DescIdx) : Bool :=
  let x := s.desc d
  !s.inReset && decide (x.state = .waiting) && decide (x.cls ≠ .timed) && !x.eligible &&
    match x.notBefore with
    | some t => reached t s.now
    | none => false

/-- NOT_BEFORE_REACHED (R46): the descriptor becomes eligible, a dispatch decision event. -/
def execNotBeforeReached (d : DescIdx) (s : State) : Host.Outcome State Fault Refusal :=
  if s.notBeforeDue d then .next (s.modDesc d fun x => { x with eligible := true }).startDecision else .next s

/-- R84: a WAITING TIMED descriptor whose start plus slip is passed. -/
def State.windowPassed (s : State) (d : DescIdx) : Bool :=
  let x := s.desc d
  !s.inReset && decide (x.state = .waiting) && decide (x.cls = .timed) &&
    match x.start with
    | some t => !x.inWindow t s.now
    | none => false

/-- WINDOW_EXPIRY (R84): the descriptor retires EXPIRED (WINDOW); leaving the list is a dispatch decision event. -/
def execWindowExpiry (d : DescIdx) (s : State) : Host.Outcome State Fault Refusal :=
  if s.windowPassed d then .next (s.retireNow d (.expired .window) s.now none).startDecision else .next s

/-- R85: a queued descriptor whose expiry is reached. -/
def State.asapExpiryDue (s : State) (d : DescIdx) : Bool :=
  let x := s.desc d
  !s.inReset && decide (x.state = .waiting) && decide (x.cls ≠ .timed) &&
    match x.expiry with
    | .at t => reached t s.now
    | .absent | .passed => false

/-- ASAP_EXPIRY (R85). -/
def execAsapExpiry (d : DescIdx) (s : State) : Host.Outcome State Fault Refusal :=
  if s.asapExpiryDue d then .next (s.retireNow d (.expired .window) s.now none) else .next s

/-- R64: a HELD descriptor whose expiry is reached. -/
def State.heldExpiryDue (s : State) (d : DescIdx) : Bool :=
  let x := s.desc d
  !s.inReset && decide (x.state = .held) &&
    match x.expiry with
    | .at t => reached t s.now
    | .absent | .passed => false

/-- HELD_EXPIRY_PASSED (R64): the stored time is replaced by the passed mark. -/
def execHeldExpiryPassed (d : DescIdx) (s : State) : Host.Outcome State Fault Refusal :=
  if s.heldExpiryDue d then .next (s.modDesc d fun x => { x with expiry := .passed }) else .next s

end Sys2Proof.Machine
end

