-- ==== Sys2Proof/Machine/SessionCommands.lean ====
section
/-! DEFINITION. OPEN, RENEW and CLOSE (R148 to R159). -/

namespace Sys2Proof.Machine

/-- R150: the session of p is OPEN with a fresh lease of a class, and LEASE_LOW is clear. -/
def State.startLease (s : State) (p : Port) (c : LeaseClass) : State :=
  s.modPort p fun q => { q with
    session := { state := .opened, lease := some c, remaining := c.period, form := none }
    queue := { q.queue with leaseLow := false } }

/-- R149, R150: what a taken OPEN does. -/
def State.doOpen (p : Port) (tag : Byte) (fields : List Byte) (s : State) : State :=
  let found := (s.port p).session.state
  match readOpen fields with
  | none => s.reply p Config.codeOpen tag .badField
  | some c =>
    if found = .closing then s.reply p Config.codeOpen tag .wrongState
    else if found ≠ .opened ∧ !s.roomFor p 2 then s.reply p Config.codeOpen tag .noRoom
    else (s.startLease p c).reply p Config.codeOpen tag .ok (.opened found c)

/-- OPEN (R148). -/
def execOpenSession (p : Port) (tag : Byte) (fields : List Byte) (s : State) : Host.Outcome State Fault Refusal :=
  .next (s.request p Config.codeOpen tag fields (State.doOpen p tag fields))

/-- R152: what a taken RENEW does; `before_` is the lease remaining before the renewal. -/
def State.doRenew (p : Port) (tag : Byte) (fields : List Byte) (before_ : Nat) (s : State) : State :=
  let x := (s.port p).session
  if s.noSession p then s.reply p Config.codeRenew tag .noSession
  else if fields ≠ [] then s.reply p Config.codeRenew tag .badField
  else s.reply p Config.codeRenew tag .ok (.renewed before_ (x.lease.getD .l0) x.state)

/-- RENEW (R152). -/
def execRenew (p : Port) (tag : Byte) (fields : List Byte) (s : State) : Host.Outcome State Fault Refusal :=
  .next (s.request p Config.codeRenew tag fields (State.doRenew p tag fields (s.port p).session.remaining))

/-- R134, R156: p's session becomes CLOSING with a form, its claim released. -/
def State.startClosing (s : State) (p : Port) (form : CloseForm) : State :=
  (s.releaseClaim p).modSession p fun x => { x with state := .closing, form := some form }

/-- R157: CLOSE(PURGE), its start decision taken at the end (log 11). -/
def State.closePurge (p : Port) (tag : Byte) (s : State) : State :=
  let s1 := ((s.startClosing p .purge).purgeWalk p).markOnLine p
  let s2 := s1.reply p Config.codeClose tag .ok (.closed .purge (s1.liveCount p))
  (s2.complete p).decideIfLeft s

/-- R156, R157: what a taken CLOSE does. -/
def State.doClose (p : Port) (tag : Byte) (fields : List Byte) (s : State) : State :=
  let x := (s.port p).session
  if s.noSession p then s.reply p Config.codeClose tag .noSession
  else
    match readClose fields with
    | none => s.reply p Config.codeClose tag .badField
    | some .purge => State.closePurge p tag s
    | some .drain =>
      if x.state = .closing then
        s.reply p Config.codeClose tag .ok (.closed (x.form.getD .drain) (s.liveCount p))
      else
        let s1 := s.startClosing p .drain
        (s1.reply p Config.codeClose tag .ok (.closed .drain (s1.liveCount p))).complete p

/-- CLOSE (R155). -/
def execClose (p : Port) (tag : Byte) (fields : List Byte) (s : State) : Host.Outcome State Fault Refusal :=
  .next (s.request p Config.codeClose tag fields (State.doClose p tag fields))

end Sys2Proof.Machine
end

