-- ==== Sys2Proof/Machine/TimeCommands.lean ====
section
/-! DEFINITION. QUERY_TIME, READ_CAPTURE and SET_TIME (R5, R8, R10, R11). -/

namespace Sys2Proof.Machine

/-- R5: what a taken QUERY_TIME does. -/
def State.doQueryTime (p : Port) (tag : Byte) (fields : List Byte) (s : State) : State :=
  if fields ≠ [] then s.reply p Config.codeQueryTime tag .badField
  else s.reply p Config.codeQueryTime tag .ok (.time s.now s.clock.divisor)

/-- QUERY_TIME (R5). -/
def execQueryTime (p : Port) (tag : Byte) (fields : List Byte) (s : State) : Host.Outcome State Fault Refusal :=
  .next (s.request p Config.codeQueryTime tag fields (State.doQueryTime p tag fields))

/-- R8: a port's slot read and emptied. -/
def PortState.emptySlot (q : PortState) : PortState :=
  { q with
    capture := { q.capture with full := false, overrun := false }
    queue := { q.queue with captureReady := false } }

/-- R8: what a taken READ_CAPTURE does. -/
def State.doReadCapture (p : Port) (tag : Byte) (fields : List Byte) (s : State) : State :=
  let c := (s.port p).capture
  if fields ≠ [] then s.reply p Config.codeReadCapture tag .badField
  else if c.full then
    (s.modPort p PortState.emptySlot).reply p Config.codeReadCapture tag .ok (.capture c.time c.overrun)
  else s.reply p Config.codeReadCapture tag .none

/-- READ_CAPTURE (R8). -/
def execReadCapture (p : Port) (tag : Byte) (fields : List Byte) (s : State) : Host.Outcome State Fault Refusal :=
  .next (s.request p Config.codeReadCapture tag fields (State.doReadCapture p tag fields))

/-- R10: a live descriptor that carries a time. -/
def Desc.carriesTime (x : Desc) : Bool :=
  match x.state, x.cls with
  | .free, _ | .loading, _ => false
  | .waiting, .asap => x.notBefore.isSome || decide (x.expiry ≠ .absent)
  | .waiting, .timed | .waiting, .chained => true
  | .held, _ => match x.expiry with
    | .at _ => true
    | .absent | .passed => false
  | .onLine, _ => true

/-- R10 test 5: the number of descriptors that carry a time. -/
def State.timesCarried (s : State) : Nat := s.store.descs.toList.countP Desc.carriesTime

/-- R10, R11: what a taken SET_TIME does. -/
def State.doSetTime (p : Port) (tag : Byte) (fields : List Byte) (s : State) : State :=
  let answer (r : ResultCode) (data : ReplyData) : State := s.reply p Config.codeSetTime tag r data
  if s.noSession p then answer .noSession .none
  else
    match readSetTime fields with
    | none => answer .badField .none
    | some t =>
      if !s.holds p then answer .notHolder .none
      else if s.disp.line ≠ .disabled then answer .notDisabled .none
      else if s.timesCarried ≠ 0 then answer .notEmpty (.timesCarried s.timesCarried)
      else
        ({ s with clock := { s.clock with time := t, prescale := 0 } }).reply p Config.codeSetTime tag .ok
          (.timeSet s.now t)

/-- SET_TIME (R10). -/
def execSetTime (p : Port) (tag : Byte) (fields : List Byte) (s : State) : Host.Outcome State Fault Refusal :=
  .next (s.request p Config.codeSetTime tag fields (State.doSetTime p tag fields))

end Sys2Proof.Machine
end

