-- ==== Sys2Proof/Machine/Dispatch.lean ====
section
/-! DEFINITION. One arm for each row of the table, in the table's order. -/

namespace Sys2Proof.Machine

def exec (i : Instr) (s : State) : Host.Outcome State Fault Refusal :=
  match i with
  | .chipReset => Sys2Proof.Machine.execChipReset s
  | .resetRelease tbsel pcsLow => Sys2Proof.Machine.execResetRelease tbsel pcsLow s
  | .tick => Sys2Proof.Machine.execTick s
  | .leaseLow p => Sys2Proof.Machine.execLeaseLow p s
  | .lapse p => Sys2Proof.Machine.execLapse p s
  | .captureEdge pin => Sys2Proof.Machine.execCaptureEdge pin s
  | .timedStartReached => Sys2Proof.Machine.execTimedStartReached s
  | .notBeforeReached d => Sys2Proof.Machine.execNotBeforeReached d s
  | .windowExpiry d => Sys2Proof.Machine.execWindowExpiry d s
  | .asapExpiry d => Sys2Proof.Machine.execAsapExpiry d s
  | .heldExpiryPassed d => Sys2Proof.Machine.execHeldExpiryPassed d s
  | .preambleEnd => Sys2Proof.Machine.execPreambleEnd s
  | .bodyEnd => Sys2Proof.Machine.execBodyEnd s
  | .gapEnd => Sys2Proof.Machine.execGapEnd s
  | .guardEnd => Sys2Proof.Machine.execGuardEnd s
  | .comparisonEvent => Sys2Proof.Machine.execComparisonEvent s
  | .echoStop => Sys2Proof.Machine.execEchoStop s
  | .holdEnd => Sys2Proof.Machine.execHoldEnd s
  | .strobePulseEnd p => Sys2Proof.Machine.execStrobePulseEnd p s
  | .openSession p tag fields => Sys2Proof.Machine.execOpenSession p tag fields s
  | .renew p tag fields => Sys2Proof.Machine.execRenew p tag fields s
  | .close p tag fields => Sys2Proof.Machine.execClose p tag fields s
  | .loadBegin p tag fields => Sys2Proof.Machine.execLoadBegin p tag fields s
  | .loadData p tag fields => Sys2Proof.Machine.execLoadData p tag fields s
  | .queryFrame p tag fields => Sys2Proof.Machine.execQueryFrame p tag fields s
  | .submit p tag fields => Sys2Proof.Machine.execSubmit p tag fields s
  | .cancel p tag fields => Sys2Proof.Machine.execCancel p tag fields s
  | .queryFree p tag fields => Sys2Proof.Machine.execQueryFree p tag fields s
  | .lineEnable p tag fields => Sys2Proof.Machine.execLineEnable p tag fields s
  | .lineDisable p tag fields => Sys2Proof.Machine.execLineDisable p tag fields s
  | .queryLine p tag fields => Sys2Proof.Machine.execQueryLine p tag fields s
  | .recover p tag fields => Sys2Proof.Machine.execRecover p tag fields s
  | .claim p tag fields => Sys2Proof.Machine.execClaim p tag fields s
  | .release p tag fields => Sys2Proof.Machine.execRelease p tag fields s
  | .stage p tag fields => Sys2Proof.Machine.execStage p tag fields s
  | .commit p tag fields => Sys2Proof.Machine.execCommit p tag fields s
  | .queryProfile p tag fields => Sys2Proof.Machine.execQueryProfile p tag fields s
  | .queryTime p tag fields => Sys2Proof.Machine.execQueryTime p tag fields s
  | .readCapture p tag fields => Sys2Proof.Machine.execReadCapture p tag fields s
  | .setTime p tag fields => Sys2Proof.Machine.execSetTime p tag fields s
  | .queryLink p tag fields => Sys2Proof.Machine.execQueryLink p tag fields s
  | .unknownCommand p code tag fields => Sys2Proof.Machine.execUnknownCommand p code tag fields s
  | .poll p bytes => Sys2Proof.Machine.execPoll p bytes s
  | .voidTransaction p stretch => Sys2Proof.Machine.execVoidTransaction p stretch s
  | .linkReset p => Sys2Proof.Machine.execLinkReset p s
  | .failedConfirm p confirm => Sys2Proof.Machine.execFailedConfirm p confirm s
  | .requestNotTaken p msg crc => Sys2Proof.Machine.execRequestNotTaken p msg crc s
  | .lsenseChange cycles level => Sys2Proof.Machine.execLsenseChange cycles level s
  | .carrierBurstEnd => Sys2Proof.Machine.execCarrierBurstEnd s

end Sys2Proof.Machine
end

