-- ==== Sys2Proof/Safety.lean ====
section
/-! DEFINITION. What a sound state of the part is, block by block, and the terms in which the statements speak: a request
that the link takes, what it leaves of its own port and of the rest of the part, descriptors that have retired. -/

namespace Sys2Proof.Machine

/-! ## Sound states -/

/-- R18, R39, R40, R42, R45, R47: a WAITING descriptor stands in exactly one structure, once, by its class; a HELD one is
CHAINED; a listed one has a start and a reservation interval from it; a live one without an owner is ON_LINE. -/
structure State.ScheduleSound (s : State) : Prop where
  timed : ∀ d, d ∈ s.sched.timed ↔ (s.desc d).state = .waiting ∧ (s.desc d).cls = .timed
  queued : ∀ d, d ∈ s.sched.asap.order ↔ (s.desc d).state = .waiting ∧ (s.desc d).cls ≠ .timed
  timedOnce : s.sched.timed.Nodup
  queuedOnce : s.sched.asap.order.Nodup
  held : ∀ d, (s.desc d).state = .held → (s.desc d).cls = .chained
  starts : ∀ d ∈ s.sched.timed, ∃ a b,
    (s.desc d).start = some a ∧ (s.desc d).resStart = some a ∧ (s.desc d).resEnd = some b
  owned : ∀ d, (s.desc d).live = true → (s.desc d).owner = none → (s.desc d).state = .onLine

/-- R70, R82, R96: phase, slot and encoder agree with the line state, and at most one descriptor is ON_LINE. -/
structure State.LineSound (s : State) : Prop where
  phase : s.disp.phase.isSome = true ↔ s.disp.line = .busy ∨ s.disp.line = .draining
  slot : s.disp.slot.isSome = true ↔
    s.disp.phase = some .preamble ∨ s.disp.phase = some .body ∨ s.disp.phase = some .gap
  onLine : ∀ d, (s.desc d).state = .onLine ↔ s.disp.slot = some d
  resting : s.enc.activity = .resting ↔ s.disp.slot = none
  gap : s.enc.activity = .gap ↔ s.disp.phase = some .gap

/-- R127, R128, R134: the holder's session is OPEN, a staged profile stands exactly while there is a holder, and every
profile value is in its range. -/
structure State.ProfileSound (s : State) : Prop where
  opened : ∀ p, s.prof.holder = some p → (s.port p).session.state = .opened
  present : s.prof.staged.isSome = s.prof.holder.isSome
  active : ∀ f : ProfileField, f.inRange (s.prof.active.field f) = true
  staged : ∀ w, s.prof.staged = some w → ∀ f : ProfileField, f.inRange (w.field f) = true

/-- R170: the used entries plus the reserved entries of every queue fit in its 24. -/
def State.RoomSound (s : State) : Prop := ∀ p, s.used p + s.reserved p ≤ 24

/-- R15, R19, R20, R21: a live descriptor's shape is in its ranges and it holds the segments of its body, no segment is held
twice, no port owns or holds more than its share, and no two of its live descriptors carry one tag. -/
structure State.StoreSound (s : State) : Prop where
  shape : ∀ d, (s.desc d).live = true → 1 ≤ (s.desc d).bodyBits ∧ (s.desc d).bodyBits ≤ 1024 ∧ (s.desc d).preBits ≤ 63 ∧
    1 ≤ (s.desc d).reps ∧ (s.desc d).reps ≤ 16 ∧ (s.desc d).gap ≤ 65535
  whole : ∀ d, (s.desc d).live = true → (s.desc d).segs.length = segmentsFor (s.desc d).bodyBits
  segments : (s.store.descs.toList.flatMap fun x => x.segs).Nodup
  live : ∀ p, s.liveCount p ≤ 16
  held : ∀ p, s.heldCount p ≤ 96
  tags : ∀ p d e, (s.desc d).ownedBy p = true → (s.desc e).ownedBy p = true → (s.desc d).tag = (s.desc e).tag → d = e

/-- R47: a successor is HELD and has its predecessor's owner, a HELD descriptor has exactly one predecessor, and no chain
closes into a loop. -/
structure State.ChainsSound (s : State) : Prop where
  link : ∀ d e, (s.desc d).successor = some e →
    (s.desc d).live = true ∧ (s.desc e).state = .held ∧ (s.desc e).owner = (s.desc d).owner
  one : ∀ d d' e, (s.desc d).successor = some e → (s.desc d').successor = some e → d = d'
  held : ∀ e, (s.desc e).state = .held → ∃ d, (s.desc d).successor = some e
  noLoop : ∃ rank : DescIdx → Nat, ∀ d e, (s.desc d).successor = some e → rank d < rank e

/-- R42: no two listed reservation intervals overlap. -/
def State.ListedApart (s : State) : Prop :=
  ∀ d ∈ s.sched.timed, ∀ e ∈ s.sched.timed, d ≠ e → ∀ a b a' b',
    (s.desc d).resStart = some a → (s.desc d).resEnd = some b →
    (s.desc e).resStart = some a' → (s.desc e).resEnd = some b' → overlap a b a' b' = false

/-- R42: the timed list is in the order of the starts, and every reservation ends its length after its start, under the
active profile. -/
structure State.ListOrdered (s : State) : Prop where
  ordered : s.sched.timed.Pairwise fun d e => ∀ a b, (s.desc d).start = some a → (s.desc e).start = some b →
    before a b = true
  lengths : ∀ d ∈ s.sched.timed, ∀ a, (s.desc d).start = some a →
    (s.desc d).resEnd = some (plus a ((s.desc d).reservation s.prof.active))

/-- R42: no listed reservation interval overlaps the occupied interval. -/
def State.ApartFromLine (s : State) : Prop :=
  ∀ i, s.occupied = some i → ∀ d ∈ s.sched.timed, ∀ a b,
    (s.desc d).resStart = some a → (s.desc d).resEnd = some b → overlap i.1 i.2 a b = false

/-- A state whose events have been taken when they were due, which the model leaves to the queue (log 2): no listed start lies
further behind than its slip can reach (R84) or further ahead than its admission let it (R50), and a frame on the line can
still end by its planned end (R43). -/
structure State.OnTime (s : State) : Prop where
  listed : ∀ d ∈ s.sched.timed, ∀ a, (s.desc d).start = some a →
    distance s.clock.time a ≤ 2 ^ 30 ∨ distance a s.clock.time ≤ 2 ^ 16
  line : ∀ d, s.disp.slot = some d → ∃ a, (s.desc d).actualStart = some a ∧
    distance a s.clock.time + s.prof.active.guard ≤ distance a s.disp.plannedEnd ∧
    distance a s.disp.plannedEnd ≤ 72224752

/-- R175, R178: the receive buffer of a link holds at most 41 bytes; in REQUEST it holds the message so far. -/
def Link.Sound (l : Link) : Prop :=
  l.buffer.length ≤ 41 ∧ (l.state = .kind → l.byteCount = 0) ∧
  (l.state = .request → 1 ≤ l.byteCount ∧ (2 ≤ l.byteCount →
    l.byteCount = l.buffer.length + 2 ∧ l.buffer.length ≤ l.length ∧ 3 ≤ l.length ∧ l.length ≤ 40))

/-- R1, R17, R81, R113, R145, R175, R180: the counts stay in their ranges; a session has a lease exactly while it is OPEN or
CLOSING, and a close form exactly while it is CLOSING. -/
structure State.CountsSound (s : State) : Prop where
  divisor : s.clock.divisor = 8 ∨ s.clock.divisor = 16 ∨ s.clock.divisor = 24 ∨ s.clock.divisor = 32
  prescale : s.clock.prescale < s.clock.divisor
  quietRun : s.echo.quietRun ≤ 255
  streak : s.echo.streak ≤ 3
  bypass : ∀ d, (s.desc d).bypass ≤ 8
  mismatches : ∀ d, (s.desc d).mismatches ≤ 65535
  leased : ∀ p, (s.port p).session.lease.isSome = (s.port p).session.active
  form : ∀ p, (s.port p).session.form.isSome = decide ((s.port p).session.state = .closing)
  lease : ∀ p c, (s.port p).session.lease = some c → (s.port p).session.remaining ≤ c.period
  errors : ∀ p, (s.port p).link.crcErrors ≤ 255 ∧ (s.port p).link.framingErrors ≤ 255
  links : ∀ p, (s.port p).link.Sound

/-- R19: the segment pool is in canonical form. -/
def State.PoolSound (s : State) : Prop := s.store.pool.wf = true

/-! ## What a statement compares -/

/-- Every byte of the segment pool reads as before. -/
def State.SameBytes (s t : State) : Prop := ∀ a, t.store.pool.read a = s.store.pool.read a

/-- Everything but the ports is as before. -/
structure State.SamePart (s t : State) : Prop where
  inReset : t.inReset = s.inReset
  lsense : t.lsense = s.lsense
  clock : t.clock = s.clock
  descs : ∀ d, t.desc d = s.desc d
  bytes : s.SameBytes t
  sched : t.sched = s.sched
  disp : t.disp = s.disp
  enc : t.enc = s.enc
  echo : t.echo = s.echo
  prof : t.prof = s.prof
  pending : t.pending = s.pending

/-- The other ports are as before. -/
def State.SameOthers (s t : State) (p : Port) : Prop := ∀ q, q ≠ p → t.port q = s.port q

/-- Two port records that agree in all but the bytes of the transaction in the link (R175) and the mark of a lapse that
follows (log 28). -/
structure PortState.Agrees (q r : PortState) : Prop where
  session : q.session = r.session
  queue : q.queue = r.queue
  capture : q.capture = r.capture
  pcapt : q.pcapt = r.pcapt
  strobe : q.strobe = r.strobe
  linkState : q.link.state = r.link.state
  crcErrors : q.link.crcErrors = r.link.crcErrors
  framingErrors : q.link.framingErrors = r.link.framingErrors

/-- R164: entries placed at the tail. -/
def PortState.withEntries (q : PortState) (es : List Entry) : PortState :=
  { q with queue := { q.queue with entries := q.queue.entries ++ es } }

/-- R151, R179: a port whose request was taken: its lease, if it has one, renewed, and its link in ANSWER. -/
def PortState.renewed (q : PortState) : PortState :=
  let r := { q with link := { q.link with state := .answer } }
  match q.session.lease with
  | some c =>
    if q.session.state = .opened ∨ q.session.state = .closing then
      { r with session := { q.session with remaining := c.period }, queue := { q.queue with leaseLow := false } }
    else r
  | none => r

/-- R175: no transaction stands in a link in which PCSn's rise would be an error: the last one is over, or it only goes on
with bytes that are ignored. -/
def Link.Settled (l : Link) : Prop := l.state = .resting ∨ l.state = .answer ∨ l.state = .ignore

/-- R179: the link takes a REQUEST with these field bytes on p, in a transaction of its own. -/
structure State.Takes (s : State) (p : Port) (fields : List Byte) : Prop where
  running : s.inReset = false
  settled : (s.port p).link.Settled
  fits : fields.length ≤ 37
  room : s.used p + s.reserved p < 24

/-- The session of p is OPEN or CLOSING (R146). -/
def State.InSession (s : State) (p : Port) : Prop :=
  (s.port p).session.state = .opened ∨ (s.port p).session.state = .closing

/-- A taken request of p that changes nothing but its own port, which then agrees with `own`; the next byte on PMISO is the
acceptance code ACCEPTED (R179). -/
def State.Serves (s : State) (i : Instr) (p : Port) (own : PortState) : Prop :=
  ∃ t, exec i s = .next t ∧ s.SamePart t ∧ s.SameOthers t p ∧ (t.port p).Agrees own ∧
    (t.port p).link.out = [0x01] ∧ (t.port p).link.pad = 0

/-- A taken request of p that only renews the lease and places one REPLY. -/
def State.Replies (s : State) (i : Instr) (p : Port) (code tag : Byte) (r : ResultCode) (data : ReplyData) : Prop :=
  s.Serves i p ((s.port p).renewed.withEntries [.reply code tag r data])

/-- R71: a port as a condition change leaves it. -/
def PortState.lineFlagged (q : PortState) : PortState :=
  if q.session.state = .opened ∨ q.session.state = .closing then
    { q with queue := { q.queue with lineChanged := true } }
  else q

/-- R21: the tag names d in p's tag set. -/
def State.Names (s : State) (p : Port) (tag : Byte) (d : DescIdx) : Prop :=
  (s.desc d).ownedBy p = true ∧ (s.desc d).tag = tag ∧
    ∀ e, (s.desc e).ownedBy p = true → (s.desc e).tag = tag → e = d

/-- R21: the tag is not in p's tag set. -/
def State.NamesNone (s : State) (p : Port) (tag : Byte) : Prop :=
  ∀ e, (s.desc e).ownedBy p = true → (s.desc e).tag ≠ tag

/-- R48: the slip and the offset of a SUBMIT lie in their fields' range. -/
def Timing.inRange (x : Timing) : Prop := (∀ v, x.slip = some v → v ≤ 65535) ∧ ∀ v, x.offset = some v → v ≤ 65535

/-- R168, R178: the port and the message of a row that is a REQUEST for the link to take. -/
def requestOf : Instr → Option (Port × List Byte)
  | .openSession p tag f => some (p, message 0x10 tag f)
  | .renew p tag f => some (p, message 0x11 tag f)
  | .close p tag f => some (p, message 0x12 tag f)
  | .loadBegin p tag f => some (p, message 0x20 tag f)
  | .loadData p tag f => some (p, message 0x21 tag f)
  | .queryFrame p tag f => some (p, message 0x22 tag f)
  | .submit p tag f => some (p, message 0x30 tag f)
  | .cancel p tag f => some (p, message 0x31 tag f)
  | .queryFree p tag f => some (p, message 0x32 tag f)
  | .lineEnable p tag f => some (p, message 0x40 tag f)
  | .lineDisable p tag f => some (p, message 0x41 tag f)
  | .queryLine p tag f => some (p, message 0x42 tag f)
  | .recover p tag f => some (p, message 0x43 tag f)
  | .claim p tag f => some (p, message 0x50 tag f)
  | .release p tag f => some (p, message 0x51 tag f)
  | .stage p tag f => some (p, message 0x52 tag f)
  | .commit p tag f => some (p, message 0x53 tag f)
  | .queryProfile p tag f => some (p, message 0x54 tag f)
  | .queryTime p tag f => some (p, message 0x60 tag f)
  | .readCapture p tag f => some (p, message 0x61 tag f)
  | .setTime p tag f => some (p, message 0x62 tag f)
  | .queryLink p tag f => some (p, message 0x70 tag f)
  | .unknownCommand p code tag f => if Config.knownCodes.contains code then none else some (p, message code tag f)
  | .chipReset | .resetRelease _ _ | .tick | .leaseLow _ | .lapse _ | .captureEdge _ | .timedStartReached
  | .notBeforeReached _ | .windowExpiry _ | .asapExpiry _ | .heldExpiryPassed _ | .preambleEnd | .bodyEnd
  | .gapEnd | .guardEnd | .comparisonEvent | .echoStop | .holdEnd | .strobePulseEnd _ | .poll _ _
  | .voidTransaction _ _ | .linkReset _ | .failedConfirm _ _ | .requestNotTaken _ _ _ | .lsenseChange _ _
  | .carrierBurstEnd => none

/-- R10: a descriptor that carries a time. -/
def Desc.Carries (x : Desc) : Prop :=
  (x.state = .waiting ∧ x.cls = .timed) ∨
  (x.state = .waiting ∧ x.cls = .asap ∧ (x.notBefore ≠ none ∨ x.expiry ≠ .absent)) ∨
  (x.state = .waiting ∧ x.cls = .chained) ∨
  (x.state = .held ∧ ∃ t, x.expiry = .at t) ∨
  x.state = .onLine

/-- R33: the times that the TIMES view gives of a record, by its state and class. -/
def Desc.ShowsTimes (x : Desc) (v : TimesView) : Prop :=
  (x.state = .loading → v = .loading) ∧
  (x.state = .held → ∀ pred off, x.predTag = some pred → x.offset = some off → v = .held pred off x.expiry) ∧
  (x.state = .waiting → x.cls = .timed → ∀ start slip stop, x.start = some start → x.slip = some slip →
    x.resEnd = some stop → v = .waitingTimed start slip stop) ∧
  (x.state = .waiting → x.cls = .asap → v = .waitingAsap x.notBefore x.expiry) ∧
  (x.state = .waiting → x.cls = .chained → ∀ off, x.offset = some off → v = .waitingChained x.notBefore off x.expiry) ∧
  (x.state = .onLine → x.cls = .timed → ∀ start slip stop act, x.start = some start → x.slip = some slip →
    x.resEnd = some stop → x.actualStart = some act →
    v = .onLineTimed start slip (stop - start).toNat (act - start).toNat) ∧
  (x.state = .onLine → x.cls ≠ .timed → ∀ act, x.actualStart = some act → v = .onLineOther act)

/-- R133, R134: the Profile Unit after p's claim, if it holds it, is released. -/
def State.profReleased (s : State) (p : Port) : ProfileUnit :=
  if s.prof.holder = some p then { s.prof with holder := none, staged := none } else s.prof

/-- R114: the samples gone by since the last one at the level opposite to the idle level. -/
def EchoMonitor.sinceOpposite (e : EchoMonitor) (idle : Level) : Nat :=
  match idle with
  | .low => e.sinceHigh
  | .high => e.sinceLow

/-- R34, R60, R184: where the line is not IDLE the start decision that follows a step changes nothing. -/
def State.NoDecision (s u : State) : Prop := s.disp.line ≠ .idle → u.startDecision = u

/-- The first checks of a holder's command without fields (R87, R88, R124, R133, R138): session, length, claim. -/
def State.HolderChecked (s : State) (i : Instr) (p : Port) (code tag : Byte) (fields : List Byte) : Prop :=
  (¬ s.InSession p → s.Replies i p code tag .noSession .none) ∧
  (s.InSession p → fields ≠ [] → s.Replies i p code tag .badField .none) ∧
  (s.InSession p → fields = [] → s.prof.holder ≠ some p → s.Replies i p code tag .notHolder .none)

/-- R115: the quiet check with so many quiet ticks required passes. -/
def State.Quiet (s : State) (needed : Nat) : Prop := s.prof.active.echoMode = .off ∨ needed ≤ s.echo.quietRun

/-- R110: a pulse on PSTRB, where the action set asks for it. -/
def PortState.strobed (q : PortState) (asked : Bool) : PortState := if asked then { q with strobe := .high } else q

/-- R99: the encoder at the beginning of a repetition. -/
def Encoder.begun (e : Encoder) (repetition : Nat) : Encoder :=
  { e with
    activity := .sending, repetition := repetition, bitPos := 0, half := .first, prevLevel := .quiet
    carrierPhase := 0, ticks := 0 }

/-- R75 step 1: the outcome of a frame that ends. -/
def Desc.EndsWith (x : Desc) (o : FrameOutcome) : Prop :=
  (x.repsSent < x.reps ∧ o = .truncated) ∨
  (x.reps ≤ x.repsSent ∧ x.cls ≠ .timed ∧ o = .sent) ∨
  (x.reps ≤ x.repsSent ∧ x.cls = .timed ∧ ∃ a b, x.start = some a ∧ x.actualStart = some b ∧
    ((b = a ∧ o = .sent) ∨ (b ≠ a ∧ o = .sentLate (b - a).toNat)))

/-! ## Retired descriptors -/

/-- A chain from d: each one's successor is the next, all behind d are HELD, all have the owner p, and none comes twice
(R47). -/
def State.ChainFrom (s : State) (p : Port) : DescIdx → List DescIdx → Prop
  | d, [] => (s.desc d).ownedBy p = true ∧ (s.desc d).successor = none
  | d, e :: rest =>
    (s.desc d).ownedBy p = true ∧ (s.desc d).successor = some e ∧ (s.desc e).state = .held ∧ d ∉ e :: rest ∧
      s.ChainFrom p e rest

/-- R34 step 2: a record whose successor link named one of the descriptors has none. -/
def Desc.unlinked (x : Desc) (ds : List DescIdx) : Desc :=
  match x.successor with
  | some e => if e ∈ ds then { x with successor := none } else x
  | none => x

/-- R34 steps 2, 4 and 5 for the descriptors ds: they are FREE with every field cleared, no link names them, and they have
left the structures and the slot; nothing else of the part has changed but the ports. -/
structure State.Retired (s t : State) (ds : List DescIdx) : Prop where
  free : ∀ d ∈ ds, t.desc d = Desc.blank
  others : ∀ e, e ∉ ds → t.desc e = (s.desc e).unlinked ds
  timed : t.sched.timed = s.sched.timed.filter fun e => decide (e ∉ ds)
  queued : t.sched.asap = s.sched.asap.remove fun e => decide (e ∉ ds)
  counter : t.sched.counter = s.sched.counter
  slot : t.disp = if (∃ d ∈ ds, s.disp.slot = some d) then { s.disp with slot := none } else s.disp
  bytes : s.SameBytes t
  inReset : t.inReset = s.inReset
  lsense : t.lsense = s.lsense
  clock : t.clock = s.clock
  enc : t.enc = s.enc
  echo : t.echo = s.echo
  prof : t.prof = s.prof
  pending : t.pending = s.pending

/-- R61, R62: d has retired SENT or SENT_LATE and its successor c has been released behind it: c's not_before is the actual
end plus its offset, and c has joined the tail of its priority's queue under the next number; nothing else of the part has
changed but the ports. -/
structure State.Released (s t : State) (d c : DescIdx) (stop : Time) : Prop where
  gone : t.desc d = Desc.blank
  released : t.desc c = { s.desc c with
    state := .waiting, notBefore := some (plus stop ((s.desc c).offset.getD 0))
    admission := some s.sched.counter, bypass := 0
    eligible := reached (plus stop ((s.desc c).offset.getD 0)) s.clock.time }
  others : ∀ e, e ≠ d → e ≠ c → t.desc e = (s.desc e).unlinked [d]
  timed : t.sched.timed = s.sched.timed.filter fun e => decide (e ≠ d)
  queued : t.sched.asap = (s.sched.asap.join ((s.desc c).priority.getD 0) c).remove fun e => decide (e ≠ d)
  counter : t.sched.counter = s.sched.counter + 1
  slot : t.disp = if s.disp.slot = some d then { s.disp with slot := none } else s.disp
  bytes : s.SameBytes t
  part : s.SamePart { t with store := s.store, sched := s.sched, disp := s.disp }

/-- R158: a port record whose CLOSING session completes. -/
def PortState.completed (q : PortState) : PortState :=
  { q.withEntries [.sessionClosed (q.session.form.getD .drain)] with session := {} }

/-- R34 step 7: the record of the owner after retirements that leave it so many live descriptors. -/
def PortState.afterRetirements (q : PortState) (liveLeft : Nat) : PortState :=
  if q.session.state = .closing ∧ liveLeft = 0 then q.completed else q

/-- R35, R63: the entries of a frame that retires with a failed outcome and of the chain behind it. -/
def State.chainEntries (s : State) (d : DescIdx) (cs : List DescIdx) (o next : FrameOutcome) (stop : Time) : List Entry :=
  frameDone (s.desc d) o stop :: cs.map fun c => frameDone (s.desc c) next stop

/-! ## Purged descriptors -/

/-- R65, R159: a descriptor that the second pass of a purge walk takes at its own place: a LOADING one, or a HELD one whose
predecessor is on the line. -/
def State.OwnPlace (s : State) (d : DescIdx) : Prop :=
  (s.desc d).state = .loading ∨
    ((s.desc d).state = .held ∧ ∃ e, (s.desc e).successor = some d ∧ (s.desc e).state = .onLine)

/-- R65, R159: the descriptors of p off the line, in the order of the purge walk: each once, a successor directly after its
predecessor, the WAITING ones by admission, then the LOADING ones and the successor of the frame on the line in table
order. -/
structure State.PurgeOrder (s : State) (p : Port) (order : List DescIdx) : Prop where
  all : ∀ d, d ∈ order ↔ (s.desc d).ownedBy p = true ∧ (s.desc d).state ≠ .onLine
  once : order.Nodup
  chained : ∀ d e, d ∈ order → (s.desc d).successor = some e → ∃ l r, order = l ++ d :: e :: r
  admitted : order.Pairwise fun d e => (s.desc d).state = .waiting → (s.desc e).state = .waiting →
    ((s.desc d).admission.getD 0).toNat ≤ ((s.desc e).admission.getD 0).toNat
  passes : order.Pairwise fun d e => s.OwnPlace d → (s.desc e).state ≠ .waiting
  placed : order.Pairwise fun d e => s.OwnPlace d → s.OwnPlace e → d < e

/-- R134, R157, R159, R160: p's claim is released and its descriptors off the line are FREE, its ON_LINE one keeps its place
with the truncate mark set and no successor; nothing else of the part has changed but the ports. -/
structure State.Purged (s t : State) (p : Port) : Prop where
  gone : ∀ d, (s.desc d).ownedBy p = true → (s.desc d).state ≠ .onLine → t.desc d = Desc.blank
  marked : ∀ d, (s.desc d).ownedBy p = true → (s.desc d).state = .onLine →
    t.desc d = { s.desc d with truncate := true, successor := none }
  others : ∀ d, (s.desc d).ownedBy p = false → t.desc d = s.desc d
  timed : t.sched.timed = s.sched.timed.filter fun d => !(s.desc d).ownedBy p
  queued : t.sched.asap = s.sched.asap.remove fun d => !(s.desc d).ownedBy p
  counter : t.sched.counter = s.sched.counter
  prof : t.prof = s.profReleased p
  bytes : s.SameBytes t
  inReset : t.inReset = s.inReset
  lsense : t.lsense = s.lsense
  clock : t.clock = s.clock
  disp : t.disp = s.disp
  enc : t.enc = s.enc
  echo : t.echo = s.echo
  pending : t.pending = s.pending

/-- R35, R159: the FRAME_DONE entries of a purge walk. -/
def State.purgeEntries (s : State) (order : List DescIdx) : List Entry :=
  order.map fun d => frameDone (s.desc d) .purged s.clock.time

/-! ## The fields of a STAGE -/

/-- R136: named fields in table order, each value within its bytes. -/
def stageFits (changes : List (ProfileField × Nat)) : Prop :=
  (changes.map (·.1)).Sublist allProfileFields ∧ ∀ c ∈ changes, c.2 < 256 ^ c.1.size

/-- R136, R186: the field bytes of a STAGE that names these fields. -/
def stageBytes (changes : List (ProfileField × Nat)) : List Byte :=
  be16 (changes.map fun c => 2 ^ c.1.number).sum ++
    changes.flatMap fun c => if c.1.size = 2 then be16 c.2 else [byteOf c.2]

end Sys2Proof.Machine
end

