-- ==== Sys2Proof/Certificates/Slice0/Obligations.lean ====
section
/-! DEFINITION. The statements for the provers, in the order of OBLIGATIONS.json. -/

open Sys2Proof Sys2Proof.Machine

/-! ## The queue, the reset and the clock -/

/-- The step takes the command at the front of the queue, and on an empty queue the block idles (log 3). -/
def Obligations.StepTakesFront : Prop :=
  ∀ (c : Instr) (rest : List Instr) (s : State),
    step { s with pending := c :: rest } = exec c { s with pending := rest } ∧
      step { s with pending := [] } = .next { s with pending := [] }

/-- R185: CHIP_RESET puts the outputs at rest, and while RESETn is low only CHIP_RESET, RESET_RELEASE and LSENSE_CHANGE
have an effect. -/
def Obligations.ResetHoldsThePart : Prop :=
  (∀ s : State, ∃ t, exec .chipReset s = .next t ∧ t.inReset = true ∧ t.lsense = s.lsense ∧ t.pending = s.pending ∧
    t.lout = .low ∧ t.echo.quietRun = 0 ∧ t.clock.prescale = 0 ∧
    ∀ p, t.attention p = false ∧ (t.port p).strobe = .low) ∧
  ∀ (i : Instr) (s : State), s.inReset = true → i ≠ .chipReset → (∀ a b, i ≠ .resetRelease a b) →
    (∀ n l, i ≠ .lsenseChange n l) → exec i s = .next s

/-- R185, R1, R6, R128, R175: RESET_RELEASE gives every block its value after chip reset; no PCAPT has been sampled. -/
def Obligations.ReleaseGivesResetValues : Prop :=
  ∀ (tbsel : BitVec 2) (pcsLow : BitVec 4) (s : State), s.inReset = true →
    ∃ t, exec (.resetRelease tbsel pcsLow) s = .next t ∧ t.inReset = false ∧
      t.lsense = s.lsense ∧ t.pending = s.pending ∧
      t.clock.time = 0 ∧ t.clock.prescale = 0 ∧
      (tbsel = 0 → t.clock.divisor = 8) ∧ (tbsel = 1 → t.clock.divisor = 16) ∧
      (tbsel = 2 → t.clock.divisor = 24) ∧ (tbsel = 3 → t.clock.divisor = 32) ∧
      (∀ d, t.desc d = Desc.blank) ∧ t.freeDescs = 48 ∧ t.freeSegs.length = 192 ∧
      t.sched.timed = [] ∧ t.sched.asap.order = [] ∧ t.sched.counter = 0 ∧
      t.disp.line = .disabled ∧ t.disp.phase = none ∧ t.disp.slot = none ∧ t.disp.guardEnd = 0 ∧
      t.disp.cause = .chipReset ∧ t.occupied = none ∧
      t.enc.activity = .resting ∧ t.lout = .low ∧
      t.echo.quietRun = 0 ∧ t.echo.counted = false ∧ t.echo.abortPending = false ∧ t.echo.streak = 0 ∧
      t.echo.holdEnd = 0 ∧
      t.prof.active = ⟨500, 1000, 632, .third, .low, .off, 3, 16, 20000⟩ ∧
      t.prof.staged = none ∧ t.prof.holder = none ∧
      ∀ p, t.liveCount p = 0 ∧ t.heldCount p = 0 ∧ t.reserved p = 0 ∧ t.attention p = false ∧
        (t.port p).session = { state := .closed, lease := none, remaining := 0, form := none } ∧
        (t.port p).queue = { entries := [], lineChanged := false, leaseLow := false, captureReady := false } ∧
        (t.port p).capture.full = false ∧ (t.port p).capture.overrun = false ∧ (t.port p).pcapt = none ∧
        (t.port p).strobe = .low ∧
        (t.port p).link.crcErrors = 0 ∧ (t.port p).link.framingErrors = 0 ∧
        (t.port p).link.state = if pcsLow.getLsbD (Port.number p) then .ignore else .resting

/-- R2, R1, R153, R110: a TICK advances the line time, restarts the prescale count and counts every lease down; it changes
nothing of the schedule, the line, the profile, the queues or the payload. -/
def Obligations.TickAdvances : Prop :=
  ∀ s : State, s.inReset = false → ∃ t, exec .tick s = .next t ∧
    t.clock = { divisor := s.clock.divisor, prescale := 0, time := s.clock.time + 1 } ∧
    t.inReset = false ∧ t.lsense = s.lsense ∧ (∀ d, t.desc d = s.desc d) ∧ s.SameBytes t ∧ t.sched = s.sched ∧
    t.disp = s.disp ∧ t.prof = s.prof ∧ t.pending = s.pending ∧
    t.echo.abortPending = s.echo.abortPending ∧ t.echo.streak = s.echo.streak ∧ t.echo.holdEnd = s.echo.holdEnd ∧
    ∀ p, (t.port p).queue = (s.port p).queue ∧ (t.port p).capture = (s.port p).capture ∧
      (t.port p).pcapt = (s.port p).pcapt ∧ (t.port p).link = (s.port p).link ∧
      (s.InSession p → (t.port p).session =
        { (s.port p).session with remaining := (s.port p).session.remaining - 1 }) ∧
      (¬ s.InSession p → (t.port p).session = (s.port p).session) ∧
      ((s.port p).strobe = .high → (t.port p).strobe = .ending) ∧
      ((s.port p).strobe ≠ .high → (t.port p).strobe = (s.port p).strobe)

/-- R98, R99, R104, R105: what a TICK does to the half-cell in hand: it goes on, or its successor begins. The carrier phase
counts the REFCLK cycles of an ACTIVE half-cell under carrier ON, on across the boundaries of a run of them, and stands at
0 where a run ends or begins. The model's reading of R98, R99 and R119 (log 23): at the end of the body or with an abort
pending the half-cell stands ended until its event is taken, and a gap stays at its length until GAP_END. -/
def Obligations.TickDrivesEncoder : Prop :=
  ∀ (s : State) (d : DescIdx), s.inReset = false → s.disp.slot = some d →
    ∃ t, exec .tick s = .next t ∧ t.enc.activity = s.enc.activity ∧ t.enc.repetition = s.enc.repetition ∧
      (s.enc.activity = .sending →
        let level := s.enc.level (s.desc d) s.store.pool
        let last : Prop := s.enc.half = .second ∧ s.enc.bitPos + 1 = (s.desc d).preBits + (s.desc d).bodyBits
        let counted : Nat := (s.enc.carrierPhase + (s.clock.divisor - s.clock.prescale)) % s.prof.active.carrierPeriod
        (s.enc.ticks + 1 < s.prof.active.hbt →
          t.enc.ticks = s.enc.ticks + 1 ∧ t.enc.bitPos = s.enc.bitPos ∧ t.enc.half = s.enc.half ∧
          t.enc.prevLevel = s.enc.prevLevel ∧
          (level = .active → (s.desc d).carrier = .on → s.enc.carrierPhase < s.prof.active.carrierPeriod →
            t.enc.carrierPhase = counted) ∧
          (level = .quiet ∨ (s.desc d).carrier = .off → t.enc.carrierPhase = s.enc.carrierPhase)) ∧
        (s.enc.ticks + 1 = s.prof.active.hbt →
          t.enc.prevLevel = level ∧ t.enc.lastEnd = s.clock.time + 1 ∧
          (s.echo.abortPending = false → s.enc.half = .first →
            t.enc.half = .second ∧ t.enc.bitPos = s.enc.bitPos ∧ t.enc.ticks = 0) ∧
          (s.echo.abortPending = false → s.enc.half = .second → ¬ last →
            t.enc.half = .first ∧ t.enc.bitPos = s.enc.bitPos + 1 ∧ t.enc.ticks = 0 ∧ t.echo.counted = false) ∧
          (s.echo.abortPending = false → ¬ last →
            (level = .active → t.enc.level (s.desc d) s.store.pool = .active → (s.desc d).carrier = .on →
              s.enc.carrierPhase < s.prof.active.carrierPeriod → t.enc.carrierPhase = counted) ∧
            (level = .quiet ∨ t.enc.level (s.desc d) s.store.pool = .quiet → t.enc.carrierPhase = 0)) ∧
          (s.echo.abortPending = true ∨ last →
            t.enc.ticks = s.prof.active.hbt ∧ t.enc.bitPos = s.enc.bitPos ∧ t.enc.half = s.enc.half ∧
            t.enc.carrierPhase = 0 ∧ t.halfEnded = true))) ∧
      (s.enc.activity = .gap → t.enc.ticks = min (s.enc.ticks + 1) (s.desc d).gap) ∧
      (s.enc.activity = .resting → t.enc.ticks = s.enc.ticks ∧ t.enc.bitPos = s.enc.bitPos)

/-- R114: the quiet run at a tick boundary. LSENSE held at the idle level with no sample of the last carrier period away from
it raises the quiet run by 1, to at most 255; a tick in which LSENSE was sensed active makes it 0: earlier in the tick, by
a sample away from the idle level that still lies within the last carrier period or comes out of the synchroniser, or by
the pin itself. -/
def Obligations.TickCountsQuiet : Prop :=
  ∀ s : State, s.inReset = false → ∃ t, exec .tick s = .next t ∧ t.echo.tickQuiet = true ∧
    let idle := s.prof.active.idleLevel
    let period := s.prof.active.carrierPeriod
    (s.echo.tickQuiet = true → s.lsense = idle → s.echo.sync1 = idle → s.echo.sync2 = idle → period ≤ 1023 →
      period ≤ s.echo.sinceOpposite idle + 1 → t.echo.quietRun = min 255 (s.echo.quietRun + 1)) ∧
    (s.echo.tickQuiet = false → t.echo.quietRun = 0) ∧
    (s.clock.prescale < s.clock.divisor →
      s.echo.sinceOpposite idle + 1 < period ∨ (s.echo.sync2 ≠ idle ∧ 1 ≤ period) → t.echo.quietRun = 0) ∧
    (s.clock.prescale + 2 ≤ s.clock.divisor → s.echo.sync1 ≠ idle → 1 ≤ period → t.echo.quietRun = 0) ∧
    (s.clock.prescale + 3 ≤ s.clock.divisor → s.lsense ≠ idle → 1 ≤ period → t.echo.quietRun = 0)

/-- R114: LSENSE_CHANGE sets the pin. That REFCLK cycles of the tick in hand pass in the row first, as many as its operand
names and at most up to one short of the boundary, is the model's choice (log 4). -/
def Obligations.LsenseChangeSetsPin : Prop :=
  ∀ (n : Nat) (l : Level) (s : State),
    (s.inReset = true → exec (.lsenseChange n l) s = .next { s with lsense := l }) ∧
    (s.inReset = false → ∃ t, exec (.lsenseChange n l) s = .next t ∧ t.lsense = l ∧
      t.clock = { s.clock with
        prescale := s.clock.prescale + min n (s.clock.divisor - s.clock.prescale - 1) } ∧
      t.inReset = false ∧ (∀ d, t.desc d = s.desc d) ∧ s.SameBytes t ∧ t.sched = s.sched ∧ t.disp = s.disp ∧
      t.prof = s.prof ∧ t.ports = s.ports ∧ t.pending = s.pending ∧ t.echo.quietRun = s.echo.quietRun ∧
      t.echo.counted = s.echo.counted ∧ t.echo.abortPending = s.echo.abortPending ∧
      t.echo.streak = s.echo.streak ∧ t.echo.holdEnd = s.echo.holdEnd ∧
      { t.enc with carrierPhase := 0 } = { s.enc with carrierPhase := 0 })

/-- R104: a carrier burst whose end lies in the tick in hand ends there: LOUT goes from the opposite level to the idle
level, and the carrier phase stands at the burst time. That the row runs the REFCLK cycles up to that end is the model's
choice (log 4). -/
def Obligations.BurstEndsAtIdleLevel : Prop :=
  ∀ (s : State) (n : Nat), s.inReset = false → s.carrierOn = true → 0 < n →
    s.enc.carrierPhase + n = s.prof.active.burst → n < s.clock.divisor - s.clock.prescale →
    ∃ t, exec .carrierBurstEnd s = .next t ∧ s.lout = Level.flip s.prof.active.idleLevel ∧
      t.lout = s.prof.active.idleLevel ∧ t.enc = { s.enc with carrierPhase := s.prof.active.burst } ∧
      t.clock = { s.clock with prescale := s.clock.prescale + n } ∧ t.inReset = false ∧ t.lsense = s.lsense ∧
      (∀ d, t.desc d = s.desc d) ∧ s.SameBytes t ∧ t.sched = s.sched ∧ t.disp = s.disp ∧ t.prof = s.prof ∧
      t.ports = s.ports ∧ t.pending = s.pending ∧ t.echo.quietRun = s.echo.quietRun

/-- R6, R7, R8: a HIGH sample of PCAPT after a LOW one is a capture edge, and no other sample is, the first after a release
included; an edge latches the line time into an EMPTY slot and sets CAPTURE_READY, and one that finds the slot FULL is
dropped and sets the overrun mark; READ_CAPTURE reads and empties the asking port's slot. The samples are the row's
operand (log 20). -/
def Obligations.CaptureSlotWorks : Prop :=
  (∀ (p : Port) (l : Level) (s : State), s.inReset = false →
    ∃ t, exec (.captureEdge ⟨p, [l]⟩) s = .next t ∧ s.SamePart t ∧ s.SameOthers t p ∧
      (l = .low ∨ (s.port p).pcapt ≠ some .low → t.port p = { s.port p with pcapt := some l }) ∧
      (l = .high → (s.port p).pcapt = some .low →
        ((s.port p).capture.full = false → t.port p = { s.port p with
          pcapt := some .high
          capture := { full := true, time := s.clock.time, overrun := false }
          queue := { (s.port p).queue with captureReady := true } }) ∧
        ((s.port p).capture.full = true → t.port p = { s.port p with
          pcapt := some .high
          capture := { (s.port p).capture with overrun := true } }))) ∧
  (∀ (p : Port) (a b : List Level) (s : State), ∃ t, exec (.captureEdge ⟨p, a⟩) s = .next t ∧
    exec (.captureEdge ⟨p, a ++ b⟩) s = exec (.captureEdge ⟨p, b⟩) t) ∧
  ∀ (p : Port) (tag : Byte) (fields : List Byte) (s : State), s.Takes p fields →
    (fields ≠ [] → s.Replies (.readCapture p tag fields) p 0x61 tag .badField .none) ∧
    (fields = [] → (s.port p).capture.full = false →
      s.Replies (.readCapture p tag fields) p 0x61 tag .none .none) ∧
    (fields = [] → (s.port p).capture.full = true → s.Serves (.readCapture p tag fields) p
      ({ (s.port p).renewed with
          capture := { (s.port p).capture with full := false, overrun := false }
          queue := { (s.port p).renewed.queue with captureReady := false } }.withEntries
        [.reply 0x61 tag .ok (.capture (s.port p).capture.time (s.port p).capture.overrun)]))

/-- R5: QUERY_TIME answers the line time and the tick divisor in every session state. -/
def Obligations.QueryTimeAnswers : Prop :=
  ∀ (p : Port) (tag : Byte) (fields : List Byte) (s : State), s.Takes p fields →
    (fields ≠ [] → s.Replies (.queryTime p tag fields) p 0x60 tag .badField .none) ∧
    (fields = [] → s.Replies (.queryTime p tag fields) p 0x60 tag .ok (.time s.clock.time s.clock.divisor))

/-- R10, R11: the checks of SET_TIME in their order, and the set: the line time becomes the new value and the prescale
count 0. That all else stays, what LSENSE was in the tick cut short among it, is the model's reading (log 19). -/
def Obligations.SetTimeChecksAndSets : Prop :=
  ∀ (p : Port) (tag : Byte) (fields : List Byte) (s : State), s.Takes p fields →
    (¬ s.InSession p → s.Replies (.setTime p tag fields) p 0x62 tag .noSession .none) ∧
    (s.InSession p → fields.length ≠ 4 → s.Replies (.setTime p tag fields) p 0x62 tag .badField .none) ∧
    (s.InSession p → ∀ new : Time, fields = timeBytes new →
      (s.prof.holder ≠ some p → s.Replies (.setTime p tag fields) p 0x62 tag .notHolder .none) ∧
      (s.prof.holder = some p → s.disp.line ≠ .disabled →
        s.Replies (.setTime p tag fields) p 0x62 tag .notDisabled .none) ∧
      ∀ carrying : List DescIdx, carrying.Nodup → (∀ d, d ∈ carrying ↔ (s.desc d).Carries) →
        (s.prof.holder = some p → s.disp.line = .disabled → carrying ≠ [] →
          s.Replies (.setTime p tag fields) p 0x62 tag .notEmpty (.timesCarried carrying.length)) ∧
        (s.prof.holder = some p → s.disp.line = .disabled → carrying = [] →
          ∃ t, exec (.setTime p tag fields) s = .next t ∧
            t.clock = { divisor := s.clock.divisor, prescale := 0, time := new } ∧
            s.SamePart { t with clock := s.clock } ∧ s.SameOthers t p ∧
            (t.port p).Agrees ((s.port p).renewed.withEntries [.reply 0x62 tag .ok (.timeSet s.clock.time new)])))

/-! ## The Frame Store -/

/-- R23, R24, R25: the checks of LOAD_BEGIN in their order, and the allocation of the lowest-numbered FREE descriptor with
free segments for the whole body. -/
def Obligations.LoadBeginChecksAndAllocates : Prop :=
  ∀ (p : Port) (tag : Byte) (fields : List Byte) (s : State), s.Takes p fields →
    (¬ s.InSession p → s.Replies (.loadBegin p tag fields) p 0x20 tag .noSession .none) ∧
    ((s.port p).session.state = .closing → s.Replies (.loadBegin p tag fields) p 0x20 tag .closing .none) ∧
    ((s.port p).session.state = .opened →
      ((∀ x : Shape, x.inRange = true → fields ≠ x.bytes) →
        s.Replies (.loadBegin p tag fields) p 0x20 tag .badField .none) ∧
      ∀ x : Shape, x.inRange = true → fields = x.bytes →
        (¬ s.NamesNone p x.tag → s.Replies (.loadBegin p tag fields) p 0x20 tag .tagInUse .none) ∧
        (s.NamesNone p x.tag →
          (16 ≤ s.liveCount p ∨ 96 < s.heldCount p + segmentsFor x.bodyBits →
            s.Replies (.loadBegin p tag fields) p 0x20 tag .portLimit .none) ∧
          (s.liveCount p < 16 → s.heldCount p + segmentsFor x.bodyBits ≤ 96 →
            ((∀ d, (s.desc d).live = true) → s.Replies (.loadBegin p tag fields) p 0x20 tag .noDescriptor .none) ∧
            ∀ d, (s.desc d).live = false → (∀ e, e < d → (s.desc e).live = true) →
              (s.freeSegs.length < segmentsFor x.bodyBits →
                s.Replies (.loadBegin p tag fields) p 0x20 tag .noSegments .none) ∧
              (segmentsFor x.bodyBits ≤ s.freeSegs.length →
                (24 < s.used p + s.reserved p + 2 →
                  s.Replies (.loadBegin p tag fields) p 0x20 tag .noRoom .none) ∧
                (s.used p + s.reserved p + 2 ≤ 24 → ∃ t segs, exec (.loadBegin p tag fields) s = .next t ∧
                  segs.length = segmentsFor x.bodyBits ∧ segs.Nodup ∧ (∀ g ∈ segs, g ∈ s.freeSegs) ∧
                  t.desc d = {
                    state := .loading, owner := some p, tag := x.tag, cls := x.cls, bodyBits := x.bodyBits
                    preBits := x.preBits, coding := x.coding, carrier := x.carrier, reps := x.reps, gap := x.gap
                    priority := if x.cls = .timed then none else some (Fin.ofNat 4 x.priority)
                    strobeStart := x.strobeStart, strobeEnd := x.strobeEnd, segs := segs, fill := 0 } ∧
                  (∀ e, e ≠ d → t.desc e = s.desc e) ∧ s.SameBytes t ∧ s.SamePart { t with store := s.store } ∧
                  s.SameOthers t p ∧ t.liveCount p = s.liveCount p + 1 ∧ t.reserved p = s.reserved p + 1 ∧
                  (t.port p).Agrees ((s.port p).renewed.withEntries [.reply 0x20 tag .loadReady
                    (.loadReady x.tag ((x.bodyBits + 7) / 8) (segmentsFor x.bodyBits))]))))))

/-- R28, R29: the checks of LOAD_DATA in their order, and the write: each byte at its place of the segment list, every other
byte of the pool as before, and the fill level advanced. A descriptor's segments are as StoreStaySound says, and the bytes
read back from a pool in the canonical form that CountsStaySound says every step keeps. -/
def Obligations.LoadDataChecksAndWrites : Prop :=
  ∀ (p : Port) (tag : Byte) (fields : List Byte) (s : State), s.Takes p fields →
    (¬ s.InSession p → s.Replies (.loadData p tag fields) p 0x21 tag .noSession .none) ∧
    (s.InSession p →
      (fields.length < 3 → s.Replies (.loadData p tag fields) p 0x21 tag .badField .none) ∧
      ∀ ftag off payload, fields = ftag :: off :: payload →
        (payload.length = 0 ∨ 24 < payload.length ∨ 127 < off.toNat →
          s.Replies (.loadData p tag fields) p 0x21 tag .badField .none) ∧
        (1 ≤ payload.length → payload.length ≤ 24 → off.toNat ≤ 127 →
          (s.NamesNone p ftag → s.Replies (.loadData p tag fields) p 0x21 tag .notFound .none) ∧
          ∀ d, s.Names p ftag d →
            ((s.desc d).state ≠ .loading → s.Replies (.loadData p tag fields) p 0x21 tag .wrongState .none) ∧
            ((s.desc d).state = .loading →
              (off.toNat ≠ (s.desc d).fill →
                s.Replies (.loadData p tag fields) p 0x21 tag .outOfOrder (.fillLevel (s.desc d).fill)) ∧
              (off.toNat = (s.desc d).fill →
                ((s.desc d).bodyBytes < off.toNat + payload.length →
                  s.Replies (.loadData p tag fields) p 0x21 tag .badField .none) ∧
                (off.toNat + payload.length ≤ (s.desc d).bodyBytes → (s.desc d).segs.Nodup →
                  (s.desc d).segs.length = segmentsFor (s.desc d).bodyBits →
                  ∃ t, exec (.loadData p tag fields) s = .next t ∧
                    t.desc d = { s.desc d with fill := off.toNat + payload.length } ∧
                    (∀ e, e ≠ d → t.desc e = s.desc e) ∧
                    (s.PoolSound → ∀ k b, payload[k]? = some b →
                      readPayload (s.desc d).segs t.store.pool (off.toNat + k) = b) ∧
                    (∀ a, (∀ k, k < payload.length → segAddress (s.desc d).segs (off.toNat + k) ≠ some a) →
                      t.store.pool.read a = s.store.pool.read a) ∧
                    s.SamePart { t with store := s.store } ∧ s.SameOthers t p ∧
                    (t.port p).Agrees ((s.port p).renewed.withEntries [.reply 0x21 tag .ok (.loaded
                      (off.toNat + payload.length)
                      ((s.desc d).bodyBytes - (off.toNat + payload.length)))]))))))

/-- R31, R32, R33: QUERY_FRAME answers the view asked for, and every reply of it carries the capacity counts; that NO_SESSION
and BAD_FIELD carry them too is the model's choice between R31 and the table of R32 (log 29). -/
def Obligations.QueryFrameAnswers : Prop :=
  ∀ (p : Port) (tag : Byte) (fields : List Byte) (s : State), s.Takes p fields →
    let counts : Capacity :=
      { live := s.liveCount p, held := s.heldCount p, freeDescs := s.freeDescs, freeSegs := s.freeSegs.length }
    (¬ s.InSession p → s.Replies (.queryFrame p tag fields) p 0x22 tag .noSession (.capacity counts)) ∧
    (s.InSession p →
      ((∀ ftag, fields ≠ [ftag, 0] ∧ fields ≠ [ftag, 1]) →
        s.Replies (.queryFrame p tag fields) p 0x22 tag .badField (.capacity counts)) ∧
      ∀ ftag v, fields = [ftag, v] → v = 0 ∨ v = 1 →
        (s.NamesNone p ftag → s.Replies (.queryFrame p tag fields) p 0x22 tag .notFound (.capacity counts)) ∧
        ∀ d, s.Names p ftag d →
          (v = 0 → s.Replies (.queryFrame p tag fields) p 0x22 tag .ok (.status
            { state := (s.desc d).state, cls := (s.desc d).cls, fill := (s.desc d).fill
              expected := ((s.desc d).bodyBits + 7) / 8, segments := (s.desc d).segs.length
              repsSent := (s.desc d).repsSent, reps := (s.desc d).reps, truncate := (s.desc d).truncate
              bypass := (s.desc d).bypass, successor := (s.desc d).successor.map fun e => (s.desc e).tag
              mismatches := (s.desc d).mismatches } counts)) ∧
          (v = 1 → ∃ view, (s.desc d).ShowsTimes view ∧
            s.Replies (.queryFrame p tag fields) p 0x22 tag .ok (.times (s.desc d).cls view counts)))

/-- R34, R35, R61, R63, R65: a chain whose first frame fails retires whole, in one event, its FRAME_DONE entries in chain
order: the failed frame's own outcome, then CHAIN_BROKEN, or PURGED behind a purged frame, for each successor. -/
def Obligations.ChainRetiresWhole : Prop :=
  ∀ (s : State) (p : Port) (d : DescIdx) (cs : List DescIdx) (o next : FrameOutcome) (stop : Time)
    (defer : Option Port), s.ChainFrom p d cs → o.releases = false →
    next = (if o = .purged then .purged else .chainBroken) →
    defer = some p ∨ (s.port p).session.state ≠ .closing →
    s.Retired (s.retireNow d o stop defer) (d :: cs) ∧ s.SameOthers (s.retireNow d o stop defer) p ∧
      (s.retireNow d o stop defer).port p = (s.port p).withEntries (s.chainEntries d cs o next stop) ∧
      (s.retireNow d o stop defer).liveCount p + (cs.length + 1) = s.liveCount p

/-- R61, R62, R63, R34: a frame that retires SENT or SENT_LATE releases its HELD successor, which keeps the chain behind it,
and a CLOSING session goes on with it; with its expiry reached or passed the successor retires EXPIRED (WINDOW) instead,
the chain behind it CHAIN_BROKEN, and a CLOSING session left with nothing live completes. -/
def Obligations.SentReleasesSuccessor : Prop :=
  ∀ (s : State) (p : Port) (d c : DescIdx) (cs : List DescIdx) (o : FrameOutcome) (stop : Time), o.releases = true →
    s.ChainFrom p d (c :: cs) →
    let t := s.retireNow d o stop none
    s.SameOthers t p ∧
    ((s.desc c).expiry.open_ s.clock.time = true →
      s.Released t d c stop ∧ t.port p = (s.port p).withEntries [frameDone (s.desc d) o stop] ∧
      t.ChainFrom p c cs) ∧
    ((s.desc c).expiry.open_ s.clock.time = false →
      s.Retired t (d :: c :: cs) ∧
      t.port p = ((s.port p).withEntries
        (frameDone (s.desc d) o stop :: s.chainEntries c cs (.expired .window) .chainBroken stop)).afterRetirements
          (s.liveCount p - (cs.length + 2)))

/-! ## The schedule -/

/-- R66, R67, R37, R34: CANCEL of a LOADING, HELD or WAITING frame retires it CANCELLED and its chain CHAIN_BROKEN, their
entries before the REPLY, and a CLOSING session left with nothing live completes after it. That a start decision comes last,
and only where a listed frame left, is the model's choice (log 11). -/
def Obligations.CancelWithdraws : Prop :=
  ∀ (p : Port) (tag : Byte) (fields : List Byte) (s : State), s.Takes p fields →
    (¬ s.InSession p → s.Replies (.cancel p tag fields) p 0x31 tag .noSession .none) ∧
    (s.InSession p →
      (fields.length ≠ 1 → s.Replies (.cancel p tag fields) p 0x31 tag .badField .none) ∧
      ∀ ftag, fields = [ftag] →
        (s.NamesNone p ftag → s.Replies (.cancel p tag fields) p 0x31 tag .notFound .none) ∧
        ∀ d cs, s.Names p ftag d → (s.desc d).state ≠ .onLine → s.ChainFrom p d cs →
          ∃ u, exec (.cancel p tag fields) s =
              .next (if u.sched.timed.length < s.sched.timed.length then u.startDecision else u) ∧
            s.Retired u (d :: cs) ∧ s.SameOthers u p ∧ s.NoDecision u ∧
            (u.port p).Agrees
              (((s.port p).renewed.withEntries (s.chainEntries d cs .cancelled .chainBroken s.clock.time ++
                [.reply 0x31 tag .cancelled (.cancelled ftag)])).afterRetirements
                (s.liveCount p - (cs.length + 1))))

/-- R68: CANCEL of the frame on the line sets its truncate mark while a repetition remains to be cut, and is otherwise too
late. -/
def Obligations.CancelOnLine : Prop :=
  ∀ (p : Port) (tag ftag : Byte) (d : DescIdx) (s : State), s.Takes p [ftag] → s.InSession p → s.Names p ftag d →
    (s.desc d).state = .onLine →
    (s.disp.phase = some .gap ∨ (s.desc d).repsSent + 1 < (s.desc d).reps →
      ∃ t, exec (.cancel p tag [ftag]) s = .next t ∧ t.desc d = { s.desc d with truncate := true } ∧
        (∀ e, e ≠ d → t.desc e = s.desc e) ∧ s.SameBytes t ∧ s.SamePart { t with store := s.store } ∧
        s.SameOthers t p ∧
        (t.port p).Agrees ((s.port p).renewed.withEntries [.reply 0x31 tag .truncated
          (.cancelOnLine ftag (s.desc d).repsSent (s.desc d).reps)])) ∧
    (s.disp.phase ≠ some .gap → (s.desc d).reps ≤ (s.desc d).repsSent + 1 →
      s.Replies (.cancel p tag [ftag]) p 0x31 tag .tooLateToCancel
        (.cancelOnLine ftag (s.desc d).repsSent (s.desc d).reps))

/-- R49, R50, R51: the checks of SUBMIT that come before those of the class, those of a TIMED frame, and its admission: the
reservation interval, the next admission number, its place by start; then the start decision. -/
def Obligations.SubmitTimedChecksAndAdmits : Prop :=
  ∀ (p : Port) (tag : Byte) (fields : List Byte) (s : State), s.Takes p fields →
    (¬ s.InSession p → s.Replies (.submit p tag fields) p 0x30 tag .noSession .none) ∧
    ((s.port p).session.state = .closing → s.Replies (.submit p tag fields) p 0x30 tag .closing .none) ∧
    ((s.port p).session.state = .opened →
      ((∀ x : Timing, x.inRange → fields ≠ x.bytes) →
        s.Replies (.submit p tag fields) p 0x30 tag .badField .none) ∧
      ∀ (x : Timing), x.inRange → fields = x.bytes →
        (s.NamesNone p x.tag → s.Replies (.submit p tag fields) p 0x30 tag .notFound .none) ∧
        ∀ d, s.Names p x.tag d →
          ((s.desc d).state ≠ .loading → s.Replies (.submit p tag fields) p 0x30 tag .wrongState .none) ∧
          ((s.desc d).state = .loading → x.fits (s.desc d).cls = false →
            s.Replies (.submit p tag fields) p 0x30 tag .badField .none) ∧
          ((s.desc d).state = .loading → x.fits (s.desc d).cls = true → (s.desc d).fill < (s.desc d).bodyBytes →
            s.Replies (.submit p tag fields) p 0x30 tag .incomplete (.fillLevel (s.desc d).fill)) ∧
          ((s.desc d).state = .loading → (s.desc d).cls = .timed → x.fits .timed = true →
            (s.desc d).bodyBytes ≤ (s.desc d).fill → ∀ start, x.start = some start →
            let ahead := (start - s.clock.time).toNat
            let stop := plus start ((s.desc d).reservation s.prof.active)
            (ahead < 32 ∨ 2 ^ 31 < ahead → s.Replies (.submit p tag fields) p 0x30 tag .tooLate .none) ∧
            (2 ^ 30 < ahead → ahead ≤ 2 ^ 31 → s.Replies (.submit p tag fields) p 0x30 tag .tooFar .none) ∧
            (32 ≤ ahead → ahead ≤ 2 ^ 30 →
              (∀ l i r, s.standing = l ++ i :: r → overlap start stop i.1 i.2 = true →
                (∀ j ∈ l, overlap start stop j.1 j.2 = false) →
                s.Replies (.submit p tag fields) p 0x30 tag .conflict (.conflictEnd i.2)) ∧
              ((∀ i ∈ s.standing, overlap start stop i.1 i.2 = false) →
                ∃ u, exec (.submit p tag fields) s = .next u.startDecision ∧
                  u.desc d = { s.desc d with
                    state := .waiting, start := some start, slip := some (x.slip.getD 0)
                    admission := some s.sched.counter, resStart := some start, resEnd := some stop } ∧
                  (∀ e, e ≠ d → u.desc e = s.desc e) ∧
                  (∃ l r, s.sched.timed = l ++ r ∧ u.sched.timed = l ++ d :: r ∧
                    (∀ e ∈ l, ∀ a, (s.desc e).start = some a → before start a = false) ∧
                    (∀ e, r.head? = some e → ∃ a, (s.desc e).start = some a ∧ before start a = true)) ∧
                  u.sched.asap = s.sched.asap ∧ u.sched.counter = s.sched.counter + 1 ∧ s.SameBytes u ∧
                  s.SamePart { u with store := s.store, sched := s.sched } ∧ s.SameOthers u p ∧ s.NoDecision u ∧
                  (u.port p).Agrees ((s.port p).renewed.withEntries
                    [.reply 0x30 tag .admitted (.admittedTimed x.tag start stop)])))))

/-- R52, R53: the checks of an ASAP SUBMIT in their order, and its admission at the tail of its priority's queue; then the
start decision. -/
def Obligations.SubmitAsapChecksAndAdmits : Prop :=
  ∀ (p : Port) (tag : Byte) (d : DescIdx) (x : Timing) (s : State), s.Takes p x.bytes →
    (s.port p).session.state = .opened → x.inRange → s.Names p x.tag d → (s.desc d).state = .loading →
    (s.desc d).cls = .asap → x.fits .asap = true → (s.desc d).bodyBytes ≤ (s.desc d).fill →
    let ahead : Time → Nat := fun t => (t - s.clock.time).toNat
    let far : Time → Prop := fun t => 2 ^ 30 < ahead t ∧ ahead t ≤ 2 ^ 31
    ((∃ t, (x.notBefore = some t ∨ x.expiry = some t) ∧ far t) →
      s.Replies (.submit p tag x.bytes) p 0x30 tag .tooFar .none) ∧
    ((∀ t, x.notBefore = some t ∨ x.expiry = some t → ¬ far t) →
      (∀ e, x.expiry = some e → 2 ^ 31 < ahead e → s.Replies (.submit p tag x.bytes) p 0x30 tag .tooLate .none) ∧
      ((∀ e, x.expiry = some e → ahead e ≤ 2 ^ 31) →
        (∀ n e, x.notBefore = some n → x.expiry = some e → before n e = false →
          s.Replies (.submit p tag x.bytes) p 0x30 tag .badField .none) ∧
        ((∀ n e, x.notBefore = some n → x.expiry = some e → before n e = true) →
          ∃ u el, exec (.submit p tag x.bytes) s = .next u.startDecision ∧
            (el = true ↔ ∀ n, x.notBefore = some n → reached n s.clock.time = true) ∧
            u.desc d = { s.desc d with
              state := .waiting, notBefore := x.notBefore, admission := some s.sched.counter, bypass := 0
              eligible := el
              expiry := match x.expiry with
                | some e => .at e
                | none => .absent } ∧
            (∀ e, e ≠ d → u.desc e = s.desc e) ∧ u.sched.timed = s.sched.timed ∧
            u.sched.asap = s.sched.asap.join ((s.desc d).priority.getD 0) d ∧
            u.sched.counter = s.sched.counter + 1 ∧ s.SameBytes u ∧
            s.SamePart { u with store := s.store, sched := s.sched } ∧ s.SameOthers u p ∧ s.NoDecision u ∧
            (u.port p).Agrees ((s.port p).renewed.withEntries
              [.reply 0x30 tag .admitted (.admittedAsap x.tag el)]))))

/-- R54, R55, R56: the checks of a CHAINED SUBMIT in their order, and its admission into the held set behind its
predecessor, which raises no decision. -/
def Obligations.SubmitChainedChecksAndAdmits : Prop :=
  ∀ (p : Port) (tag pred : Byte) (d : DescIdx) (x : Timing) (s : State), s.Takes p x.bytes →
    (s.port p).session.state = .opened → x.inRange → s.Names p x.tag d → (s.desc d).state = .loading →
    (s.desc d).cls = .chained → x.fits .chained = true → (s.desc d).bodyBytes ≤ (s.desc d).fill →
    x.pred = some pred →
    (s.NamesNone p pred → s.Replies (.submit p tag x.bytes) p 0x30 tag .noPredecessor (.noPredecessor .notLive)) ∧
    ∀ e cs, s.Names p pred e → s.ChainFrom p d cs →
      (e = d ∨ e ∈ cs → s.Replies (.submit p tag x.bytes) p 0x30 tag .noPredecessor (.noPredecessor .loop)) ∧
      (e ≠ d → e ∉ cs →
        (∀ c, (s.desc e).successor = some c →
          s.Replies (.submit p tag x.bytes) p 0x30 tag .chainTaken (.chainTaken (s.desc c).tag)) ∧
        ((s.desc e).successor = none →
          let ahead : Time → Nat := fun t => (t - s.clock.time).toNat
          (∀ t, x.expiry = some t → 2 ^ 30 < ahead t → ahead t ≤ 2 ^ 31 →
            s.Replies (.submit p tag x.bytes) p 0x30 tag .tooFar .none) ∧
          (∀ t, x.expiry = some t → 2 ^ 31 < ahead t →
            s.Replies (.submit p tag x.bytes) p 0x30 tag .tooLate .none) ∧
          ((∀ t, x.expiry = some t → ahead t ≤ 2 ^ 30) →
            ∃ u, exec (.submit p tag x.bytes) s = .next u ∧
              u.desc d = { s.desc d with
                state := .held, predTag := some pred, offset := x.offset, notBefore := none
                expiry := match x.expiry with
                  | some t => .at t
                  | none => .absent } ∧
              u.desc e = { s.desc e with successor := some d } ∧
              (∀ f, f ≠ d → f ≠ e → u.desc f = s.desc f) ∧ s.SameBytes u ∧
              s.SamePart { u with store := s.store } ∧ s.SameOthers u p ∧
              (u.port p).Agrees ((s.port p).renewed.withEntries
                [.reply 0x30 tag .admitted (.admittedChained x.tag pred)]))))

/-- R58, R59, R60: QUERY_FREE answers the earliest start that is neither before the earliest time nor before now plus LEAD,
lies within the horizon, and whose interval overlaps no standing interval; it is the candidate the search begins with or
the end of a standing interval, and NONE only where no such start exists. It books nothing. That no earlier start fits
takes standing intervals of at most 2^30 ticks, which those of a part whose events are taken in time are (log 2). -/
def Obligations.QueryFreeFindsRoom : Prop :=
  ∀ (p : Port) (tag : Byte) (fields : List Byte) (s : State), s.Takes p fields →
    (¬ s.InSession p → s.Replies (.queryFree p tag fields) p 0x32 tag .noSession .none) ∧
    (s.InSession p →
      (fields.length ≠ 8 → s.Replies (.queryFree p tag fields) p 0x32 tag .badField .none) ∧
      ∀ (t : Time) (d : Nat), fields = timeBytes t ++ be32 d → d < 2 ^ 32 →
        (d = 0 ∨ 72224752 < d → s.Replies (.queryFree p tag fields) p 0x32 tag .badField .none) ∧
        (1 ≤ d → d ≤ 72224752 →
          let ahead : Time → Nat := fun t => (t - s.clock.time).toNat
          (2 ^ 30 < ahead t → ahead t ≤ 2 ^ 31 →
            s.Replies (.queryFree p tag fields) p 0x32 tag .tooFar .none) ∧
          (¬ (2 ^ 30 < ahead t ∧ ahead t ≤ 2 ^ 31) →
            let first : Time := if 32 ≤ ahead t ∧ ahead t ≤ 2 ^ 30 then t else s.clock.time + 32
            let fits : Time → Prop := fun c => ∀ i ∈ s.standing, overlap c (plus c d) i.1 i.2 = false
            let short : Prop := ∀ i ∈ s.standing, (i.2 - i.1).toNat ≤ 2 ^ 30
            let answer : Time → Prop := fun c => s.Replies (.queryFree p tag fields) p 0x32 tag .ok
              (.room c ((s.sched.timed.filterMap fun e => (s.desc e).start).find? fun a => before c a))
            (fits first → answer first) ∧
            ((∃ c, answer c ∧ fits c ∧ ahead first ≤ ahead c ∧ ahead c ≤ 2 ^ 30 ∧
                (c = first ∨ ∃ i ∈ s.standing, c = i.2) ∧
                (short → ∀ e, ahead first ≤ ahead e → ahead e < ahead c → ¬ fits e)) ∨
              (s.Replies (.queryFree p tag fields) p 0x32 tag .none .none ∧
                (short → ∀ e, ahead first ≤ ahead e → ahead e ≤ 2 ^ 30 → ¬ fits e))))))

/-- R84, R85: a WAITING frame whose window or expiry has passed retires EXPIRED (WINDOW) and its chain CHAIN_BROKEN; a frame
that leaves the timed list raises a start decision. -/
def Obligations.WaitingFramesExpire : Prop :=
  ∀ (s : State) (p : Port) (d : DescIdx) (cs : List DescIdx), s.inReset = false → s.ChainFrom p d cs →
    (s.desc d).state = .waiting →
    let goes : State → Prop := fun u => s.Retired u (d :: cs) ∧ s.SameOthers u p ∧
      u.port p = ((s.port p).withEntries
        (s.chainEntries d cs (.expired .window) .chainBroken s.clock.time)).afterRetirements
          (s.liveCount p - (cs.length + 1))
    (∀ a, (s.desc d).cls = .timed → (s.desc d).start = some a →
      before (plus a ((s.desc d).slip.getD 0)) s.clock.time = true →
      ∃ u, exec (.windowExpiry d) s = .next u.startDecision ∧ goes u ∧ s.NoDecision u) ∧
    (∀ e, (s.desc d).cls ≠ .timed → (s.desc d).expiry = .at e → reached e s.clock.time = true →
      ∃ u, exec (.asapExpiry d) s = .next u ∧ goes u)

/-- R64, R46: a HELD frame's expiry that is reached becomes the passed mark, and a queued frame's not_before that is reached
makes it eligible, which raises a start decision. -/
def Obligations.StoredTimesMarkFrames : Prop :=
  ∀ (s : State) (d : DescIdx), s.inReset = false →
    (∀ e, (s.desc d).state = .held → (s.desc d).expiry = .at e → reached e s.clock.time = true →
      ∃ t, exec (.heldExpiryPassed d) s = .next t ∧ t.desc d = { s.desc d with expiry := .passed } ∧
        (∀ f, f ≠ d → t.desc f = s.desc f) ∧ s.SameBytes t ∧ s.SamePart { t with store := s.store } ∧
        t.ports = s.ports) ∧
    (∀ n, (s.desc d).state = .waiting → (s.desc d).cls ≠ .timed → (s.desc d).eligible = false →
      (s.desc d).notBefore = some n → reached n s.clock.time = true →
      ∃ u, exec (.notBeforeReached d) s = .next u.startDecision ∧ u.desc d = { s.desc d with eligible := true } ∧
        (∀ f, f ≠ d → u.desc f = s.desc f) ∧ s.SameBytes u ∧ s.SamePart { u with store := s.store } ∧
        u.ports = s.ports ∧ s.NoDecision u)

/-! ## The line -/

/-- R77, R78, R82, R83, R116: when the start of the first listed frame is reached with the line IDLE, the quiet check passes
and the frame goes ON_LINE on time, or the check refuses it and a fault entry is taken. -/
def Obligations.TimedFrameStarts : Prop :=
  ∀ (s : State) (d : DescIdx) (rest : List DescIdx), s.inReset = false → s.disp.line = .idle →
    s.sched.timed = d :: rest → (s.desc d).start = some s.clock.time →
    (¬ s.Quiet s.prof.active.quiet → exec .timedStartReached s = .next (s.faultEntry .blocked)) ∧
    (s.Quiet s.prof.active.quiet → ∃ t, exec .timedStartReached s = .next t ∧
      t.desc d = { s.desc d with
        state := .onLine, actualStart := some s.clock.time, repsSent := 0, mismatches := 0 } ∧
      (∀ e, e ≠ d → t.desc e = s.desc e) ∧ s.SameBytes t ∧
      t.sched.timed = s.sched.timed.filter (fun e => decide (e ≠ d)) ∧
      t.sched.asap = s.sched.asap.remove (fun e => decide (e ≠ d)) ∧ t.sched.counter = s.sched.counter ∧
      t.disp = { s.disp with
        line := .busy, phase := some (if (s.desc d).preBits = 0 then .body else .preamble), slot := some d
        plannedEnd := plus s.clock.time ((s.desc d).reservation s.prof.active) } ∧
      t.enc = s.enc.begun 1 ∧ t.echo = { s.echo with abortPending := false, counted := false } ∧
      s.SamePart { t with store := s.store, sched := s.sched, disp := s.disp, enc := s.enc, echo := s.echo } ∧
      ∀ q, t.port q = (s.port q).strobed (decide ((s.desc d).owner = some q) && (s.desc d).strobeStart))

/-- R79: a late frame at the head of the list starts late if its slip has not run out and it fits before the start that
follows it, and otherwise retires EXPIRED, WINDOW or WOULD_OVERLAP, and the decision goes on. -/
def Obligations.LateFrameStartsOrExpires : Prop :=
  ∀ (s : State) (d : DescIdx) (rest : List DescIdx) (a : Time), s.ScheduleSound → s.disp.line = .idle →
    s.sched.timed = d :: rest → (s.desc d).start = some a → before a s.clock.time = true →
    let inSlip : Prop := before (plus a ((s.desc d).slip.getD 0)) s.clock.time = false
    let stop := plus s.clock.time ((s.desc d).reservation s.prof.active)
    let clear : Prop := ∀ e b, rest.head? = some e → (s.desc e).start = some b → before b stop = false
    (inSlip → clear → s.Quiet s.prof.active.quiet →
      (s.startDecision.desc d).state = .onLine ∧ (s.startDecision.desc d).actualStart = some s.clock.time ∧
      s.startDecision.disp.slot = some d ∧ s.startDecision.disp.line = .busy ∧
      s.startDecision.disp.plannedEnd = stop) ∧
    (inSlip → clear → ¬ s.Quiet s.prof.active.quiet → s.startDecision = s.faultEntry .blocked) ∧
    (inSlip → ¬ clear →
      s.startDecision = (s.retireNow d (.expired .wouldOverlap) s.clock.time none).startDecision) ∧
    (¬ inSlip → s.startDecision = (s.retireNow d (.expired .window) s.clock.time none).startDecision)

/-- R80, R81: with no timed frame due, a start decision starts the first eligible frame of the ASAP order that fits, and
counts a bypass for each eligible one before it; a blocking frame that does not fit ends the walk. -/
def Obligations.AsapFirstFitWalk : Prop :=
  ∀ s : State, s.disp.line = .idle → s.sched.asap.order.Nodup →
    (∀ a, s.nextListed = some a → before s.clock.time a = true) →
    let fits : DescIdx → Prop := fun d => ∀ a, s.nextListed = some a →
      before a (plus s.clock.time ((s.desc d).reservation s.prof.active)) = false
    let passed : DescIdx → Prop := fun e => (s.desc e).eligible = true → ¬ fits e ∧ (s.desc e).bypass < 8
    ((∀ e ∈ s.sched.asap.order, passed e) → s.startDecision = s) ∧
    ∀ l d r, s.sched.asap.order = l ++ d :: r → (∀ e ∈ l, passed e) → (s.desc d).eligible = true →
      (¬ fits d → 8 ≤ (s.desc d).bypass → s.startDecision = s) ∧
      (fits d → ¬ s.Quiet s.prof.active.quiet → s.startDecision = s.faultEntry .blocked) ∧
      (fits d → s.Quiet s.prof.active.quiet →
        s.startDecision.desc d = { s.desc d with
          state := .onLine, actualStart := some s.clock.time, repsSent := 0, mismatches := 0 } ∧
        s.startDecision.disp.slot = some d ∧ s.startDecision.disp.line = .busy ∧
        s.startDecision.disp.plannedEnd = plus s.clock.time ((s.desc d).reservation s.prof.active) ∧
        (∀ e ∈ l, (s.desc e).eligible = true →
          s.startDecision.desc e = { s.desc e with bypass := (s.desc e).bypass + 1 }) ∧
        (∀ e, e ≠ d → ¬ (e ∈ l ∧ (s.desc e).eligible = true) → s.startDecision.desc e = s.desc e))

/-- R87: the checks of LINE_ENABLE in their order, and its effect by the line state; a line that enters IDLE takes its start
decision before the REPLY. -/
def Obligations.LineEnableActs : Prop :=
  ∀ (p : Port) (tag : Byte) (fields : List Byte) (s : State), s.Takes p fields →
    s.HolderChecked (.lineEnable p tag fields) p 0x40 tag fields ∧
    (s.InSession p → fields = [] → s.prof.holder = some p →
      (s.disp.line = .fault → s.Replies (.lineEnable p tag fields) p 0x40 tag .wrongState .none) ∧
      (s.disp.line = .idle ∨ s.disp.line = .busy →
        s.Replies (.lineEnable p tag fields) p 0x40 tag .ok (.lineState s.disp.line)) ∧
      (s.disp.line = .draining → ∃ t, exec (.lineEnable p tag fields) s = .next t ∧
        t.disp = { s.disp with line := .busy, cause := .hostEnable } ∧ s.SamePart { t with disp := s.disp } ∧
        (∀ q, q ≠ p → t.port q = (s.port q).lineFlagged) ∧
        (t.port p).Agrees
          ((s.port p).renewed.lineFlagged.withEntries [.reply 0x40 tag .ok (.lineState .busy)])) ∧
      (s.disp.line = .disabled → ∃ u : State, exec (.lineEnable p tag fields) s =
          .next (u.startDecision.place p (.reply 0x40 tag .ok (.lineState u.startDecision.disp.line))) ∧
        u.disp = { s.disp with line := .idle, cause := .hostEnable } ∧ s.SamePart { u with disp := s.disp } ∧
        (∀ q, q ≠ p → u.port q = (s.port q).lineFlagged) ∧
        (u.port p).Agrees (s.port p).renewed.lineFlagged))

/-- R88, R89: the checks of LINE_DISABLE, and its effect by the line state. -/
def Obligations.LineDisableActs : Prop :=
  ∀ (p : Port) (tag : Byte) (fields : List Byte) (s : State), s.Takes p fields →
    s.HolderChecked (.lineDisable p tag fields) p 0x41 tag fields ∧
    (s.InSession p → fields = [] → s.prof.holder = some p →
      (s.disp.line = .draining ∨ s.disp.line = .disabled →
        s.Replies (.lineDisable p tag fields) p 0x41 tag .ok (.lineState s.disp.line)) ∧
      (s.disp.line = .busy → ∃ t, exec (.lineDisable p tag fields) s = .next t ∧
        t.disp = { s.disp with line := .draining, cause := .hostDisable } ∧ s.SamePart { t with disp := s.disp } ∧
        (∀ q, q ≠ p → t.port q = (s.port q).lineFlagged) ∧
        (t.port p).Agrees
          ((s.port p).renewed.lineFlagged.withEntries [.reply 0x41 tag .ok (.lineState .draining)])) ∧
      (s.disp.line = .idle ∨ s.disp.line = .fault → ∃ t, exec (.lineDisable p tag fields) s = .next t ∧
        t.disp = { s.disp with line := .disabled, phase := none, slot := none, cause := .hostDisable } ∧
        t.enc = { s.enc with activity := .resting } ∧ t.echo = { s.echo with streak := 0 } ∧
        s.SamePart { t with disp := s.disp, enc := s.enc, echo := s.echo } ∧
        (∀ q, q ≠ p → t.port q = (s.port q).lineFlagged) ∧
        (t.port p).Agrees
          ((s.port p).renewed.lineFlagged.withEntries [.reply 0x41 tag .ok (.lineState .disabled)])))

/-- R93: QUERY_LINE answers what the Line Dispatcher and the Echo Monitor hold and clears the asking port's LINE_CHANGED. -/
def Obligations.QueryLineAnswers : Prop :=
  ∀ (p : Port) (tag : Byte) (fields : List Byte) (s : State), s.Takes p fields →
    (fields ≠ [] → s.Replies (.queryLine p tag fields) p 0x42 tag .badField .none) ∧
    (fields = [] → ∀ owner guardEnd next,
      (∀ d, s.disp.slot = some d → owner = (s.desc d).owner) → (s.disp.slot = none → owner = none) →
      (s.disp.phase = some .guard → guardEnd = some s.disp.guardEnd) →
      (s.disp.phase ≠ some .guard → guardEnd = none) →
      (∀ d r, s.sched.timed = d :: r → next = (s.desc d).start) → (s.sched.timed = [] → next = none) →
      s.Serves (.queryLine p tag fields) p
        ({ (s.port p).renewed with
            queue := { (s.port p).renewed.queue with lineChanged := false } }.withEntries
          [.reply 0x42 tag .ok
            (.lineReport s.disp.line s.disp.phase s.disp.cause s.echo.streak owner guardEnd next)]))

/-- R73, R74, R99, R106, R117: the end of the preamble moves the phase to BODY; the end of a body or gap with repetitions to
come and the truncate mark clear brings the gap or the next repetition, or, where the quiet check refuses it, stops the
frame ABORTED (BLOCKED). -/
def Obligations.SpansFollow : Prop :=
  ∀ (s : State) (d : DescIdx), s.inReset = false → s.disp.slot = some d →
    let first : Phase := if (s.desc d).preBits = 0 then .body else .preamble
    (s.disp.phase = some .preamble → s.enc.activity = .sending → (s.desc d).preBits ≤ s.enc.bitPos →
      exec .preambleEnd s = .next { s with disp := { s.disp with phase := some .body } }) ∧
    (s.disp.phase = some .body → s.enc.activity = .sending → s.prof.active.hbt ≤ s.enc.ticks →
      s.enc.bitPos + 1 = (s.desc d).preBits + (s.desc d).bodyBits → s.enc.half = .second →
      s.echo.abortPending = false → (s.desc d).truncate = false → (s.desc d).repsSent + 1 < (s.desc d).reps →
      ∃ t, exec .bodyEnd s = .next t ∧ t.desc d = { s.desc d with repsSent := (s.desc d).repsSent + 1 } ∧
        (∀ e, e ≠ d → t.desc e = s.desc e) ∧ s.SameBytes t ∧ t.ports = s.ports ∧
        s.SamePart { t with store := s.store, disp := s.disp, enc := s.enc, echo := s.echo } ∧
        ((s.desc d).gap ≠ 0 → t.disp = { s.disp with phase := some .gap } ∧ t.echo = s.echo ∧
          t.enc = { s.enc with activity := .gap, ticks := 0 }) ∧
        ((s.desc d).gap = 0 → t.disp = { s.disp with phase := some first } ∧
          t.echo = { s.echo with counted := false } ∧ t.enc = s.enc.begun (s.enc.repetition + 1))) ∧
    (s.disp.phase = some .gap → s.enc.activity = .gap → (s.desc d).gap ≤ s.enc.ticks →
      (s.desc d).truncate = false →
      (s.Quiet (min s.prof.active.quiet (s.desc d).gap) → exec .gapEnd s = .next { s with
        disp := { s.disp with phase := some first }
        echo := { s.echo with counted := false }
        enc := s.enc.begun (s.enc.repetition + 1) }) ∧
      (¬ s.Quiet (min s.prof.active.quiet (s.desc d).gap) → ∀ p cs, s.ChainFrom p d cs →
        ∃ u, exec .gapEnd s = .next (u.faultEntry .blocked) ∧
          ({ s with
            disp := { s.disp with phase := none, slot := none }
            enc := { s.enc with activity := .resting } } : State).Retired u (d :: cs) ∧ s.SameOthers u p ∧
          u.port p = (((s.port p).withEntries
            (s.chainEntries d cs (.aborted .blocked) .chainBroken s.enc.lastEnd)).afterRetirements
              (s.liveCount p - (cs.length + 1))).strobed (s.desc d).strobeEnd))

/-- R74, R75, R108, R110, R125, R61: a frame that ends at its last body or, marked, at a body's or gap's end: the outcome,
the guard, the retirement of the frame and of the chain behind a failed one, the release or the expiry of the successor of
one that was sent, the streak, the strobe; an orphan places no entry and pulses nothing. -/
def Obligations.FrameEnds : Prop :=
  ∀ (s : State) (d : DescIdx) (x : Desc) (i : Instr), s.inReset = false → s.disp.slot = some d →
    (i = .bodyEnd ∧ s.disp.phase = some .body ∧ s.enc.activity = .sending ∧ s.prof.active.hbt ≤ s.enc.ticks ∧
      s.enc.bitPos + 1 = (s.desc d).preBits + (s.desc d).bodyBits ∧ s.enc.half = .second ∧
      s.echo.abortPending = false ∧ x = { s.desc d with repsSent := (s.desc d).repsSent + 1 } ∧
      (x.truncate = true ∨ x.reps ≤ x.repsSent)) ∨
    (i = .gapEnd ∧ s.disp.phase = some .gap ∧ s.enc.activity = .gap ∧ (s.desc d).gap ≤ s.enc.ticks ∧
      x = s.desc d ∧ x.truncate = true) →
    ∀ o, x.EndsWith o →
      let ended : State := { s with
        disp := { s.disp with
          phase := some .guard, slot := none, guardEnd := plus s.clock.time s.prof.active.guard }
        enc := { s.enc with activity := .resting }
        echo := if o.releases then { s.echo with streak := 0 } else s.echo }
      (∀ p cs, s.ChainFrom p d cs → (o.releases = true → cs = []) →
        ∃ t, exec i s = .next t ∧ ended.Retired t (d :: cs) ∧ s.SameOthers t p ∧
          t.port p = (((s.port p).withEntries (frameDone x o s.enc.lastEnd ::
            cs.map fun c => frameDone (s.desc c) .chainBroken s.enc.lastEnd)).afterRetirements
              (s.liveCount p - (cs.length + 1))).strobed (s.desc d).strobeEnd) ∧
      (∀ p c cs, s.ChainFrom p d (c :: cs) → o.releases = true →
        ∃ t, exec i s = .next t ∧ s.SameOthers t p ∧
          ((s.desc c).expiry.open_ s.clock.time = true → ended.Released t d c s.enc.lastEnd ∧
            t.port p = ((s.port p).withEntries [frameDone x o s.enc.lastEnd]).strobed (s.desc d).strobeEnd) ∧
          ((s.desc c).expiry.open_ s.clock.time = false → ended.Retired t (d :: c :: cs) ∧
            t.port p = (((s.port p).withEntries (frameDone x o s.enc.lastEnd ::
              s.chainEntries c cs (.expired .window) .chainBroken s.enc.lastEnd)).afterRetirements
                (s.liveCount p - (cs.length + 2))).strobed (s.desc d).strobeEnd)) ∧
      ((s.desc d).live = true → (s.desc d).owner = none → (s.desc d).successor = none →
        ∃ t, exec i s = .next t ∧ ended.Retired t [d] ∧ t.ports = s.ports)

/-- R76, R89, R90: the guard end takes a BUSY line to IDLE, where a start decision is taken, and a DRAINING line to DISABLED
with cause DRAIN_END. -/
def Obligations.GuardEnds : Prop :=
  ∀ s : State, s.inReset = false → s.disp.phase = some .guard → reached s.disp.guardEnd s.clock.time = true →
    (s.disp.line = .busy → exec .guardEnd s =
      .next ({ s with disp := { s.disp with line := .idle, phase := none } } : State).startDecision) ∧
    (s.disp.line = .draining → exec .guardEnd s = .next { s with
      disp := { s.disp with line := .disabled, phase := none, slot := none, cause := .drainEnd }
      echo := { s.echo with streak := 0 }
      enc := { s.enc with activity := .resting }
      ports := s.ports.map PortState.lineFlagged })

/-- R118, R119, R107: at the middle of a half-cell under COUNT or ABORT a mismatch is counted once in a bit, and under ABORT
the count that reaches ECHO_THRESHOLD sets abort pending. -/
def Obligations.ComparisonCounts : Prop :=
  ∀ (s : State) (d : DescIdx), s.inReset = false → s.disp.slot = some d → s.enc.activity = .sending →
    s.prof.active.echoMode ≠ .off → s.clock.prescale = 0 → s.enc.ticks = s.prof.active.hbt / 2 →
    let expected : Prop := s.enc.level (s.desc d) s.store.pool = .active
    let sensed : Prop := s.echo.sinceOpposite s.prof.active.idleLevel < s.prof.active.carrierPeriod
    let n := min 65535 ((s.desc d).mismatches + 1)
    ((expected ↔ sensed) ∨ s.echo.counted = true → exec .comparisonEvent s = .next s) ∧
    (¬ (expected ↔ sensed) → s.echo.counted = false → ∃ t, exec .comparisonEvent s = .next t ∧
      t.desc d = { s.desc d with mismatches := n } ∧ (∀ e, e ≠ d → t.desc e = s.desc e) ∧ s.SameBytes t ∧
      t.echo.counted = true ∧
      (t.echo.abortPending = true ↔ s.echo.abortPending = true ∨
        (s.prof.active.echoMode = .abort ∧ n = s.prof.active.echoThreshold)) ∧
      { t.echo with counted := false, abortPending := false } =
        { s.echo with counted := false, abortPending := false } ∧
      s.SamePart { t with store := s.store, echo := s.echo } ∧ t.ports = s.ports)

/-- R120, R119: the echo stop at the end of the half-cell in which abort pending was set: the encoder rests, a repetition
whose last half-cell was produced counts, the frame retires ABORTED (ECHO) and its chain CHAIN_BROKEN, no guard follows,
and a fault entry is taken; an orphan retires without an entry and pulses nothing. -/
def Obligations.EchoStopAborts : Prop :=
  ∀ (s : State) (d : DescIdx), s.inReset = false → s.disp.slot = some d →
    s.enc.activity = .sending → s.prof.active.hbt ≤ s.enc.ticks → s.echo.abortPending = true →
    let stopped : State := { s with
      disp := { s.disp with phase := none, slot := none }
      enc := { s.enc with activity := .resting }
      echo := { s.echo with abortPending := false, counted := false } }
    (∀ p cs, s.ChainFrom p d cs → ∀ sent,
      (s.enc.half = .second ∧ s.enc.bitPos + 1 = (s.desc d).preBits + (s.desc d).bodyBits →
        sent = (s.desc d).repsSent + 1) →
      (¬ (s.enc.half = .second ∧ s.enc.bitPos + 1 = (s.desc d).preBits + (s.desc d).bodyBits) →
        sent = (s.desc d).repsSent) →
      ∃ u, exec .echoStop s = .next (u.faultEntry .echo) ∧ stopped.Retired u (d :: cs) ∧ s.SameOthers u p ∧
        u.port p = (((s.port p).withEntries
          (frameDone { s.desc d with repsSent := sent } (.aborted .echo) s.enc.lastEnd ::
            cs.map fun c => frameDone (s.desc c) .chainBroken s.enc.lastEnd)).afterRetirements
              (s.liveCount p - (cs.length + 1))).strobed (s.desc d).strobeEnd) ∧
    ((s.desc d).live = true → (s.desc d).owner = none → (s.desc d).successor = none →
      ∃ u, exec .echoStop s = .next (u.faultEntry .echo) ∧ stopped.Retired u [d] ∧ u.ports = s.ports)

/-- R121, R71, R72, R89: a fault entry takes an IDLE or BUSY line to FAULT with a hold, or at streak 3 to DISABLED with
cause FAULT_LIMIT, and a DRAINING line to DISABLED; every port with an open or closing session is flagged. -/
def Obligations.FaultEntryActs : Prop :=
  ∀ (s : State) (cause : Cause), cause = .echo ∨ cause = .blocked →
    let off : Cause → State := fun c => { s with
      disp := { s.disp with line := .disabled, phase := none, slot := none, cause := c }
      echo := { s.echo with streak := 0 }
      enc := { s.enc with activity := .resting }
      ports := s.ports.map PortState.lineFlagged }
    (s.disp.line = .draining → s.faultEntry cause = off cause) ∧
    (s.disp.line = .idle ∨ s.disp.line = .busy →
      (s.echo.streak ≤ 2 → s.faultEntry cause = { s with
        disp := { s.disp with line := .fault, phase := none, cause := cause }
        echo := { s.echo with
          streak := s.echo.streak + 1, holdEnd := plus s.clock.time s.prof.active.faultHold }
        ports := s.ports.map PortState.lineFlagged }) ∧
      (s.echo.streak = 3 → s.faultEntry cause = off .faultLimit))

/-- R122, R124: the fault hold's end and RECOVER return the line from FAULT to IDLE when the quiet run is at least
max(QUIET, 1), with a start decision; a hold end without it restarts the hold, and a RECOVER without it is refused. -/
def Obligations.FaultReturns : Prop :=
  (∀ s : State, s.inReset = false → s.disp.line = .fault → reached s.echo.holdEnd s.clock.time = true →
    (max s.prof.active.quiet 1 ≤ s.echo.quietRun → exec .holdEnd s = .next ({ s with
      disp := { s.disp with line := .idle, cause := .holdEnd }
      ports := s.ports.map PortState.lineFlagged } : State).startDecision) ∧
    (s.echo.quietRun < max s.prof.active.quiet 1 → exec .holdEnd s = .next { s with
      echo := { s.echo with holdEnd := plus s.clock.time s.prof.active.faultHold } })) ∧
  (∀ s : State, s.disp.line ≠ .fault → exec .holdEnd s = .next s) ∧
  ∀ (p : Port) (tag : Byte) (fields : List Byte) (s : State), s.Takes p fields →
    s.HolderChecked (.recover p tag fields) p 0x43 tag fields ∧
    (s.InSession p → fields = [] → s.prof.holder = some p →
      (s.disp.line ≠ .fault → s.Replies (.recover p tag fields) p 0x43 tag .wrongState .none) ∧
      (s.disp.line = .fault → s.echo.quietRun < max s.prof.active.quiet 1 →
        s.Replies (.recover p tag fields) p 0x43 tag .senseActive .none) ∧
      (s.disp.line = .fault → max s.prof.active.quiet 1 ≤ s.echo.quietRun →
        ∃ u : State, exec (.recover p tag fields) s = .next (u.startDecision.place p (.reply 0x43 tag .ok .none)) ∧
          u.disp = { s.disp with line := .idle, cause := .recovered } ∧ s.SamePart { u with disp := s.disp } ∧
          (∀ q, q ≠ p → u.port q = (s.port q).lineFlagged) ∧
          (u.port p).Agrees (s.port p).renewed.lineFlagged))

/-- R97, R100, R103, R104, R101, R102, R185: LOUT is LOW in reset, at the idle level whenever no half-cell is produced, and
in a half-cell as its coded level, the carrier and the burst time give; the level of the half-cell in hand is the coded
level of the bit at the bit position, a 1 in the preamble and a bit of the payload, most significant first, in the body;
and the coded levels themselves. -/
def Obligations.WaveformLevels : Prop :=
  (∀ s : State, (s.inReset = true → s.lout = .low) ∧
    (s.inReset = false →
      (s.enc.activity ≠ .sending → s.lout = s.prof.active.idleLevel) ∧
      (s.LineSound → s.disp.phase ≠ some .preamble → s.disp.phase ≠ some .body →
        s.lout = s.prof.active.idleLevel) ∧
      ∀ d, s.enc.activity = .sending → s.disp.slot = some d → s.enc.ticks < s.prof.active.hbt →
        (s.enc.level (s.desc d) s.store.pool = .quiet → s.lout = s.prof.active.idleLevel) ∧
        (s.enc.level (s.desc d) s.store.pool = .active →
          ((s.desc d).carrier = .off → s.lout ≠ s.prof.active.idleLevel) ∧
          ((s.desc d).carrier = .on →
            (s.lout ≠ s.prof.active.idleLevel ↔ s.enc.carrierPhase < s.prof.active.burst))))) ∧
  (∀ w : Profile, (w.duty = .quarter → w.burst = w.carrierPeriod / 4) ∧
    (w.duty = .third → w.burst = w.carrierPeriod / 3) ∧ (w.duty = .half → w.burst = w.carrierPeriod / 2)) ∧
  (∀ (e : Encoder) (x : Desc) (pool : Memory),
    (e.bitPos < x.preBits → e.level x pool = codedLevel x.coding true e.half e.prevLevel) ∧
    ∀ j, e.bitPos = x.preBits + j → e.level x pool =
      codedLevel x.coding ((readPayload x.segs pool (j / 8)).getLsbD (7 - j % 8)) e.half e.prevLevel) ∧
  ∀ (bit : Bool) (prev : HalfLevel),
    (∀ h, (codedLevel .nrz bit h prev = .active ↔ bit = true)) ∧
    (codedLevel .manchester bit .first prev = .active ↔ bit = true) ∧
    (codedLevel .manchester bit .second prev = .active ↔ bit = false) ∧
    codedLevel .biphase bit .first prev ≠ prev ∧
    (codedLevel .biphase bit .second prev = prev ↔ bit = true)

/-! ## The profile and its claim -/

/-- R131, R133, R135: CLAIM grants the claim to a port whose session is OPEN when no port holds it, with a staged copy of the
active profile; RELEASE gives it back and discards the staged copy. Neither changes anything else. -/
def Obligations.ClaimAndRelease : Prop :=
  ∀ (p : Port) (tag : Byte) (fields : List Byte) (s : State), s.Takes p fields →
    ((s.port p).session.state ≠ .opened → s.Replies (.claim p tag fields) p 0x50 tag .noSession .none) ∧
    ((s.port p).session.state = .opened →
      (fields ≠ [] → s.Replies (.claim p tag fields) p 0x50 tag .badField .none) ∧
      (fields = [] →
        (s.prof.holder = some p → s.Replies (.claim p tag fields) p 0x50 tag .ok (.claim .heldAlready)) ∧
        (∀ q, q ≠ p → s.prof.holder = some q → s.Replies (.claim p tag fields) p 0x50 tag .claimed .none) ∧
        (s.prof.holder = none → ∃ t, exec (.claim p tag fields) s = .next t ∧
          t.prof = { active := s.prof.active, staged := some s.prof.active, holder := some p } ∧
          s.SamePart { t with prof := s.prof } ∧ s.SameOthers t p ∧
          (t.port p).Agrees ((s.port p).renewed.withEntries [.reply 0x50 tag .ok (.claim .granted)]) ∧
          ∀ q, ((t.summary q).headD 0).getLsbD 0 = decide (q = p)))) ∧
    s.HolderChecked (.release p tag fields) p 0x51 tag fields ∧
    (s.ProfileSound → (s.port p).session.state = .closing → fields = [] →
      s.Replies (.release p tag fields) p 0x51 tag .notHolder .none) ∧
    (s.InSession p → fields = [] → s.prof.holder = some p → ∃ t, exec (.release p tag fields) s = .next t ∧
      t.prof = { active := s.prof.active, staged := none, holder := none } ∧ s.SamePart { t with prof := s.prof } ∧
      s.SameOthers t p ∧ (t.port p).Agrees ((s.port p).renewed.withEntries [.reply 0x51 tag .ok .none]))

/-- R136, R137: the checks of STAGE in their order, and the staged values: those named are written, the others stay, and the
reply counts the fields that differ from the active profile. That QUIET takes one byte of the fields is the model's choice
(log 14). -/
def Obligations.StageChanges : Prop :=
  ∀ (p : Port) (tag : Byte) (fields : List Byte) (s : State), s.Takes p fields →
    (¬ s.InSession p → s.Replies (.stage p tag fields) p 0x52 tag .noSession .none) ∧
    (s.InSession p →
      ((∀ cs, stageFits cs → fields ≠ stageBytes cs) → s.Replies (.stage p tag fields) p 0x52 tag .badField .none) ∧
      ∀ cs, stageFits cs → fields = stageBytes cs →
        (s.prof.holder ≠ some p → s.Replies (.stage p tag fields) p 0x52 tag .notHolder .none) ∧
        (s.prof.holder = some p → ∀ w, s.prof.staged = some w →
          (∀ l f v r, cs = l ++ (f, v) :: r → (∀ c ∈ l, c.1.inRange c.2 = true) → f.inRange v = false →
            s.Replies (.stage p tag fields) p 0x52 tag .badField (.badProfileField f)) ∧
          ((∀ c ∈ cs, c.1.inRange c.2 = true) → ∃ t new, exec (.stage p tag fields) s = .next t ∧
            (∀ f v, (f, v) ∈ cs → new.field f = v) ∧ (∀ f, (∀ v, (f, v) ∉ cs) → new.field f = w.field f) ∧
            t.prof = { s.prof with staged := some new } ∧ s.SamePart { t with prof := s.prof } ∧ s.SameOthers t p ∧
            (t.port p).Agrees ((s.port p).renewed.withEntries [.reply 0x52 tag .ok (.staged
              (allProfileFields.filter fun f => decide (new.field f ≠ s.prof.active.field f)).length)]))))

/-- R138, R139, R140, R141: the checks of COMMIT, and the commit: the staged profile becomes active, and the listed frames
are judged in order, each kept with its new reservation end unless it starts before the end of the last one kept; those
that are not retire RESCHEDULED with their chains. -/
def Obligations.CommitRevalidates : Prop :=
  ∀ (p : Port) (tag : Byte) (fields : List Byte) (s : State), s.Takes p fields →
    s.HolderChecked (.commit p tag fields) p 0x53 tag fields ∧
    (s.InSession p → fields = [] → s.prof.holder = some p →
      (s.disp.line ≠ .disabled → s.Replies (.commit p tag fields) p 0x53 tag .notDisabled .none) ∧
      (s.disp.line = .disabled → s.ScheduleSound → s.LineSound → s.ChainsSound → s.ProfileSound →
        ∀ w, s.prof.staged = some w → ∃ t, exec (.commit p tag fields) s = .next t ∧
          let left := s.sched.timed.filter fun d => decide (d ∉ t.sched.timed)
          let chain : DescIdx → List DescIdx := fun d => s.chainAfter 49 d
          let done : Port → List Entry := fun q => left.flatMap fun d =>
            if (s.desc d).owner = some q then s.chainEntries d (chain d) .rescheduled .chainBroken s.clock.time else []
          t.prof = { s.prof with active := w } ∧ t.lout = w.idleLevel ∧
          t.sched.timed = s.sched.timed.filter (fun d => decide (d ∈ t.sched.timed)) ∧
          (∀ l d r, s.sched.timed = l ++ d :: r →
            (d ∈ t.sched.timed ↔ ∀ k a b, (l.filter fun e => decide (e ∈ t.sched.timed)).getLast? = some k →
              (s.desc k).start = some a → (s.desc d).start = some b →
              before b (plus a ((s.desc k).reservation w)) = false)) ∧
          (∀ d ∈ t.sched.timed, ∀ a, (s.desc d).start = some a →
            t.desc d = { s.desc d with resEnd := some (plus a ((s.desc d).reservation w)) }) ∧
          (∀ d ∈ left, t.desc d = Desc.blank ∧ ∀ c ∈ chain d, t.desc c = Desc.blank) ∧
          (∀ e, e ∉ s.sched.timed → (∀ d ∈ left, e ∉ chain d) → t.desc e = s.desc e) ∧
          t.sched.asap = s.sched.asap ∧ t.sched.counter = s.sched.counter ∧ s.SameBytes t ∧
          t.echo = { s.echo with counted := false, abortPending := false } ∧
          s.SamePart { t with prof := s.prof, sched := s.sched, echo := s.echo, store := s.store } ∧
          (∀ q, q ≠ p → (done q = [] → t.port q = s.port q) ∧
            (done q ≠ [] → t.port q = ((s.port q).withEntries (done q)).afterRetirements (t.liveCount q))) ∧
          (t.port p).Agrees ((s.port p).renewed.withEntries (done p ++
            [.reply 0x53 tag .ok (.committed left.length (left.map fun d => (chain d).length).sum)]))))

/-- R142: QUERY_PROFILE answers the values of the copy asked for and the claim as the asking port sees it; the staged copy
only to the holder. -/
def Obligations.QueryProfileAnswers : Prop :=
  ∀ (p : Port) (tag : Byte) (fields : List Byte) (s : State), s.Takes p fields →
    (fields ≠ [0] → fields ≠ [1] → s.Replies (.queryProfile p tag fields) p 0x54 tag .badField .none) ∧
    ∀ view : ClaimView, (view = .byThisPort ↔ s.prof.holder = some p) → (view = .unheld ↔ s.prof.holder = none) →
      (fields = [0] →
        s.Replies (.queryProfile p tag fields) p 0x54 tag .ok (.profile s.prof.active view)) ∧
      (fields = [1] → s.prof.holder ≠ some p →
        s.Replies (.queryProfile p tag fields) p 0x54 tag .notHolder .none) ∧
      (fields = [1] → s.prof.holder = some p → ∀ w, s.prof.staged = some w →
        s.Replies (.queryProfile p tag fields) p 0x54 tag .ok (.profile w view))

/-! ## Sessions -/

/-- R149, R150: the checks of OPEN in their order, and the session it opens or whose lease it starts anew; the claim and all
else of the part stay. -/
def Obligations.OpenStartsLease : Prop :=
  ∀ (p : Port) (tag : Byte) (fields : List Byte) (s : State), s.Takes p fields →
    let found := (s.port p).session.state
    ((∀ c : LeaseClass, fields ≠ [byteOf c.number]) →
      s.Replies (.openSession p tag fields) p 0x10 tag .badField .none) ∧
    ∀ c : LeaseClass, fields = [byteOf c.number] →
      (found = .closing → s.Replies (.openSession p tag fields) p 0x10 tag .wrongState .none) ∧
      (found = .closed ∨ found = .lapsed → 24 < s.used p + s.reserved p + 2 →
        s.Replies (.openSession p tag fields) p 0x10 tag .noRoom .none) ∧
      (found = .opened ∨ ((found = .closed ∨ found = .lapsed) ∧ s.used p + s.reserved p + 2 ≤ 24) →
        s.Serves (.openSession p tag fields) p
          ({ (s.port p).renewed with
              session := { state := .opened, lease := some c, remaining := c.period, form := none }
              queue := { (s.port p).renewed.queue with leaseLow := false } }.withEntries
            [.reply 0x10 tag .ok (.opened found c)]))

/-- R152: RENEW answers the lease remaining as it was before the renewal, the lease class and the session state. -/
def Obligations.RenewAnswers : Prop :=
  ∀ (p : Port) (tag : Byte) (fields : List Byte) (s : State), s.Takes p fields →
    (¬ s.InSession p → s.Replies (.renew p tag fields) p 0x11 tag .noSession .none) ∧
    (s.InSession p → fields ≠ [] → s.Replies (.renew p tag fields) p 0x11 tag .badField .none) ∧
    (s.InSession p → fields = [] → ∀ c, (s.port p).session.lease = some c →
      (s.port p).renewed.session.remaining = c.period ∧
      s.Replies (.renew p tag fields) p 0x11 tag .ok
        (.renewed (s.port p).session.remaining c (s.port p).session.state))

/-- R156, R157, R158, R159: the checks of CLOSE, a drain, which only moves the session, and a purge, which retires every
descriptor off the line in walk order and marks the one on it; a session left with nothing live completes after the
REPLY. That the start decision of a purge comes last, and only where a listed frame left, is the model's choice (log 11). -/
def Obligations.CloseEndsSession : Prop :=
  ∀ (p : Port) (tag : Byte) (fields : List Byte) (s : State), s.Takes p fields →
    (¬ s.InSession p → s.Replies (.close p tag fields) p 0x12 tag .noSession .none) ∧
    (s.InSession p →
      let closing : CloseForm → PortState := fun f =>
        { (s.port p).renewed with
          session := { (s.port p).renewed.session with state := .closing, form := some f } }
      (fields ≠ [0] → fields ≠ [1] → s.Replies (.close p tag fields) p 0x12 tag .badField .none) ∧
      (fields = [0] →
        ((s.port p).session.state = .closing → ∀ f, (s.port p).session.form = some f →
          s.Replies (.close p tag fields) p 0x12 tag .ok (.closed f (s.liveCount p))) ∧
        ((s.port p).session.state = .opened → ∃ t, exec (.close p tag fields) s = .next t ∧
          t.prof = s.profReleased p ∧ s.SamePart { t with prof := s.prof } ∧ s.SameOthers t p ∧
          (t.port p).Agrees (((closing .drain).withEntries
            [.reply 0x12 tag .ok (.closed .drain (s.liveCount p))]).afterRetirements (s.liveCount p)))) ∧
      (fields = [1] → s.ScheduleSound → s.LineSound → s.ChainsSound →
        ∃ u order, exec (.close p tag fields) s =
            .next (if u.sched.timed.length < s.sched.timed.length then u.startDecision else u) ∧
          s.NoDecision u ∧ s.PurgeOrder p order ∧ s.Purged u p ∧ s.SameOthers u p ∧
          (u.port p).Agrees (((closing .purge).withEntries (s.purgeEntries order ++
            [.reply 0x12 tag .ok (.closed .purge (s.liveCount p - order.length))])).afterRetirements
              (s.liveCount p - order.length))))

/-- R153, R160, R162: a lease that has run out ends the session: the claim is released, the descriptors off the line are
purged in walk order, the one on it is marked, and SESSION_LAPSED follows their entries. The model's choices: a lease that
has not run out does not lapse (log 1); the start decision of the frames purged out of the list or a queue comes last
(log 11). R151, R162: a request of the port taken first renews the lease whole, whatever it asks, and no lapse occurs at
that tick. R12, R91, R143: a command of the holder's so taken acts under the claim, and the lapse that follows it, by the
model's reading when the renewed lease has run out (log 28), releases the claim and discards the staged copy. -/
def Obligations.LapseEndsSession : Prop :=
  (∀ (p : Port) (s : State), s.inReset = false → s.InSession p →
    ((s.port p).session.remaining ≠ 0 → exec (.lapse p) s = .next s) ∧
    ((s.port p).session.remaining = 0 → s.ScheduleSound → s.LineSound → s.ChainsSound → ∀ c, (s.port p).session.lease = some c →
      ∃ u order onLine, exec (.lapse p) s =
          .next (if u.sched.timed.length < s.sched.timed.length ∨
            u.sched.asap.order.length < s.sched.asap.order.length then u.startDecision else u) ∧
        s.NoDecision u ∧ s.PurgeOrder p order ∧ s.Purged u p ∧ s.SameOthers u p ∧
        (∀ d, s.disp.slot = some d → (s.desc d).owner = some p → onLine = some (s.desc d).tag) ∧
        ((∀ d, s.disp.slot = some d → (s.desc d).owner ≠ some p) → onLine = none) ∧
        u.port p = { (s.port p).withEntries (s.purgeEntries order ++ [.sessionLapsed c (s.port p).session.state
            order.length onLine (decide (s.prof.holder = some p))]) with
          session := { state := .lapsed, lease := none, remaining := 0, form := none } })) ∧
  (∀ (i : Instr) (p : Port) (msg : List Byte) (s : State), requestOf i = some (p, msg) → s.Takes p (msg.drop 3) →
    s.CountsSound → ∃ t, exec i s = .next t ∧ exec (.lapse p) t = .next t ∧
      ∀ c, (t.port p).session.lease = some c → (t.port p).session.remaining = c.period) ∧
  ∀ (p : Port) (tag : Byte) (fields : List Byte) (s : State) (i : Instr), s.Takes p fields → s.CountsSound →
    s.InSession p → s.prof.holder = some p →
    i ∈ ([.lineEnable p tag fields, .lineDisable p tag fields, .stage p tag fields, .commit p tag fields,
      .queryProfile p tag fields, .setTime p tag fields] : List Instr) →
    ∃ t v, exec i s = .next t ∧ exec (.lapse p) t = .next t ∧ t.prof.holder = some p ∧
      exec (.lapse p) (t.modSession p fun x => { x with remaining := 0 }) = .next v ∧ v.prof = t.profReleased p

/-- R153, R147, R110: a lease that comes down to one quarter of its period sets LEASE_LOW, and a pulse on PSTRB ends at its
tick boundary. That the rows change nothing above the threshold and before the boundary is the model's choice (log 1). -/
def Obligations.LeaseLowAndPulseEnd : Prop :=
  ∀ (p : Port) (s : State), s.inReset = false →
    (∀ c, s.InSession p → (s.port p).session.lease = some c →
      (c.period < 4 * (s.port p).session.remaining → exec (.leaseLow p) s = .next s) ∧
      (4 * (s.port p).session.remaining = c.period → ∃ t, exec (.leaseLow p) s = .next t ∧ s.SamePart t ∧
        s.SameOthers t p ∧ t.attention p = true ∧
        t.port p = { s.port p with queue := { (s.port p).queue with leaseLow := true } })) ∧
    ((s.port p).strobe = .ending → ∃ t, exec (.strobePulseEnd p) s = .next t ∧ s.SamePart t ∧ s.SameOthers t p ∧
      t.port p = { s.port p with strobe := .low }) ∧
    ((s.port p).strobe ≠ .ending → exec (.strobePulseEnd p) s = .next s)

/-! ## The links -/

/-- R171, R173, R176, R182: a POLL sends the head entry, its length and its CRC, and removes it when the CRC byte has been
sent; of an empty queue it sends length 0. PATTNn follows. A POLL whose row begins with the fall of PCSn has the summary,
and from byte 1 the entry, of one state, since the row's bytes are one step (log 9); one that has sent byte 1 goes on with
what was fixed there, and cut off by PCSn leaves the entry at the head. And the two bytes of the summary (R176, R186), of a
queue within its 24 entries (RoomStaysSound). -/
def Obligations.PollTakesHead : Prop :=
  (∀ (p : Port) (s : State), (s.port p).queue.entries.length ≤ 24 →
    let q := (s.port p).queue
    let flag : Bool → Nat → Nat := fun b n => if b then n else 0
    let session : Nat := match (s.port p).session.state with
      | .closed => 0
      | .opened => 1
      | .closing => 2
      | .lapsed => 3
    let condition : Nat := match s.disp.line with
      | .disabled => 0
      | .idle | .busy => 1
      | .draining => 2
      | .fault => 3
    (s.summary p).map BitVec.toNat =
      [q.entries.length * 8 + session * 2 + flag (decide (s.prof.holder = some p)) 1,
       condition * 64 + flag q.lineChanged 32 + flag q.leaseLow 16 + flag q.captureReady 8 + 5]) ∧
  (∀ (p : Port) (n : Nat) (s : State), s.inReset = false → (s.port p).link.Settled →
    ∃ t, exec (.poll p n) s = .next t ∧ s.SamePart t ∧ s.SameOthers t p ∧
      let entries := (s.port p).queue.entries
      let rest := if 24 ≤ n then entries.drop 1 else entries
      let sent : Prop := 24 ≤ n ∨ (entries = [] ∧ 3 ≤ n)
      (∀ st : LinkState, (n = 0 → st = .kind) → (1 ≤ n → ¬ sent → st = .poll) → (sent → st = .ignore) →
        (t.port p).Agrees { s.port p with
          queue := { (s.port p).queue with entries := rest }
          link := { (s.port p).link with state := st } }) ∧
      (t.attention p = true ↔ rest ≠ [] ∨ (s.port p).queue.lineChanged = true ∨
        (s.port p).queue.leaseLow = true ∨ (s.port p).queue.captureReady = true) ∧
      (entries = [] → (t.port p).link.miso = (s.summary p ++ List.replicate n 0).take n) ∧
      (∀ e r, entries = e :: r → (t.port p).link.miso =
        (s.summary p ++ [20] ++ e.bytes ++ [crc8 e.bytes] ++ List.replicate n 0).take n)) ∧
  ∀ (p : Port) (s : State), s.inReset = false → (s.port p).link.state = .poll →
    let l := (s.port p).link
    (2 ≤ l.byteCount → l.byteCount < 24 → l.byteCount + l.out.length = 24 → l.pad = 0 → ∀ n, 24 ≤ n →
      ∃ t, exec (.poll p n) s = .next t ∧ s.SamePart t ∧ s.SameOthers t p ∧
        (t.port p).Agrees { s.port p with
          queue := { (s.port p).queue with entries := (s.port p).queue.entries.drop 1 }
          link := { l with state := .ignore } } ∧
        (t.port p).link.miso = l.miso ++ l.out ++ List.replicate (n - 24) 0) ∧
    ∃ t, exec (.voidTransaction p ⟨false, [], true⟩) s = .next t ∧ s.SamePart t ∧ s.SameOthers t p ∧
      (t.port p).Agrees { s.port p with link := { l with state := .resting } }

/-- R168, R175 to R180, R183: what comes to nothing. A void transaction, a LINK_RESET whose confirm fails and a REQUEST that
is not taken change nothing but the error count their rule raises, to at most 255; a REQUEST of a code that names no
command is taken and answered UNKNOWN_COMMAND. Bytes after a REQUEST's CRC byte, and in IGNORE, read what is fixed for
them and change nothing else, and PCSn's rise ends the transaction there without a count. -/
def Obligations.LinkRefusals : Prop :=
  (∀ (p : Port) (s : State), s.inReset = false → (s.port p).link.Settled →
    let link := (s.port p).link
    let leaves : Instr → LinkState → Nat → Nat → List Byte → Prop := fun i st crc framing out =>
      ∃ t, exec i s = .next t ∧ s.SamePart t ∧ s.SameOthers t p ∧
        (t.port p).Agrees { s.port p with
          link := { link with state := st, crcErrors := crc, framingErrors := framing } } ∧
        (t.port p).link.out = out ∧ (t.port p).link.pad = 0
    let framed := min 255 (link.framingErrors + 1)
    leaves (.voidTransaction p ⟨true, [], true⟩) .resting link.crcErrors link.framingErrors [] ∧
    (∀ r, leaves (.voidTransaction p ⟨true, 0x00 :: r, true⟩) .resting link.crcErrors link.framingErrors []) ∧
    (∀ b r, b ≠ 0x00 → b ≠ 0xA5 → b ≠ 0x5A → b ≠ 0xC3 →
      leaves (.voidTransaction p ⟨true, b :: r, true⟩) .resting link.crcErrors framed []) ∧
    leaves (.voidTransaction p ⟨true, [0xA5], true⟩) .resting link.crcErrors framed [] ∧
    (∀ n body, n.toNat < 3 ∨ 40 < n.toNat ∨ body.length ≤ n.toNat →
      leaves (.voidTransaction p ⟨true, 0xA5 :: n :: body, true⟩) .resting link.crcErrors framed []) ∧
    (∀ n body, n.toNat < 3 ∨ 40 < n.toNat → ∃ t, exec (.voidTransaction p ⟨true, 0xA5 :: n :: body, true⟩) s = .next t ∧
      (t.port p).link.miso = s.summary p ++ List.replicate body.length 0x04) ∧
    (∀ b, b ≠ 0x3C → leaves (.failedConfirm p (some b)) .ignore link.crcErrors framed []) ∧
    leaves (.failedConfirm p none) .resting link.crcErrors framed [] ∧
    (∀ code tag n rest crc, rest.length ≤ 37 →
      let msg := code :: tag :: n :: rest
      let good := crc8 (byteOf msg.length :: msg)
      (crc ≠ good →
        leaves (.requestNotTaken p msg crc) .answer (min 255 (link.crcErrors + 1)) link.framingErrors [0x03]) ∧
      (crc = good → n.toNat ≠ rest.length →
        leaves (.requestNotTaken p msg crc) .answer link.crcErrors framed [0x04]) ∧
      (crc = good → n.toNat = rest.length → 24 ≤ s.used p + s.reserved p →
        leaves (.requestNotTaken p msg crc) .answer link.crcErrors link.framingErrors [0x02]))) ∧
  (∀ (p : Port) (code tag : Byte) (fields : List Byte) (s : State), s.Takes p fields →
    code ∉ ([0x10, 0x11, 0x12, 0x20, 0x21, 0x22, 0x30, 0x31, 0x32, 0x40, 0x41, 0x42, 0x43, 0x50, 0x51, 0x52, 0x53,
      0x54, 0x60, 0x61, 0x62, 0x70] : List Byte) →
    s.Replies (.unknownCommand p code tag fields) p code tag .unknownCommand .none) ∧
  ∀ (p : Port) (bytes : List Byte) (rises : Bool) (s : State), s.inReset = false →
    (s.port p).link.state = .answer ∨ (s.port p).link.state = .ignore →
    ∃ t, exec (.voidTransaction p ⟨false, bytes, rises⟩) s = .next t ∧ s.SamePart t ∧ s.SameOthers t p ∧
      (t.port p).Agrees { s.port p with
        link := { (s.port p).link with state := if rises then .resting else (s.port p).link.state } } ∧
      (t.port p).link.miso = (s.port p).link.miso ++
        ((s.port p).link.out ++ List.replicate bytes.length (s.port p).link.pad).take bytes.length

/-- R184, R183, R38, R39, R111: a LINK_RESET ends its port's standing: the claim released, the descriptors discarded or, on
the line, orphaned, the session, queue, slot and counts cleared; a pulse on PSTRB and the rest of the part go on. Its
summary shows the port as it stood before, and after its two bytes PMISO reads 0x00. -/
def Obligations.LinkResetClearsPort : Prop :=
  ∀ (p : Port) (s : State), s.inReset = false →
    ∃ u, exec (.linkReset p) s =
        .next (if u.sched.timed.length < s.sched.timed.length then u.startDecision else u) ∧ s.NoDecision u ∧
      u.prof = s.profReleased p ∧
      (∀ d, (s.desc d).ownedBy p = true → (s.desc d).state ≠ .onLine → u.desc d = Desc.blank) ∧
      (∀ d, (s.desc d).ownedBy p = true → (s.desc d).state = .onLine →
        u.desc d = { s.desc d with owner := none, truncate := true, successor := none }) ∧
      (∀ d, (s.desc d).ownedBy p = false → u.desc d = s.desc d) ∧ s.SameBytes u ∧
      u.sched.timed = s.sched.timed.filter (fun d => !(s.desc d).ownedBy p) ∧
      u.sched.asap = s.sched.asap.remove (fun d => !(s.desc d).ownedBy p) ∧
      u.sched.counter = s.sched.counter ∧
      s.SamePart { u with prof := s.prof, store := s.store, sched := s.sched } ∧ s.SameOthers u p ∧
      u.liveCount p = 0 ∧ u.reserved p = 0 ∧ u.used p = 0 ∧ u.attention p = false ∧
      (u.port p).session = { state := .closed, lease := none, remaining := 0, form := none } ∧
      (u.port p).queue = { entries := [], lineChanged := false, leaseLow := false, captureReady := false } ∧
      (u.port p).capture.full = false ∧ (u.port p).capture.overrun = false ∧ (u.port p).pcapt = (s.port p).pcapt ∧
      (u.port p).strobe = (s.port p).strobe ∧ (u.port p).link.state = .ignore ∧
      (u.port p).link.crcErrors = 0 ∧ (u.port p).link.framingErrors = 0 ∧
      ((s.port p).link.Settled → (u.port p).link.miso = s.summary p ∧ (u.port p).link.out = [] ∧
        (u.port p).link.pad = 0)

/-- R181: QUERY_LINK answers the two error counts and the number of the port, in every session state. And the bytes of a
REQUEST (R175, R176, R178, R179), whose parts VOID_TRANSACTION carries by the model's choice (log 9): any first part of
its bytes and then its row do what the row does alone; in a transaction under way the row sends what was fixed there, the
summary of the fall of PCSn among it, whatever the state has become; and a row that does not go on with the transaction
under way comes after the rise of PCSn that ends it, with its error. -/
def Obligations.QueryLinkAnswers : Prop :=
  (∀ (p : Port) (tag : Byte) (fields : List Byte) (s : State), s.Takes p fields →
    (fields ≠ [] → s.Replies (.queryLink p tag fields) p 0x70 tag .badField .none) ∧
    (fields = [] → s.Replies (.queryLink p tag fields) p 0x70 tag .ok
      (.link (s.port p).link.crcErrors (s.port p).link.framingErrors p))) ∧
  (∀ (i : Instr) (p : Port) (msg a b : List Byte) (s : State), requestOf i = some (p, msg) → msg.length ≤ 40 →
    (s.port p).link.Settled → requestBytes msg (messageCrc msg) = a ++ b → b ≠ [] →
    ∃ u, exec (.voidTransaction p ⟨true, a, false⟩) s = .next u ∧ exec i u = exec i s) ∧
  (∀ (p : Port) (tag : Byte) (s : State), s.inReset = false → s.used p + s.reserved p < 24 →
    let msg := message 0x70 tag []
    let l := (s.port p).link
    l.leadsTo (requestBytes msg (messageCrc msg)) = true →
    ∃ t, exec (.queryLink p tag []) s = .next t ∧
      (t.port p).Agrees ((s.port p).renewed.withEntries [.reply 0x70 tag .ok (.link l.crcErrors l.framingErrors p)]) ∧
      (t.port p).link.miso = l.miso ++ (l.out ++ List.replicate (6 - l.byteCount) l.pad).take (6 - l.byteCount) ∧
      (t.port p).link.out = [0x01]) ∧
  ∀ (i : Instr) (p : Port) (msg : List Byte) (s : State), requestOf i = some (p, msg) → msg.length ≤ 40 →
    s.inReset = false →
    ((s.port p).link.state = .request → (s.port p).link.leadsTo (requestBytes msg (messageCrc msg)) = false →
      ∃ u, exec (.voidTransaction p ⟨false, [], true⟩) s = .next u ∧ exec i u = exec i s ∧ s.SamePart u ∧
        s.SameOthers u p ∧ (u.port p).Agrees { s.port p with link := { (s.port p).link with
          state := .resting, framingErrors := min 255 ((s.port p).link.framingErrors + 1) } }) ∧
    ((s.port p).link.state = .confirm → (s.port p).link.byteCount = 1 →
      ∃ u, exec (.failedConfirm p none) s = .next u ∧ exec i u = exec i s ∧ s.SamePart u ∧ s.SameOthers u p ∧
        (u.port p).Agrees { s.port p with link := { (s.port p).link with
          state := .resting, framingErrors := min 255 ((s.port p).link.framingErrors + 1) } })

/-! ## Invariants -/

/-- The state after reset is sound (R13, R19, R40, R70, R96, R113, R127, R145, R163; the values of logs 5, 6 and 17). -/
def Obligations.InvariantsAtReset : Prop :=
  State.reset.ScheduleSound ∧ State.reset.LineSound ∧ State.reset.ProfileSound ∧ State.reset.RoomSound ∧
    State.reset.StoreSound ∧ State.reset.ChainsSound ∧ State.reset.ListedApart ∧ State.reset.ListOrdered ∧
    State.reset.ApartFromLine ∧ State.reset.OnTime ∧ State.reset.CountsSound ∧ State.reset.PoolSound

/-- R40, R42, R45, R47, R70, R82, R96: every step keeps the schedule's structures in agreement with the descriptor states,
and phase, slot, encoder and line state in agreement with one another, with at most one frame on the line. -/
def Obligations.ScheduleAndLineStaySound : Prop :=
  ∀ s t : State, s.ScheduleSound → s.LineSound → step s = .next t → t.ScheduleSound ∧ t.LineSound

/-- R127, R128, R134: after every step the holder's session is OPEN, a staged profile stands exactly while a port holds the
claim, and every profile value is in its range. -/
def Obligations.ProfileStaysSound : Prop :=
  ∀ s t : State, s.ProfileSound → step s = .next t → t.ProfileSound

/-- R170: after every step the used plus the reserved entries of every queue fit in its 24. -/
def Obligations.RoomStaysSound : Prop :=
  ∀ s t : State, s.ScheduleSound → s.LineSound → s.RoomSound → step s = .next t → t.RoomSound

/-- R15, R19, R20, R21: every step keeps every live descriptor's shape in range and its segments those of its body, segments
held once, shares kept and tags distinct; then the held segments and the free ones make up the 192. -/
def Obligations.StoreStaysSound : Prop :=
  (∀ s t : State, s.ScheduleSound → s.LineSound → s.StoreSound → step s = .next t → t.StoreSound) ∧
  ∀ s : State, s.StoreSound → s.freeSegs.length + (s.store.descs.toList.map fun x => x.segs.length).sum = 192

/-- R47: every step keeps the chains: a HELD frame behind exactly one live predecessor of its own port, and no loop. -/
def Obligations.ChainsStaySound : Prop :=
  ∀ s t : State, s.ScheduleSound → s.LineSound → s.ChainsSound → step s = .next t → t.ChainsSound

/-- R42, R82, R140: no step but a COMMIT makes two listed intervals overlap, and a COMMIT of an ordered list does not either.
And every step taken while events are on time (the order of the queue is the model's choice, log 2) keeps the list in the
order of its starts with every reservation its length, and the listed intervals apart from one another and from the
occupied interval. -/
def Obligations.ListedStayApart : Prop :=
  (∀ s t : State, s.ScheduleSound → s.LineSound → s.ListedApart →
    (∀ p tag fields, s.pending.head? ≠ some (.commit p tag fields)) → step s = .next t → t.ListedApart) ∧
  (∀ (p : Port) (tag : Byte) (fields : List Byte) (s t : State), s.ScheduleSound → s.LineSound → s.StoreSound →
    s.ProfileSound → s.ListedApart → s.ListOrdered → exec (.commit p tag fields) s = .next t →
    t.ListedApart ∧ t.ListOrdered) ∧
  ∀ s t : State, s.ScheduleSound → s.LineSound → s.StoreSound → s.ProfileSound → s.OnTime →
    s.ListedApart → s.ListOrdered → s.ApartFromLine → step s = .next t →
    t.ListedApart ∧ t.ListOrdered ∧ t.ApartFromLine

/-- R1, R17, R81, R113, R145, R175, R180, R19: every step keeps the counts in their ranges, and the segment pool in its canonical
form. -/
def Obligations.CountsStaySound : Prop :=
  (∀ s t : State, s.ScheduleSound → s.LineSound → s.CountsSound → step s = .next t → t.CountsSound) ∧
  ∀ s t : State, s.PoolSound → step s = .next t → t.PoolSound

/-! ## Layouts -/

/-- R186, R22, R48, R136: the field layouts of LOAD_BEGIN, SUBMIT and STAGE and the line time are read back whole, and a
form that is read is one that was written (QUIET in one byte by log 14). R186, R163, R165, R167, R36, R178: the 20 bytes of
an entry of each kind, with the result data, which logs 12, 13, 15 and 31 lay out where R186 leaves it open, whole within
them; the values of the result codes; and the CRC-8, the remainder of a division by x^8 + x^2 + x + 1. -/
def Obligations.FieldsRoundTrip : Prop :=
  (∀ x : Shape, x.inRange = true → readShape x.bytes = some x) ∧
  (∀ bs x, readShape bs = some x → x.inRange = true ∧ bs = x.bytes) ∧
  (∀ x : Timing, x.inRange → readTiming x.bytes = some x) ∧
  (∀ bs x, readTiming bs = some x → x.inRange ∧ bs = x.bytes) ∧
  (∀ cs, stageFits cs → readStage (stageBytes cs) = some cs) ∧
  (∀ bs cs, readStage bs = some cs → stageFits cs ∧ bs = stageBytes cs) ∧
  (∀ t : Time, timeOfBytes (timeBytes t) = t) ∧
  (∀ e : Entry, e.bytes.length = 20) ∧
  (let one : Nat → Byte := BitVec.ofNat 8
   let two : Nat → List Byte := fun n => [one (n / 256), one n]
   let four : Option Time → List Byte := fun
     | some t => [t.extractLsb' 24 8, t.extractLsb' 16 8, t.extractLsb' 8 8, t.extractLsb' 0 8]
     | none => [0, 0, 0, 0]
   let outcome : FrameOutcome → Nat × Nat := fun
     | .sent => (0, 0)
     | .sentLate n => (1, n)
     | .truncated => (2, 0)
     | .aborted .echo => (3, 0)
     | .aborted .blocked => (3, 1)
     | .expired .window => (4, 0)
     | .expired .wouldOverlap => (4, 1)
     | .cancelled => (5, 0)
     | .purged => (6, 0)
     | .rescheduled => (7, 0)
     | .chainBroken => (8, 0)
   let lease : LeaseClass → Byte := fun
     | .l0 => 0
     | .l1 => 1
     | .l2 => 2
     | .l3 => 3
   let session : SessionState → Byte := fun
     | .closed => 0
     | .opened => 1
     | .closing => 2
     | .lapsed => 3
   let form : CloseForm → Byte := fun
     | .drain => 0
     | .purge => 1
   (∀ code tag r data, data.bytes.length ≤ 17 ∧ (Entry.reply code tag r data).bytes =
     [one r.value, code, tag] ++ data.bytes ++ List.replicate (17 - data.bytes.length) 0) ∧
   (∀ tag o times sent mismatches, (Entry.frameDone tag o times sent mismatches).bytes =
     [one (0x40 + (outcome o).1), tag, if times = none then 0x00 else 0x80] ++ two (outcome o).2 ++
       four (times.map (·.1)) ++ four (times.map (·.2)) ++ [one sent] ++ two mismatches ++ [0, 0, 0, 0]) ∧
   (∀ (c : LeaseClass) (st : SessionState) (n : Nat) (on : Option Byte) (released : Bool),
     (Entry.sessionLapsed c st n on released).bytes =
       [0x80, lease c, session st, one n, (if on = none then 0x00 else 0x80) + (if released then 0x40 else 0x00),
         on.getD 0] ++ List.replicate 14 0) ∧
   ∀ f : CloseForm, (Entry.sessionClosed f).bytes = [0xC0, form f] ++ List.replicate 18 0) ∧
  ([ResultCode.ok, .loadReady, .admitted, .cancelled, .truncated, .tooLateToCancel, .none].map ResultCode.value =
    List.range 7) ∧
  ([ResultCode.noSession, .closing, .badField, .unknownCommand, .tagInUse, .portLimit, .noDescriptor, .noSegments,
    .noRoom, .notFound, .wrongState, .outOfOrder, .incomplete, .tooLate, .tooFar, .conflict, .noPredecessor,
    .chainTaken, .notHolder, .claimed, .notDisabled, .notEmpty, .senseActive].map ResultCode.value =
    (List.range 23).map (0x10 + ·)) ∧
  (let timesX : Byte → Byte := fun a => if a.msb then (a <<< 1) ^^^ 0x07 else a <<< 1
   crc8 [] = 0 ∧ (∀ bs b, crc8 (bs ++ [b]) = Nat.repeat timesX 8 (crc8 bs ^^^ b)) ∧
     ∀ bs, crc8 (bs ++ [crc8 bs]) = 0)
end

