-- ==== Sys2Proof/Laws/State.lean ====
section
/-! SUPPORT. One lemma per field of the state for each update that is one record update: the fields it leaves alone. -/

namespace Sys2Proof.Machine

/-! ### setDesc -/

@[simp] theorem State.setDesc_inReset (s : State) (d : DescIdx) (x : Desc) : (s.setDesc d x).inReset = s.inReset := rfl
@[simp] theorem State.setDesc_lsense (s : State) (d : DescIdx) (x : Desc) : (s.setDesc d x).lsense = s.lsense := rfl
@[simp] theorem State.setDesc_clock (s : State) (d : DescIdx) (x : Desc) : (s.setDesc d x).clock = s.clock := rfl
@[simp] theorem State.setDesc_sched (s : State) (d : DescIdx) (x : Desc) : (s.setDesc d x).sched = s.sched := rfl
@[simp] theorem State.setDesc_disp (s : State) (d : DescIdx) (x : Desc) : (s.setDesc d x).disp = s.disp := rfl
@[simp] theorem State.setDesc_enc (s : State) (d : DescIdx) (x : Desc) : (s.setDesc d x).enc = s.enc := rfl
@[simp] theorem State.setDesc_echo (s : State) (d : DescIdx) (x : Desc) : (s.setDesc d x).echo = s.echo := rfl
@[simp] theorem State.setDesc_prof (s : State) (d : DescIdx) (x : Desc) : (s.setDesc d x).prof = s.prof := rfl
@[simp] theorem State.setDesc_ports (s : State) (d : DescIdx) (x : Desc) : (s.setDesc d x).ports = s.ports := rfl
@[simp] theorem State.setDesc_pending (s : State) (d : DescIdx) (x : Desc) : (s.setDesc d x).pending = s.pending := rfl
@[simp] theorem State.setDesc_port (s : State) (d : DescIdx) (x : Desc) (q : Port) :
    (s.setDesc d x).port q = s.port q := rfl

/-! ### modDesc -/

@[simp] theorem State.modDesc_inReset (s : State) (d : DescIdx) (f : Desc → Desc) :
    (s.modDesc d f).inReset = s.inReset := rfl
@[simp] theorem State.modDesc_lsense (s : State) (d : DescIdx) (f : Desc → Desc) :
    (s.modDesc d f).lsense = s.lsense := rfl
@[simp] theorem State.modDesc_clock (s : State) (d : DescIdx) (f : Desc → Desc) : (s.modDesc d f).clock = s.clock := rfl
@[simp] theorem State.modDesc_sched (s : State) (d : DescIdx) (f : Desc → Desc) : (s.modDesc d f).sched = s.sched := rfl
@[simp] theorem State.modDesc_disp (s : State) (d : DescIdx) (f : Desc → Desc) : (s.modDesc d f).disp = s.disp := rfl
@[simp] theorem State.modDesc_enc (s : State) (d : DescIdx) (f : Desc → Desc) : (s.modDesc d f).enc = s.enc := rfl
@[simp] theorem State.modDesc_echo (s : State) (d : DescIdx) (f : Desc → Desc) : (s.modDesc d f).echo = s.echo := rfl
@[simp] theorem State.modDesc_prof (s : State) (d : DescIdx) (f : Desc → Desc) : (s.modDesc d f).prof = s.prof := rfl
@[simp] theorem State.modDesc_ports (s : State) (d : DescIdx) (f : Desc → Desc) : (s.modDesc d f).ports = s.ports := rfl
@[simp] theorem State.modDesc_pending (s : State) (d : DescIdx) (f : Desc → Desc) :
    (s.modDesc d f).pending = s.pending := rfl
@[simp] theorem State.modDesc_port (s : State) (d : DescIdx) (f : Desc → Desc) (q : Port) :
    (s.modDesc d f).port q = s.port q := rfl

/-! ### unlink -/

@[simp] theorem State.unlink_inReset (s : State) (d : DescIdx) : (s.unlink d).inReset = s.inReset := rfl
@[simp] theorem State.unlink_lsense (s : State) (d : DescIdx) : (s.unlink d).lsense = s.lsense := rfl
@[simp] theorem State.unlink_clock (s : State) (d : DescIdx) : (s.unlink d).clock = s.clock := rfl
@[simp] theorem State.unlink_sched (s : State) (d : DescIdx) : (s.unlink d).sched = s.sched := rfl
@[simp] theorem State.unlink_disp (s : State) (d : DescIdx) : (s.unlink d).disp = s.disp := rfl
@[simp] theorem State.unlink_enc (s : State) (d : DescIdx) : (s.unlink d).enc = s.enc := rfl
@[simp] theorem State.unlink_echo (s : State) (d : DescIdx) : (s.unlink d).echo = s.echo := rfl
@[simp] theorem State.unlink_prof (s : State) (d : DescIdx) : (s.unlink d).prof = s.prof := rfl
@[simp] theorem State.unlink_ports (s : State) (d : DescIdx) : (s.unlink d).ports = s.ports := rfl
@[simp] theorem State.unlink_pending (s : State) (d : DescIdx) : (s.unlink d).pending = s.pending := rfl
@[simp] theorem State.unlink_port (s : State) (d : DescIdx) (q : Port) :
    (s.unlink d).port q = s.port q := rfl

/-! ### modPort -/

@[simp] theorem State.modPort_inReset (s : State) (p : Port) (f : PortState → PortState) :
    (s.modPort p f).inReset = s.inReset := rfl
@[simp] theorem State.modPort_lsense (s : State) (p : Port) (f : PortState → PortState) :
    (s.modPort p f).lsense = s.lsense := rfl
@[simp] theorem State.modPort_clock (s : State) (p : Port) (f : PortState → PortState) :
    (s.modPort p f).clock = s.clock := rfl
@[simp] theorem State.modPort_store (s : State) (p : Port) (f : PortState → PortState) :
    (s.modPort p f).store = s.store := rfl
@[simp] theorem State.modPort_sched (s : State) (p : Port) (f : PortState → PortState) :
    (s.modPort p f).sched = s.sched := rfl
@[simp] theorem State.modPort_disp (s : State) (p : Port) (f : PortState → PortState) :
    (s.modPort p f).disp = s.disp := rfl
@[simp] theorem State.modPort_enc (s : State) (p : Port) (f : PortState → PortState) :
    (s.modPort p f).enc = s.enc := rfl
@[simp] theorem State.modPort_echo (s : State) (p : Port) (f : PortState → PortState) :
    (s.modPort p f).echo = s.echo := rfl
@[simp] theorem State.modPort_prof (s : State) (p : Port) (f : PortState → PortState) :
    (s.modPort p f).prof = s.prof := rfl
@[simp] theorem State.modPort_pending (s : State) (p : Port) (f : PortState → PortState) :
    (s.modPort p f).pending = s.pending := rfl
@[simp] theorem State.modPort_desc (s : State) (p : Port) (f : PortState → PortState) (i : DescIdx) :
    (s.modPort p f).desc i = s.desc i := rfl

/-! ### modSession -/

@[simp] theorem State.modSession_inReset (s : State) (p : Port) (f : Session → Session) :
    (s.modSession p f).inReset = s.inReset := rfl
@[simp] theorem State.modSession_lsense (s : State) (p : Port) (f : Session → Session) :
    (s.modSession p f).lsense = s.lsense := rfl
@[simp] theorem State.modSession_clock (s : State) (p : Port) (f : Session → Session) :
    (s.modSession p f).clock = s.clock := rfl
@[simp] theorem State.modSession_store (s : State) (p : Port) (f : Session → Session) :
    (s.modSession p f).store = s.store := rfl
@[simp] theorem State.modSession_sched (s : State) (p : Port) (f : Session → Session) :
    (s.modSession p f).sched = s.sched := rfl
@[simp] theorem State.modSession_disp (s : State) (p : Port) (f : Session → Session) :
    (s.modSession p f).disp = s.disp := rfl
@[simp] theorem State.modSession_enc (s : State) (p : Port) (f : Session → Session) :
    (s.modSession p f).enc = s.enc := rfl
@[simp] theorem State.modSession_echo (s : State) (p : Port) (f : Session → Session) :
    (s.modSession p f).echo = s.echo := rfl
@[simp] theorem State.modSession_prof (s : State) (p : Port) (f : Session → Session) :
    (s.modSession p f).prof = s.prof := rfl
@[simp] theorem State.modSession_pending (s : State) (p : Port) (f : Session → Session) :
    (s.modSession p f).pending = s.pending := rfl
@[simp] theorem State.modSession_desc (s : State) (p : Port) (f : Session → Session) (i : DescIdx) :
    (s.modSession p f).desc i = s.desc i := rfl

/-! ### modQueue -/

@[simp] theorem State.modQueue_inReset (s : State) (p : Port) (f : EventQueue → EventQueue) :
    (s.modQueue p f).inReset = s.inReset := rfl
@[simp] theorem State.modQueue_lsense (s : State) (p : Port) (f : EventQueue → EventQueue) :
    (s.modQueue p f).lsense = s.lsense := rfl
@[simp] theorem State.modQueue_clock (s : State) (p : Port) (f : EventQueue → EventQueue) :
    (s.modQueue p f).clock = s.clock := rfl
@[simp] theorem State.modQueue_store (s : State) (p : Port) (f : EventQueue → EventQueue) :
    (s.modQueue p f).store = s.store := rfl
@[simp] theorem State.modQueue_sched (s : State) (p : Port) (f : EventQueue → EventQueue) :
    (s.modQueue p f).sched = s.sched := rfl
@[simp] theorem State.modQueue_disp (s : State) (p : Port) (f : EventQueue → EventQueue) :
    (s.modQueue p f).disp = s.disp := rfl
@[simp] theorem State.modQueue_enc (s : State) (p : Port) (f : EventQueue → EventQueue) :
    (s.modQueue p f).enc = s.enc := rfl
@[simp] theorem State.modQueue_echo (s : State) (p : Port) (f : EventQueue → EventQueue) :
    (s.modQueue p f).echo = s.echo := rfl
@[simp] theorem State.modQueue_prof (s : State) (p : Port) (f : EventQueue → EventQueue) :
    (s.modQueue p f).prof = s.prof := rfl
@[simp] theorem State.modQueue_pending (s : State) (p : Port) (f : EventQueue → EventQueue) :
    (s.modQueue p f).pending = s.pending := rfl
@[simp] theorem State.modQueue_desc (s : State) (p : Port) (f : EventQueue → EventQueue) (i : DescIdx) :
    (s.modQueue p f).desc i = s.desc i := rfl

/-! ### modLink -/

@[simp] theorem State.modLink_inReset (s : State) (p : Port) (f : Link → Link) :
    (s.modLink p f).inReset = s.inReset := rfl
@[simp] theorem State.modLink_lsense (s : State) (p : Port) (f : Link → Link) : (s.modLink p f).lsense = s.lsense := rfl
@[simp] theorem State.modLink_clock (s : State) (p : Port) (f : Link → Link) : (s.modLink p f).clock = s.clock := rfl
@[simp] theorem State.modLink_store (s : State) (p : Port) (f : Link → Link) : (s.modLink p f).store = s.store := rfl
@[simp] theorem State.modLink_sched (s : State) (p : Port) (f : Link → Link) : (s.modLink p f).sched = s.sched := rfl
@[simp] theorem State.modLink_disp (s : State) (p : Port) (f : Link → Link) : (s.modLink p f).disp = s.disp := rfl
@[simp] theorem State.modLink_enc (s : State) (p : Port) (f : Link → Link) : (s.modLink p f).enc = s.enc := rfl
@[simp] theorem State.modLink_echo (s : State) (p : Port) (f : Link → Link) : (s.modLink p f).echo = s.echo := rfl
@[simp] theorem State.modLink_prof (s : State) (p : Port) (f : Link → Link) : (s.modLink p f).prof = s.prof := rfl
@[simp] theorem State.modLink_pending (s : State) (p : Port) (f : Link → Link) :
    (s.modLink p f).pending = s.pending := rfl
@[simp] theorem State.modLink_desc (s : State) (p : Port) (f : Link → Link) (i : DescIdx) :
    (s.modLink p f).desc i = s.desc i := rfl

/-! ### place -/

@[simp] theorem State.place_inReset (s : State) (p : Port) (e : Entry) : (s.place p e).inReset = s.inReset := rfl
@[simp] theorem State.place_lsense (s : State) (p : Port) (e : Entry) : (s.place p e).lsense = s.lsense := rfl
@[simp] theorem State.place_clock (s : State) (p : Port) (e : Entry) : (s.place p e).clock = s.clock := rfl
@[simp] theorem State.place_store (s : State) (p : Port) (e : Entry) : (s.place p e).store = s.store := rfl
@[simp] theorem State.place_sched (s : State) (p : Port) (e : Entry) : (s.place p e).sched = s.sched := rfl
@[simp] theorem State.place_disp (s : State) (p : Port) (e : Entry) : (s.place p e).disp = s.disp := rfl
@[simp] theorem State.place_enc (s : State) (p : Port) (e : Entry) : (s.place p e).enc = s.enc := rfl
@[simp] theorem State.place_echo (s : State) (p : Port) (e : Entry) : (s.place p e).echo = s.echo := rfl
@[simp] theorem State.place_prof (s : State) (p : Port) (e : Entry) : (s.place p e).prof = s.prof := rfl
@[simp] theorem State.place_pending (s : State) (p : Port) (e : Entry) : (s.place p e).pending = s.pending := rfl
@[simp] theorem State.place_desc (s : State) (p : Port) (e : Entry) (i : DescIdx) :
    (s.place p e).desc i = s.desc i := rfl

/-! ### reply -/

@[simp] theorem State.reply_inReset (s : State) (p : Port) (code tag : Byte) (r : ResultCode) (data : ReplyData) :
    (s.reply p code tag r data).inReset = s.inReset := rfl
@[simp] theorem State.reply_lsense (s : State) (p : Port) (code tag : Byte) (r : ResultCode) (data : ReplyData) :
    (s.reply p code tag r data).lsense = s.lsense := rfl
@[simp] theorem State.reply_clock (s : State) (p : Port) (code tag : Byte) (r : ResultCode) (data : ReplyData) :
    (s.reply p code tag r data).clock = s.clock := rfl
@[simp] theorem State.reply_store (s : State) (p : Port) (code tag : Byte) (r : ResultCode) (data : ReplyData) :
    (s.reply p code tag r data).store = s.store := rfl
@[simp] theorem State.reply_sched (s : State) (p : Port) (code tag : Byte) (r : ResultCode) (data : ReplyData) :
    (s.reply p code tag r data).sched = s.sched := rfl
@[simp] theorem State.reply_disp (s : State) (p : Port) (code tag : Byte) (r : ResultCode) (data : ReplyData) :
    (s.reply p code tag r data).disp = s.disp := rfl
@[simp] theorem State.reply_enc (s : State) (p : Port) (code tag : Byte) (r : ResultCode) (data : ReplyData) :
    (s.reply p code tag r data).enc = s.enc := rfl
@[simp] theorem State.reply_echo (s : State) (p : Port) (code tag : Byte) (r : ResultCode) (data : ReplyData) :
    (s.reply p code tag r data).echo = s.echo := rfl
@[simp] theorem State.reply_prof (s : State) (p : Port) (code tag : Byte) (r : ResultCode) (data : ReplyData) :
    (s.reply p code tag r data).prof = s.prof := rfl
@[simp] theorem State.reply_pending (s : State) (p : Port) (code tag : Byte) (r : ResultCode) (data : ReplyData) :
    (s.reply p code tag r data).pending = s.pending := rfl
@[simp] theorem State.reply_desc (s : State) (p : Port) (code tag : Byte) (r : ResultCode) (data : ReplyData) (i : DescIdx) :
    (s.reply p code tag r data).desc i = s.desc i := rfl

/-! ### pulse -/

@[simp] theorem State.pulse_inReset (s : State) (p : Port) : (s.pulse p).inReset = s.inReset := rfl
@[simp] theorem State.pulse_lsense (s : State) (p : Port) : (s.pulse p).lsense = s.lsense := rfl
@[simp] theorem State.pulse_clock (s : State) (p : Port) : (s.pulse p).clock = s.clock := rfl
@[simp] theorem State.pulse_store (s : State) (p : Port) : (s.pulse p).store = s.store := rfl
@[simp] theorem State.pulse_sched (s : State) (p : Port) : (s.pulse p).sched = s.sched := rfl
@[simp] theorem State.pulse_disp (s : State) (p : Port) : (s.pulse p).disp = s.disp := rfl
@[simp] theorem State.pulse_enc (s : State) (p : Port) : (s.pulse p).enc = s.enc := rfl
@[simp] theorem State.pulse_echo (s : State) (p : Port) : (s.pulse p).echo = s.echo := rfl
@[simp] theorem State.pulse_prof (s : State) (p : Port) : (s.pulse p).prof = s.prof := rfl
@[simp] theorem State.pulse_pending (s : State) (p : Port) : (s.pulse p).pending = s.pending := rfl
@[simp] theorem State.pulse_desc (s : State) (p : Port) (i : DescIdx) :
    (s.pulse p).desc i = s.desc i := rfl

/-! ### startLease -/

@[simp] theorem State.startLease_inReset (s : State) (p : Port) (c : LeaseClass) :
    (s.startLease p c).inReset = s.inReset := rfl
@[simp] theorem State.startLease_lsense (s : State) (p : Port) (c : LeaseClass) :
    (s.startLease p c).lsense = s.lsense := rfl
@[simp] theorem State.startLease_clock (s : State) (p : Port) (c : LeaseClass) :
    (s.startLease p c).clock = s.clock := rfl
@[simp] theorem State.startLease_store (s : State) (p : Port) (c : LeaseClass) :
    (s.startLease p c).store = s.store := rfl
@[simp] theorem State.startLease_sched (s : State) (p : Port) (c : LeaseClass) :
    (s.startLease p c).sched = s.sched := rfl
@[simp] theorem State.startLease_disp (s : State) (p : Port) (c : LeaseClass) : (s.startLease p c).disp = s.disp := rfl
@[simp] theorem State.startLease_enc (s : State) (p : Port) (c : LeaseClass) : (s.startLease p c).enc = s.enc := rfl
@[simp] theorem State.startLease_echo (s : State) (p : Port) (c : LeaseClass) : (s.startLease p c).echo = s.echo := rfl
@[simp] theorem State.startLease_prof (s : State) (p : Port) (c : LeaseClass) : (s.startLease p c).prof = s.prof := rfl
@[simp] theorem State.startLease_pending (s : State) (p : Port) (c : LeaseClass) :
    (s.startLease p c).pending = s.pending := rfl
@[simp] theorem State.startLease_desc (s : State) (p : Port) (c : LeaseClass) (i : DescIdx) :
    (s.startLease p c).desc i = s.desc i := rfl

/-! ### keepScheduled -/

@[simp] theorem State.keepScheduled_inReset (s : State) (keep : DescIdx → Bool) :
    (s.keepScheduled keep).inReset = s.inReset := rfl
@[simp] theorem State.keepScheduled_lsense (s : State) (keep : DescIdx → Bool) :
    (s.keepScheduled keep).lsense = s.lsense := rfl
@[simp] theorem State.keepScheduled_clock (s : State) (keep : DescIdx → Bool) :
    (s.keepScheduled keep).clock = s.clock := rfl
@[simp] theorem State.keepScheduled_store (s : State) (keep : DescIdx → Bool) :
    (s.keepScheduled keep).store = s.store := rfl
@[simp] theorem State.keepScheduled_disp (s : State) (keep : DescIdx → Bool) :
    (s.keepScheduled keep).disp = s.disp := rfl
@[simp] theorem State.keepScheduled_enc (s : State) (keep : DescIdx → Bool) : (s.keepScheduled keep).enc = s.enc := rfl
@[simp] theorem State.keepScheduled_echo (s : State) (keep : DescIdx → Bool) :
    (s.keepScheduled keep).echo = s.echo := rfl
@[simp] theorem State.keepScheduled_prof (s : State) (keep : DescIdx → Bool) :
    (s.keepScheduled keep).prof = s.prof := rfl
@[simp] theorem State.keepScheduled_ports (s : State) (keep : DescIdx → Bool) :
    (s.keepScheduled keep).ports = s.ports := rfl
@[simp] theorem State.keepScheduled_pending (s : State) (keep : DescIdx → Bool) :
    (s.keepScheduled keep).pending = s.pending := rfl
@[simp] theorem State.keepScheduled_desc (s : State) (keep : DescIdx → Bool) (i : DescIdx) :
    (s.keepScheduled keep).desc i = s.desc i := rfl
@[simp] theorem State.keepScheduled_port (s : State) (keep : DescIdx → Bool) (q : Port) :
    (s.keepScheduled keep).port q = s.port q := rfl

/-! ### takeNumber -/

@[simp] theorem State.takeNumber_inReset (s : State) : s.takeNumber.inReset = s.inReset := rfl
@[simp] theorem State.takeNumber_lsense (s : State) : s.takeNumber.lsense = s.lsense := rfl
@[simp] theorem State.takeNumber_clock (s : State) : s.takeNumber.clock = s.clock := rfl
@[simp] theorem State.takeNumber_store (s : State) : s.takeNumber.store = s.store := rfl
@[simp] theorem State.takeNumber_disp (s : State) : s.takeNumber.disp = s.disp := rfl
@[simp] theorem State.takeNumber_enc (s : State) : s.takeNumber.enc = s.enc := rfl
@[simp] theorem State.takeNumber_echo (s : State) : s.takeNumber.echo = s.echo := rfl
@[simp] theorem State.takeNumber_prof (s : State) : s.takeNumber.prof = s.prof := rfl
@[simp] theorem State.takeNumber_ports (s : State) : s.takeNumber.ports = s.ports := rfl
@[simp] theorem State.takeNumber_pending (s : State) : s.takeNumber.pending = s.pending := rfl
@[simp] theorem State.takeNumber_desc (s : State) (i : DescIdx) :
    s.takeNumber.desc i = s.desc i := rfl
@[simp] theorem State.takeNumber_port (s : State) (q : Port) :
    s.takeNumber.port q = s.port q := rfl

/-! ### release -/

@[simp] theorem State.release_inReset (s : State) (c : DescIdx) (stop : Time) :
    (s.release c stop).inReset = s.inReset := rfl
@[simp] theorem State.release_lsense (s : State) (c : DescIdx) (stop : Time) :
    (s.release c stop).lsense = s.lsense := rfl
@[simp] theorem State.release_clock (s : State) (c : DescIdx) (stop : Time) : (s.release c stop).clock = s.clock := rfl
@[simp] theorem State.release_disp (s : State) (c : DescIdx) (stop : Time) : (s.release c stop).disp = s.disp := rfl
@[simp] theorem State.release_enc (s : State) (c : DescIdx) (stop : Time) : (s.release c stop).enc = s.enc := rfl
@[simp] theorem State.release_echo (s : State) (c : DescIdx) (stop : Time) : (s.release c stop).echo = s.echo := rfl
@[simp] theorem State.release_prof (s : State) (c : DescIdx) (stop : Time) : (s.release c stop).prof = s.prof := rfl
@[simp] theorem State.release_ports (s : State) (c : DescIdx) (stop : Time) : (s.release c stop).ports = s.ports := rfl
@[simp] theorem State.release_pending (s : State) (c : DescIdx) (stop : Time) :
    (s.release c stop).pending = s.pending := rfl
@[simp] theorem State.release_port (s : State) (c : DescIdx) (stop : Time) (q : Port) :
    (s.release c stop).port q = s.port q := rfl

/-! ### cycle -/

@[simp] theorem State.cycle_inReset (s : State) : s.cycle.inReset = s.inReset := rfl
@[simp] theorem State.cycle_lsense (s : State) : s.cycle.lsense = s.lsense := rfl
@[simp] theorem State.cycle_store (s : State) : s.cycle.store = s.store := rfl
@[simp] theorem State.cycle_sched (s : State) : s.cycle.sched = s.sched := rfl
@[simp] theorem State.cycle_disp (s : State) : s.cycle.disp = s.disp := rfl
@[simp] theorem State.cycle_prof (s : State) : s.cycle.prof = s.prof := rfl
@[simp] theorem State.cycle_ports (s : State) : s.cycle.ports = s.ports := rfl
@[simp] theorem State.cycle_pending (s : State) : s.cycle.pending = s.pending := rfl
@[simp] theorem State.cycle_desc (s : State) (i : DescIdx) :
    s.cycle.desc i = s.desc i := rfl
@[simp] theorem State.cycle_port (s : State) (q : Port) :
    s.cycle.port q = s.port q := rfl

/-! ### boundary -/

@[simp] theorem State.boundary_inReset (s : State) : s.boundary.inReset = s.inReset := rfl
@[simp] theorem State.boundary_lsense (s : State) : s.boundary.lsense = s.lsense := rfl
@[simp] theorem State.boundary_store (s : State) : s.boundary.store = s.store := rfl
@[simp] theorem State.boundary_sched (s : State) : s.boundary.sched = s.sched := rfl
@[simp] theorem State.boundary_disp (s : State) : s.boundary.disp = s.disp := rfl
@[simp] theorem State.boundary_prof (s : State) : s.boundary.prof = s.prof := rfl
@[simp] theorem State.boundary_pending (s : State) : s.boundary.pending = s.pending := rfl
@[simp] theorem State.boundary_desc (s : State) (i : DescIdx) :
    s.boundary.desc i = s.desc i := rfl

/-! ### beginRepetition -/

@[simp] theorem State.beginRepetition_inReset (s : State) : s.beginRepetition.inReset = s.inReset := rfl
@[simp] theorem State.beginRepetition_lsense (s : State) : s.beginRepetition.lsense = s.lsense := rfl
@[simp] theorem State.beginRepetition_clock (s : State) : s.beginRepetition.clock = s.clock := rfl
@[simp] theorem State.beginRepetition_store (s : State) : s.beginRepetition.store = s.store := rfl
@[simp] theorem State.beginRepetition_sched (s : State) : s.beginRepetition.sched = s.sched := rfl
@[simp] theorem State.beginRepetition_disp (s : State) : s.beginRepetition.disp = s.disp := rfl
@[simp] theorem State.beginRepetition_prof (s : State) : s.beginRepetition.prof = s.prof := rfl
@[simp] theorem State.beginRepetition_ports (s : State) : s.beginRepetition.ports = s.ports := rfl
@[simp] theorem State.beginRepetition_pending (s : State) : s.beginRepetition.pending = s.pending := rfl
@[simp] theorem State.beginRepetition_desc (s : State) (i : DescIdx) :
    s.beginRepetition.desc i = s.desc i := rfl
@[simp] theorem State.beginRepetition_port (s : State) (q : Port) :
    s.beginRepetition.port q = s.port q := rfl

/-! ### restEncoder -/

@[simp] theorem State.restEncoder_inReset (s : State) : s.restEncoder.inReset = s.inReset := rfl
@[simp] theorem State.restEncoder_lsense (s : State) : s.restEncoder.lsense = s.lsense := rfl
@[simp] theorem State.restEncoder_clock (s : State) : s.restEncoder.clock = s.clock := rfl
@[simp] theorem State.restEncoder_store (s : State) : s.restEncoder.store = s.store := rfl
@[simp] theorem State.restEncoder_sched (s : State) : s.restEncoder.sched = s.sched := rfl
@[simp] theorem State.restEncoder_disp (s : State) : s.restEncoder.disp = s.disp := rfl
@[simp] theorem State.restEncoder_echo (s : State) : s.restEncoder.echo = s.echo := rfl
@[simp] theorem State.restEncoder_prof (s : State) : s.restEncoder.prof = s.prof := rfl
@[simp] theorem State.restEncoder_ports (s : State) : s.restEncoder.ports = s.ports := rfl
@[simp] theorem State.restEncoder_pending (s : State) : s.restEncoder.pending = s.pending := rfl
@[simp] theorem State.restEncoder_desc (s : State) (i : DescIdx) :
    s.restEncoder.desc i = s.desc i := rfl
@[simp] theorem State.restEncoder_port (s : State) (q : Port) :
    s.restEncoder.port q = s.port q := rfl

/-! ### restartHold -/

@[simp] theorem State.restartHold_inReset (s : State) : s.restartHold.inReset = s.inReset := rfl
@[simp] theorem State.restartHold_lsense (s : State) : s.restartHold.lsense = s.lsense := rfl
@[simp] theorem State.restartHold_clock (s : State) : s.restartHold.clock = s.clock := rfl
@[simp] theorem State.restartHold_store (s : State) : s.restartHold.store = s.store := rfl
@[simp] theorem State.restartHold_sched (s : State) : s.restartHold.sched = s.sched := rfl
@[simp] theorem State.restartHold_disp (s : State) : s.restartHold.disp = s.disp := rfl
@[simp] theorem State.restartHold_enc (s : State) : s.restartHold.enc = s.enc := rfl
@[simp] theorem State.restartHold_prof (s : State) : s.restartHold.prof = s.prof := rfl
@[simp] theorem State.restartHold_ports (s : State) : s.restartHold.ports = s.ports := rfl
@[simp] theorem State.restartHold_pending (s : State) : s.restartHold.pending = s.pending := rfl
@[simp] theorem State.restartHold_desc (s : State) (i : DescIdx) :
    s.restartHold.desc i = s.desc i := rfl
@[simp] theorem State.restartHold_port (s : State) (q : Port) :
    s.restartHold.port q = s.port q := rfl

/-! ### activate -/

@[simp] theorem State.activate_inReset (s : State) : s.activate.inReset = s.inReset := rfl
@[simp] theorem State.activate_lsense (s : State) : s.activate.lsense = s.lsense := rfl
@[simp] theorem State.activate_clock (s : State) : s.activate.clock = s.clock := rfl
@[simp] theorem State.activate_store (s : State) : s.activate.store = s.store := rfl
@[simp] theorem State.activate_sched (s : State) : s.activate.sched = s.sched := rfl
@[simp] theorem State.activate_disp (s : State) : s.activate.disp = s.disp := rfl
@[simp] theorem State.activate_enc (s : State) : s.activate.enc = s.enc := rfl
@[simp] theorem State.activate_ports (s : State) : s.activate.ports = s.ports := rfl
@[simp] theorem State.activate_pending (s : State) : s.activate.pending = s.pending := rfl
@[simp] theorem State.activate_desc (s : State) (i : DescIdx) :
    s.activate.desc i = s.desc i := rfl
@[simp] theorem State.activate_port (s : State) (q : Port) :
    s.activate.port q = s.port q := rfl

/-! ### grant -/

@[simp] theorem State.grant_inReset (s : State) (p : Port) : (s.grant p).inReset = s.inReset := rfl
@[simp] theorem State.grant_lsense (s : State) (p : Port) : (s.grant p).lsense = s.lsense := rfl
@[simp] theorem State.grant_clock (s : State) (p : Port) : (s.grant p).clock = s.clock := rfl
@[simp] theorem State.grant_store (s : State) (p : Port) : (s.grant p).store = s.store := rfl
@[simp] theorem State.grant_sched (s : State) (p : Port) : (s.grant p).sched = s.sched := rfl
@[simp] theorem State.grant_disp (s : State) (p : Port) : (s.grant p).disp = s.disp := rfl
@[simp] theorem State.grant_enc (s : State) (p : Port) : (s.grant p).enc = s.enc := rfl
@[simp] theorem State.grant_echo (s : State) (p : Port) : (s.grant p).echo = s.echo := rfl
@[simp] theorem State.grant_ports (s : State) (p : Port) : (s.grant p).ports = s.ports := rfl
@[simp] theorem State.grant_pending (s : State) (p : Port) : (s.grant p).pending = s.pending := rfl
@[simp] theorem State.grant_desc (s : State) (p : Port) (i : DescIdx) :
    (s.grant p).desc i = s.desc i := rfl
@[simp] theorem State.grant_port (s : State) (p : Port) (q : Port) :
    (s.grant p).port q = s.port q := rfl

/-! ### Fields that an update does change -/

@[simp] theorem State.setDesc_pool (s : State) (d : DescIdx) (x : Desc) : (s.setDesc d x).store.pool = s.store.pool := rfl
@[simp] theorem State.modDesc_pool (s : State) (d : DescIdx) (f : Desc → Desc) :
    (s.modDesc d f).store.pool = s.store.pool := rfl
@[simp] theorem State.unlink_pool (s : State) (d : DescIdx) : (s.unlink d).store.pool = s.store.pool := rfl
@[simp] theorem State.release_pool (s : State) (c : DescIdx) (stop : Time) :
    (s.release c stop).store.pool = s.store.pool := rfl
@[simp] theorem State.release_timed (s : State) (c : DescIdx) (stop : Time) :
    (s.release c stop).sched.timed = s.sched.timed := rfl
@[simp] theorem State.release_counter (s : State) (c : DescIdx) (stop : Time) :
    (s.release c stop).sched.counter = s.sched.counter + 1 := rfl
@[simp] theorem State.keepScheduled_timed (s : State) (keep : DescIdx → Bool) :
    (s.keepScheduled keep).sched.timed = s.sched.timed.filter keep := rfl
@[simp] theorem State.keepScheduled_asap (s : State) (keep : DescIdx → Bool) :
    (s.keepScheduled keep).sched.asap = s.sched.asap.remove keep := rfl
@[simp] theorem State.keepScheduled_counter (s : State) (keep : DescIdx → Bool) :
    (s.keepScheduled keep).sched.counter = s.sched.counter := rfl
@[simp] theorem State.takeNumber_timed (s : State) : s.takeNumber.sched.timed = s.sched.timed := rfl
@[simp] theorem State.takeNumber_asap (s : State) : s.takeNumber.sched.asap = s.sched.asap := rfl
@[simp] theorem State.takeNumber_counter (s : State) : s.takeNumber.sched.counter = s.sched.counter + 1 := rfl
@[simp] theorem State.cycle_divisor (s : State) : s.cycle.clock.divisor = s.clock.divisor := rfl
@[simp] theorem State.cycle_time (s : State) : s.cycle.clock.time = s.clock.time := rfl
@[simp] theorem State.cycle_prescale (s : State) : s.cycle.clock.prescale = s.clock.prescale + 1 := rfl
@[simp] theorem State.cycle_quietRun (s : State) : s.cycle.echo.quietRun = s.echo.quietRun := rfl
@[simp] theorem State.cycle_counted (s : State) : s.cycle.echo.counted = s.echo.counted := rfl
@[simp] theorem State.cycle_abortPending (s : State) : s.cycle.echo.abortPending = s.echo.abortPending := rfl
@[simp] theorem State.cycle_streak (s : State) : s.cycle.echo.streak = s.echo.streak := rfl
@[simp] theorem State.cycle_holdEnd (s : State) : s.cycle.echo.holdEnd = s.echo.holdEnd := rfl
@[simp] theorem State.boundary_divisor (s : State) : s.boundary.clock.divisor = s.clock.divisor := rfl
@[simp] theorem State.boundary_time (s : State) : s.boundary.clock.time = s.clock.time + 1 := rfl
@[simp] theorem State.boundary_prescale (s : State) : s.boundary.clock.prescale = 0 := rfl
@[simp] theorem State.restEncoder_activity (s : State) : s.restEncoder.enc.activity = .resting := rfl
@[simp] theorem State.beginRepetition_activity (s : State) : s.beginRepetition.enc.activity = .sending := rfl
@[simp] theorem State.activate_active (s : State) : s.activate.prof.active = s.stagedProfile := rfl
@[simp] theorem State.grant_holder (s : State) (p : Port) : (s.grant p).prof.holder = some p := rfl
@[simp] theorem State.grant_active (s : State) (p : Port) : (s.grant p).prof.active = s.prof.active := rfl

end Sys2Proof.Machine
end

