-- ==== Sys2Proof/Laws/Ports.lean ====
section
/-! SUPPORT. What the operations over ports do to a port record, and that they reach no other port. -/

namespace Sys2Proof.Machine

@[simp] theorem Ports.get_modify (ps : Ports) (p q : Port) (f : PortState → PortState) :
    (ps.modify p f).get q = if q = p then f (ps.get p) else ps.get q := by
  cases p <;> cases q <;> rfl

@[simp] theorem Ports.get_map (ps : Ports) (f : PortState → PortState) (q : Port) : (ps.map f).get q = f (ps.get q) := by
  cases q <;> rfl

/-- Two sets of port records that agree at every port are equal. -/
theorem Ports.ext_get {a b : Ports} (h : ∀ q, a.get q = b.get q) : a = b := by
  obtain ⟨a0, a1, a2, a3⟩ := a
  obtain ⟨b0, b1, b2, b3⟩ := b
  have h0 := h .hp0
  have h1 := h .hp1
  have h2 := h .hp2
  have h3 := h .hp3
  simp only [Ports.get] at h0 h1 h2 h3
  subst h0 h1 h2 h3
  rfl

/-- A change of port p reaches port p only. -/
@[simp] theorem State.port_modPort (s : State) (p q : Port) (f : PortState → PortState) :
    (s.modPort p f).port q = if q = p then f (s.port p) else s.port q :=
  Ports.get_modify s.ports p q f

@[simp] theorem State.port_modSession (s : State) (p q : Port) (f : Session → Session) :
    (s.modSession p f).port q = if q = p then { s.port p with session := f (s.port p).session } else s.port q :=
  Ports.get_modify s.ports p q _

@[simp] theorem State.port_modQueue (s : State) (p q : Port) (f : EventQueue → EventQueue) :
    (s.modQueue p f).port q = if q = p then { s.port p with queue := f (s.port p).queue } else s.port q :=
  Ports.get_modify s.ports p q _

@[simp] theorem State.port_modLink (s : State) (p q : Port) (f : Link → Link) :
    (s.modLink p f).port q = if q = p then { s.port p with link := f (s.port p).link } else s.port q :=
  Ports.get_modify s.ports p q _

/-- R164: an entry placed stands at the tail of its port's queue, and nothing else changes. -/
@[simp] theorem State.port_place (s : State) (p q : Port) (e : Entry) :
    (s.place p e).port q = if q = p then (s.port p).withEntries [e] else s.port q :=
  Ports.get_modify s.ports p q _

/-- R166: a REPLY is one entry. -/
@[simp] theorem State.port_reply (s : State) (p q : Port) (code tag : Byte) (r : ResultCode) (data : ReplyData) :
    (s.reply p code tag r data).port q =
      if q = p then (s.port p).withEntries [.reply code tag r data] else s.port q :=
  Ports.get_modify s.ports p q _

@[simp] theorem State.port_pulse (s : State) (p q : Port) :
    (s.pulse p).port q = if q = p then { s.port p with strobe := .high } else s.port q :=
  Ports.get_modify s.ports p q _

theorem PortState.withEntries_append (q : PortState) (a b : List Entry) :
    (q.withEntries a).withEntries b = q.withEntries (a ++ b) := by
  simp [PortState.withEntries]

@[simp] theorem PortState.withEntries_nil (q : PortState) : q.withEntries [] = q := by
  simp [PortState.withEntries]

@[simp] theorem PortState.withEntries_session (q : PortState) (es : List Entry) :
    (q.withEntries es).session = q.session := rfl
@[simp] theorem PortState.withEntries_capture (q : PortState) (es : List Entry) :
    (q.withEntries es).capture = q.capture := rfl
@[simp] theorem PortState.withEntries_strobe (q : PortState) (es : List Entry) :
    (q.withEntries es).strobe = q.strobe := rfl
@[simp] theorem PortState.withEntries_link (q : PortState) (es : List Entry) : (q.withEntries es).link = q.link := rfl
@[simp] theorem PortState.withEntries_entries (q : PortState) (es : List Entry) :
    (q.withEntries es).queue.entries = q.queue.entries ++ es := rfl

/-- R71: the flagging of a port in Safety's terms. -/
theorem PortState.flagLine_eq : PortState.flagLine = PortState.lineFlagged := by
  funext q
  by_cases h : q.session.state = .opened ∨ q.session.state = .closing <;>
    simp [PortState.flagLine, PortState.lineFlagged, Session.active, h]

/-- R134: the Profile Unit after a release of p's claim. -/
@[simp] theorem State.releaseClaim_prof (s : State) (p : Port) : (s.releaseClaim p).prof = s.profReleased p := by
  by_cases h : s.prof.holder = some p <;> simp [State.releaseClaim, State.profReleased, State.holds, h]

/-- R134: a release changes the Profile Unit only. -/
theorem State.releaseClaim_eq (s : State) (p : Port) : s.releaseClaim p = { s with prof := s.profReleased p } := by
  by_cases h : s.prof.holder = some p <;> simp [State.releaseClaim, State.profReleased, State.holds, h]

/-- R158: completion, in Safety's terms: a CLOSING session with nothing live places SESSION_CLOSED and becomes CLOSED. -/
theorem State.complete_cases (s : State) (p : Port) :
    (¬ ((s.port p).session.state = .closing ∧ s.liveCount p = 0) ∧ s.complete p = s) ∨
    ((s.port p).session.state = .closing ∧ s.liveCount p = 0 ∧
      s.complete p = s.modPort p PortState.completed) := by
  by_cases h : (s.port p).session.state = .closing ∧ s.liveCount p = 0
  · refine .inr ⟨h.1, h.2, ?_⟩
    simp only [State.complete, h, and_self, if_true]
    refine congrArg (fun ps => { s with ports := ps }) (Ports.ext_get fun q => ?_)
    by_cases hq : q = p <;> simp [State.place, State.modQueue, State.modPort, State.port, PortState.completed,
      PortState.withEntries, hq]
  · exact .inl ⟨h, by simp only [State.complete, h, if_false]⟩

/-- R158: completion reaches the port's own record only. -/
theorem State.port_complete_other (s : State) {p q : Port} (h : q ≠ p) : (s.complete p).port q = s.port q := by
  rcases s.complete_cases p with ⟨-, e⟩ | ⟨-, -, e⟩ <;> simp [e, h]

end Sys2Proof.Machine
end

