-- ==== Sys2Proof/Laws/Line.lean ====
section
/-! SUPPORT. What a move of the line, an entry to DISABLED, a fault entry and a start decision can do. -/

namespace Sys2Proof.Machine

/-- R71, R72: what a move of the line does: a condition that stays keeps the cause and the flags; one that changes records
the cause and flags every port whose session is OPEN or CLOSING. -/
theorem State.moveLine_cases (s : State) (l : LineState) (cause : Cause) :
    (l.condition = s.disp.line.condition ∧ s.moveLine l cause = { s with disp := { s.disp with line := l } }) ∨
    (l.condition ≠ s.disp.line.condition ∧ s.moveLine l cause =
      { s with disp := { s.disp with line := l, cause := cause }, ports := s.ports.map PortState.lineFlagged }) := by
  by_cases h : l.condition = s.disp.line.condition
  · exact .inl ⟨h, by simp [State.moveLine, h]⟩
  · exact .inr ⟨h, by simp [State.moveLine, h, PortState.flagLine_eq]⟩

@[simp] theorem State.moveLine_line (s : State) (l : LineState) (cause : Cause) : (s.moveLine l cause).disp.line = l := by
  rcases s.moveLine_cases l cause with ⟨-, e⟩ | ⟨-, e⟩ <;> rw [e]
@[simp] theorem State.moveLine_phase (s : State) (l : LineState) (cause : Cause) :
    (s.moveLine l cause).disp.phase = s.disp.phase := by
  rcases s.moveLine_cases l cause with ⟨-, e⟩ | ⟨-, e⟩ <;> rw [e]
@[simp] theorem State.moveLine_slot (s : State) (l : LineState) (cause : Cause) :
    (s.moveLine l cause).disp.slot = s.disp.slot := by
  rcases s.moveLine_cases l cause with ⟨-, e⟩ | ⟨-, e⟩ <;> rw [e]
@[simp] theorem State.moveLine_store (s : State) (l : LineState) (cause : Cause) :
    (s.moveLine l cause).store = s.store := by
  rcases s.moveLine_cases l cause with ⟨-, e⟩ | ⟨-, e⟩ <;> rw [e]
@[simp] theorem State.moveLine_desc (s : State) (l : LineState) (cause : Cause) (d : DescIdx) :
    (s.moveLine l cause).desc d = s.desc d := by
  rcases s.moveLine_cases l cause with ⟨-, e⟩ | ⟨-, e⟩ <;> rw [e] <;> rfl
@[simp] theorem State.moveLine_sched (s : State) (l : LineState) (cause : Cause) :
    (s.moveLine l cause).sched = s.sched := by
  rcases s.moveLine_cases l cause with ⟨-, e⟩ | ⟨-, e⟩ <;> rw [e]
@[simp] theorem State.moveLine_clock (s : State) (l : LineState) (cause : Cause) :
    (s.moveLine l cause).clock = s.clock := by
  rcases s.moveLine_cases l cause with ⟨-, e⟩ | ⟨-, e⟩ <;> rw [e]
@[simp] theorem State.moveLine_enc (s : State) (l : LineState) (cause : Cause) : (s.moveLine l cause).enc = s.enc := by
  rcases s.moveLine_cases l cause with ⟨-, e⟩ | ⟨-, e⟩ <;> rw [e]
@[simp] theorem State.moveLine_echo (s : State) (l : LineState) (cause : Cause) :
    (s.moveLine l cause).echo = s.echo := by
  rcases s.moveLine_cases l cause with ⟨-, e⟩ | ⟨-, e⟩ <;> rw [e]
@[simp] theorem State.moveLine_prof (s : State) (l : LineState) (cause : Cause) :
    (s.moveLine l cause).prof = s.prof := by
  rcases s.moveLine_cases l cause with ⟨-, e⟩ | ⟨-, e⟩ <;> rw [e]
@[simp] theorem State.moveLine_pending (s : State) (l : LineState) (cause : Cause) :
    (s.moveLine l cause).pending = s.pending := by
  rcases s.moveLine_cases l cause with ⟨-, e⟩ | ⟨-, e⟩ <;> rw [e]

/-- R89: an entry to DISABLED from a state of another condition. -/
theorem State.enterDisabled_eq (s : State) (cause : Cause) (h : s.disp.line ≠ .disabled) :
    s.enterDisabled cause = { s with
      disp := { s.disp with line := .disabled, phase := none, slot := none, cause := cause }
      echo := { s.echo with streak := 0 }
      enc := { s.enc with activity := .resting }
      ports := s.ports.map PortState.lineFlagged } := by
  rcases s.moveLine_cases .disabled cause with ⟨hc, -⟩ | ⟨-, e⟩
  · cases hl : s.disp.line <;> simp_all [LineState.condition]
  · simp [State.enterDisabled, e]

/-- R77: where the line is not IDLE a dispatch decision event changes nothing. -/
theorem State.startDecision_of_not_idle (s : State) (h : s.disp.line ≠ .idle) : s.startDecision = s := by
  simp [State.startDecision, h]

/-- R121: a fault entry goes to FAULT, or to DISABLED from DRAINING or at the streak limit. -/
theorem State.faultEntry_cases (s : State) (cause : Cause) :
    (s.disp.line = .draining ∧ s.faultEntry cause = s.enterDisabled cause) ∨
    (s.disp.line ≠ .draining ∧ 3 ≤ s.echo.streak ∧ s.faultEntry cause = s.enterDisabled .faultLimit) ∨
    (s.disp.line ≠ .draining ∧ s.echo.streak < 3 ∧
      (s.faultEntry cause).disp.line = .fault ∧ (s.faultEntry cause).disp.phase = none ∧
      (s.faultEntry cause).disp.slot = s.disp.slot ∧ (s.faultEntry cause).enc = s.enc ∧
      (s.faultEntry cause).store = s.store ∧ (s.faultEntry cause).sched = s.sched ∧
      (s.faultEntry cause).prof = s.prof ∧ (s.faultEntry cause).clock = s.clock ∧
      (s.faultEntry cause).pending = s.pending ∧
      (s.faultEntry cause).echo =
        { s.echo with streak := s.echo.streak + 1, holdEnd := plus s.now s.prof.active.faultHold }) := by
  by_cases hd : s.disp.line = .draining
  · exact .inl ⟨hd, by simp [State.faultEntry, hd]⟩
  · by_cases hs : s.echo.streak < 3
    · refine .inr (.inr ⟨hd, hs, ?_⟩)
      simp [State.faultEntry, hd, hs, Config.streakLimit, State.now]
    · exact .inr (.inl ⟨hd, by omega, by simp [State.faultEntry, hd, hs, Config.streakLimit]⟩)

end Sys2Proof.Machine
end

