-- ==== Sys2Proof/Laws/Store.lean ====
section
/-! SUPPORT. What the operations over the descriptor table do to one record. -/

namespace Sys2Proof.Machine

/-- A record set is read back, and the others are as they were. -/
@[simp] theorem State.desc_setDesc (s : State) (d e : DescIdx) (x : Desc) :
    (s.setDesc d x).desc e = if e = d then x else s.desc e := by
  simp only [State.desc, State.setDesc, Fin.getElem_fin]
  by_cases h : e = d
  · subst h; simp
  · have : d.val ≠ e.val := fun hv => h (Fin.ext hv.symm)
    rw [Vector.getElem_set_ne _ _ this]
    simp [h]

@[simp] theorem State.desc_modDesc (s : State) (d e : DescIdx) (f : Desc → Desc) :
    (s.modDesc d f).desc e = if e = d then f (s.desc d) else s.desc e :=
  s.desc_setDesc d e _

/-- R34 step 2: a record after the links to d are cleared. -/
@[simp] theorem State.desc_unlink (s : State) (d e : DescIdx) :
    (s.unlink d).desc e =
      if (s.desc e).successor = some d then { s.desc e with successor := none } else s.desc e := by
  simp only [State.desc, State.unlink, Fin.getElem_fin, Vector.getElem_map]
  by_cases h : s.store.descs[e.val].successor = some d <;> simp [h]

/-- R62: a release changes the successor's record only. -/
@[simp] theorem State.desc_release (s : State) (c e : DescIdx) (stop : Time) :
    (s.release c stop).desc e =
      if e = c then (s.desc c).released stop s.now s.sched.counter else s.desc e :=
  s.desc_setDesc c e _

/-- R184 steps 2 and 3: what a LINK_RESET makes of a record. -/
@[simp] theorem State.desc_discardAll (s : State) (p : Port) (e : DescIdx) :
    (s.discardAll p).desc e = (s.desc e).afterReset p := by
  simp [State.desc, State.discardAll, State.keepScheduled]

/-- Two tables whose records are equal are equal. -/
theorem State.descs_ext {s t : State} (h : ∀ d, s.desc d = t.desc d) : s.store.descs = t.store.descs :=
  Vector.ext fun i hi => h ⟨i, hi⟩

@[simp] theorem State.desc_reset (d : DescIdx) : State.reset.desc d = Desc.blank := by
  simp [State.desc, State.reset]

@[simp] theorem Desc.unlinked_nil (x : Desc) : x.unlinked [] = x := by
  unfold Desc.unlinked
  split <;> simp

end Sys2Proof.Machine
end

