-- ==== Sys2Proof/Laws/Frames.lean ====
section
/-! SUPPORT. What the operations of many parts leave alone: retirements, start decisions, and REFCLK cycles. -/

namespace Sys2Proof.Machine

/-- What no retirement and no decision touches: the clock, the pins, the profile, the payload, the waiting commands. -/
structure State.KeepsBase (s t : State) : Prop where
  inReset : t.inReset = s.inReset
  lsense : t.lsense = s.lsense
  clock : t.clock = s.clock
  pool : t.store.pool = s.store.pool
  prof : t.prof = s.prof
  pending : t.pending = s.pending

/-- What a retirement leaves alone besides: the encoder, the Echo Monitor and the dispatcher but for its slot. -/
structure State.KeepsLine (s t : State) : Prop extends State.KeepsBase s t where
  enc : t.enc = s.enc
  echo : t.echo = s.echo
  line : t.disp.line = s.disp.line
  phase : t.disp.phase = s.disp.phase
  plannedEnd : t.disp.plannedEnd = s.disp.plannedEnd
  guardEnd : t.disp.guardEnd = s.disp.guardEnd
  cause : t.disp.cause = s.disp.cause

theorem State.KeepsBase.refl (s : State) : s.KeepsBase s := ⟨rfl, rfl, rfl, rfl, rfl, rfl⟩

theorem State.KeepsBase.trans {s t u : State} (h : s.KeepsBase t) (k : t.KeepsBase u) : s.KeepsBase u :=
  ⟨k.1.trans h.1, k.2.trans h.2, k.3.trans h.3, k.4.trans h.4, k.5.trans h.5, k.6.trans h.6⟩

theorem State.KeepsLine.refl (s : State) : s.KeepsLine s := ⟨.refl s, rfl, rfl, rfl, rfl, rfl, rfl, rfl⟩

theorem State.KeepsLine.trans {s t u : State} (h : s.KeepsLine t) (k : t.KeepsLine u) : s.KeepsLine u :=
  ⟨h.1.trans k.1, k.2.trans h.2, k.3.trans h.3, k.4.trans h.4, k.5.trans h.5, k.6.trans h.6, k.7.trans h.7,
    k.8.trans h.8⟩

theorem State.keepsLine_setDesc (s : State) (d : DescIdx) (x : Desc) : s.KeepsLine (s.setDesc d x) :=
  ⟨⟨rfl, rfl, rfl, rfl, rfl, rfl⟩, rfl, rfl, rfl, rfl, rfl, rfl, rfl⟩

theorem State.keepsLine_modDesc (s : State) (d : DescIdx) (f : Desc → Desc) : s.KeepsLine (s.modDesc d f) :=
  s.keepsLine_setDesc d _

theorem State.keepsLine_unlink (s : State) (d : DescIdx) : s.KeepsLine (s.unlink d) :=
  ⟨⟨rfl, rfl, rfl, rfl, rfl, rfl⟩, rfl, rfl, rfl, rfl, rfl, rfl, rfl⟩

theorem State.keepsLine_modPort (s : State) (p : Port) (f : PortState → PortState) : s.KeepsLine (s.modPort p f) :=
  ⟨⟨rfl, rfl, rfl, rfl, rfl, rfl⟩, rfl, rfl, rfl, rfl, rfl, rfl, rfl⟩

theorem State.keepsLine_place (s : State) (p : Port) (e : Entry) : s.KeepsLine (s.place p e) :=
  s.keepsLine_modPort p _

theorem State.keepsLine_keepScheduled (s : State) (keep : DescIdx → Bool) : s.KeepsLine (s.keepScheduled keep) :=
  ⟨⟨rfl, rfl, rfl, rfl, rfl, rfl⟩, rfl, rfl, rfl, rfl, rfl, rfl, rfl⟩

theorem State.keepsLine_release (s : State) (c : DescIdx) (stop : Time) : s.KeepsLine (s.release c stop) :=
  ⟨⟨rfl, rfl, rfl, rfl, rfl, rfl⟩, rfl, rfl, rfl, rfl, rfl, rfl, rfl⟩

theorem State.keepsLine_leave (s : State) (d : DescIdx) : s.KeepsLine (s.leave d) := by
  simp only [State.leave]
  split
  · exact ⟨⟨rfl, rfl, rfl, rfl, rfl, rfl⟩, rfl, rfl, rfl, rfl, rfl, rfl, rfl⟩
  · exact s.keepsLine_keepScheduled _

theorem State.keepsLine_complete (s : State) (p : Port) : s.KeepsLine (s.complete p) := by
  rcases s.complete_cases p with ⟨-, e⟩ | ⟨-, -, e⟩ <;> rw [e]
  · exact .refl s
  · exact s.keepsLine_modPort p _

/-- R34: a retirement touches the table, the schedule, the slot and the owner's port, and nothing else. -/
theorem State.keepsLine_retire (fuel : Nat) (d : DescIdx) (o : FrameOutcome) (stop : Time) (defer : Option Port)
    (s : State) : s.KeepsLine (State.retire fuel d o stop defer s) := by
  induction fuel generalizing d o s with
  | zero => exact .refl s
  | succ fuel ih =>
    simp only [State.retire]
    split
    · have hend : ∀ t : State, s.KeepsLine t → s.KeepsLine ((t.leave d).setDesc d Desc.blank) := fun t h =>
        (h.trans (t.keepsLine_leave d)).trans (State.keepsLine_setDesc _ d _)
      have hs2 : s.KeepsLine ((match (s.desc d).owner with
          | some p => s.place p (frameDone (s.desc d) o stop)
          | none => s).unlink d) := by
        refine State.KeepsLine.trans ?_ (State.keepsLine_unlink _ d)
        split
        · exact s.keepsLine_place _ _
        · exact .refl s
      have hs3 : ∀ t : State, s.KeepsLine t → s.KeepsLine (match (t.desc d).successor with
          | none => t
          | some c =>
            if (t.desc c).state = .held then
              if o.releases then
                if (t.desc c).expiry.open_ t.now then t.release c stop
                else State.retire fuel c (.expired .window) stop defer
                  (t.modDesc c fun y => { y with notBefore := some (plus stop (y.offset.getD 0)) })
              else State.retire fuel c o.passOn stop defer t
            else t) := fun t h => by
        split
        · exact h
        · rename_i c _
          split
          · split
            · split
              · exact h.trans (t.keepsLine_release c stop)
              · exact (h.trans (t.keepsLine_modDesc c _)).trans (ih _ _ _)
            · exact h.trans (ih _ _ _)
          · exact h
      have hs4 : ∀ (owner : Option Port) (t : State), s.KeepsLine t → s.KeepsLine (match owner with
          | some p => if defer = some p then t else t.complete p
          | none => t) := fun owner t h => by
        split
        · split
          · exact h
          · exact h.trans (t.keepsLine_complete _)
        · exact h
      exact hs4 _ _ (hend _ (hs3 _ hs2))
    · exact .refl s

/-- R34, in the form the events use. -/
theorem State.keepsLine_retireNow (s : State) (d : DescIdx) (o : FrameOutcome) (stop : Time) (defer : Option Port) :
    s.KeepsLine (s.retireNow d o stop defer) :=
  State.keepsLine_retire chainFuel d o stop defer s

theorem State.keepsBase_moveLine (s : State) (l : LineState) (cause : Cause) : s.KeepsBase (s.moveLine l cause) := by
  rcases s.moveLine_cases l cause with ⟨-, e⟩ | ⟨-, e⟩ <;> rw [e] <;> exact ⟨rfl, rfl, rfl, rfl, rfl, rfl⟩

theorem State.keepsBase_enterDisabled (s : State) (cause : Cause) : s.KeepsBase (s.enterDisabled cause) :=
  have h := s.keepsBase_moveLine .disabled cause
  ⟨h.1, h.2, h.3, h.4, h.5, h.6⟩

/-- R121: a fault entry changes the line, the Echo Monitor, the encoder and the ports' flags only. -/
theorem State.keepsBase_faultEntry (s : State) (cause : Cause) : s.KeepsBase (s.faultEntry cause) := by
  unfold State.faultEntry
  split
  · exact s.keepsBase_enterDisabled cause
  · split
    · have h := s.keepsBase_moveLine .fault cause
      exact ⟨h.1, h.2, h.3, h.4, h.5, h.6⟩
    · exact s.keepsBase_enterDisabled .faultLimit

theorem State.keepsBase_bump (l : List DescIdx) (s : State) : s.KeepsBase (s.bump l) := by
  unfold State.bump
  induction l generalizing s with
  | nil => exact .refl s
  | cons d l ih => exact (s.keepsLine_modDesc d _).toKeepsBase.trans (ih _)

theorem State.keepsBase_strobeFor (s : State) (owner : Option Port) (asked : Bool) :
    s.KeepsBase (s.strobeFor owner asked) := by
  unfold State.strobeFor
  split
  · split
    · exact (s.keepsLine_modPort _ _).toKeepsBase
    · exact .refl s
  · exact .refl s

/-- R82: the start of a frame leaves the clock, the pins, the profile and the payload alone. -/
theorem State.keepsBase_goOnLine (s : State) (d : DescIdx) : s.KeepsBase (s.goOnLine d) := by
  unfold State.goOnLine
  refine State.KeepsBase.trans ?_ (State.keepsBase_strobeFor _ _ _)
  have h := State.keepsBase_moveLine ((s.keepScheduled fun e => decide (e ≠ d)).setDesc d
    { s.desc d with state := .onLine, actualStart := some s.now, repsSent := 0, mismatches := 0 }) .busy
      ((s.keepScheduled fun e => decide (e ≠ d)).setDesc d
        { s.desc d with state := .onLine, actualStart := some s.now, repsSent := 0, mismatches := 0 }).disp.cause
  exact ⟨h.1, h.2, h.3, h.4, h.5, h.6⟩

theorem State.keepsBase_attempt (s : State) (d : DescIdx) (l : List DescIdx) : s.KeepsBase (s.attempt d l) := by
  unfold State.attempt
  split
  · exact (s.keepsBase_bump l).trans (State.keepsBase_goOnLine _ d)
  · exact s.keepsBase_faultEntry .blocked

/-- R77, R78: a dispatch decision event leaves the clock, the pins, the profile and the payload alone. -/
theorem State.keepsBase_startDecision (s : State) : s.KeepsBase s.startDecision := by
  have hasap : ∀ t : State, t.KeepsBase t.asapFirstFit := fun t => by
    unfold State.asapFirstFit
    split
    · exact t.keepsBase_attempt _ _
    · exact .refl t
  have hloop : ∀ (n : Nat) (t : State), t.KeepsBase (State.decideLoop n t) := by
    intro n
    induction n with
    | zero => exact fun t => .refl t
    | succ n ih =>
      intro t
      simp only [State.decideLoop]
      split
      · exact hasap t
      · rename_i d rest _
        split
        · exact hasap t
        · split
          · exact t.keepsBase_attempt d []
          · split
            · split
              · exact t.keepsBase_attempt d []
              · exact (t.keepsLine_retireNow d _ _ _).toKeepsBase.trans (ih _)
            · exact hasap t
  unfold State.startDecision
  split
  · exact hloop _ s
  · exact .refl s

/-- R1, R104, R114: REFCLK cycles change the prescale count, the carrier phase and what the Echo Monitor senses. -/
theorem State.cycles_frame (n : Nat) (s : State) :
    (State.cycles n s).clock = { s.clock with prescale := s.clock.prescale + n } ∧
    (State.cycles n s).inReset = s.inReset ∧ (State.cycles n s).lsense = s.lsense ∧
    (State.cycles n s).store = s.store ∧ (State.cycles n s).sched = s.sched ∧ (State.cycles n s).disp = s.disp ∧
    (State.cycles n s).prof = s.prof ∧ (State.cycles n s).ports = s.ports ∧
    (State.cycles n s).pending = s.pending := by
  induction n generalizing s with
  | zero => exact ⟨rfl, rfl, rfl, rfl, rfl, rfl, rfl, rfl, rfl⟩
  | succ n ih =>
    obtain ⟨h1, h2, h3, h4, h5, h6, h7, h8, h9⟩ := ih s.cycle
    refine ⟨?_, h2, h3, h4, h5, h6, h7, h8, h9⟩
    rw [State.cycles, h1]
    simp only [State.cycle_divisor, State.cycle_time, State.cycle_prescale]
    rw [Nat.add_assoc, Nat.add_comm 1 n]

/-- R180: an error count stays in its range. -/
theorem raise_le (n : Nat) : raise n ≤ 255 := Nat.min_le_left _ _

end Sys2Proof.Machine
end

