-- ==== Sys2Proof/Laws/Links.lean ====
section
/-! SUPPORT. What the fall and the rise of PCSn, driven bytes and ignored bytes do to a link, and that the beginning of a
transaction reaches nothing but its port's link. -/

namespace Sys2Proof.Machine

/-! ## Fields -/

@[simp] theorem Link.fall_state (l : Link) (b : List Byte) : (l.fall b).state = .kind := rfl
@[simp] theorem Link.fall_byteCount (l : Link) (b : List Byte) : (l.fall b).byteCount = 0 := rfl
@[simp] theorem Link.fall_buffer (l : Link) (b : List Byte) : (l.fall b).buffer = l.buffer := rfl
@[simp] theorem Link.fall_crc (l : Link) (b : List Byte) : (l.fall b).crc = l.crc := rfl
@[simp] theorem Link.fall_crcErrors (l : Link) (b : List Byte) : (l.fall b).crcErrors = l.crcErrors := rfl
@[simp] theorem Link.fall_framingErrors (l : Link) (b : List Byte) : (l.fall b).framingErrors = l.framingErrors := rfl
@[simp] theorem Link.fall_out (l : Link) (b : List Byte) : (l.fall b).out = b := rfl
@[simp] theorem Link.fall_pad (l : Link) (b : List Byte) : (l.fall b).pad = 0 := rfl
@[simp] theorem Link.fall_miso (l : Link) (b : List Byte) : (l.fall b).miso = [] := rfl

@[simp] theorem Link.drive_state (l : Link) (k : Nat) : (l.drive k).state = l.state := rfl
@[simp] theorem Link.drive_byteCount (l : Link) (k : Nat) : (l.drive k).byteCount = l.byteCount + k := rfl
@[simp] theorem Link.drive_length (l : Link) (k : Nat) : (l.drive k).length = l.length := rfl
@[simp] theorem Link.drive_buffer (l : Link) (k : Nat) : (l.drive k).buffer = l.buffer := rfl
@[simp] theorem Link.drive_crc (l : Link) (k : Nat) : (l.drive k).crc = l.crc := rfl
@[simp] theorem Link.drive_crcErrors (l : Link) (k : Nat) : (l.drive k).crcErrors = l.crcErrors := rfl
@[simp] theorem Link.drive_framingErrors (l : Link) (k : Nat) : (l.drive k).framingErrors = l.framingErrors := rfl
@[simp] theorem Link.drive_out (l : Link) (k : Nat) : (l.drive k).out = l.out.drop k := rfl
@[simp] theorem Link.drive_pad (l : Link) (k : Nat) : (l.drive k).pad = l.pad := rfl

@[simp] theorem Link.framingError_state (l : Link) : l.framingError.state = l.state := rfl
@[simp] theorem Link.framingError_crcErrors (l : Link) : l.framingError.crcErrors = l.crcErrors := rfl
@[simp] theorem Link.framingError_miso (l : Link) : l.framingError.miso = l.miso := rfl
@[simp] theorem Link.crcError_state (l : Link) : l.crcError.state = l.state := rfl
@[simp] theorem Link.crcError_framingErrors (l : Link) : l.crcError.framingErrors = l.framingErrors := rfl
@[simp] theorem Link.crcError_miso (l : Link) : l.crcError.miso = l.miso := rfl

/-! ## PCSn rises -/

/-- R175: after its rise PCSn is high, and nothing more is driven. -/
theorem Link.rise_spec (l : Link) : l.rise.state = .resting ∧ l.rise.out = [] ∧ l.rise.pad = 0 ∧
    l.rise.crcErrors = l.crcErrors ∧ l.rise.miso = l.miso ∧ l.rise.byteCount = l.byteCount := by
  unfold Link.rise
  cases l.state <;> exact ⟨rfl, rfl, rfl, rfl, rfl, rfl⟩

/-- R178, R183: the rise of PCSn is an error in REQUEST and in CONFIRM only. -/
theorem Link.rise_settled {l : Link} (h : l.state ≠ .request ∧ l.state ≠ .confirm) :
    l.rise = { l with state := .resting, out := [], pad := 0 } := by
  obtain ⟨h1, h2⟩ := h
  unfold Link.rise
  cases hs : l.state <;> first | rfl | exact absurd hs h1 | exact absurd hs h2

/-- A settled link has no error left to count. -/
theorem Link.Settled.apart {l : Link} (h : l.Settled) : l.state ≠ .request ∧ l.state ≠ .confirm := by
  rcases h with h | h | h <;> simp [h]

/-- PCSn is high already. -/
theorem Link.rise_rise (l : Link) : l.rise.rise = l.rise := by
  rw [Link.rise_settled (by simp [l.rise_spec.1])]
  obtain ⟨h1, h2, h3, -⟩ := l.rise_spec
  rw [← h1, ← h2, ← h3]

/-! ## Bytes -/

@[simp] theorem Link.drive_zero (l : Link) : l.drive 0 = l := by simp [Link.drive]

/-- The byte driven at a place: what is fixed for it, or the padding. -/
theorem getElem?_driven (out : List Byte) (pad : Byte) (k i : Nat) :
    ((out ++ List.replicate k pad).take k)[i]? = if i < k then some ((out[i]?).getD pad) else none := by
  rw [List.getElem?_take, List.getElem?_append, List.getElem?_replicate]
  by_cases hk : i < k
  · have hr : i - out.length < k := by omega
    by_cases ho : i < out.length <;> simp [hk, hr, ho]
  · simp [hk]

/-- R175: bytes completed one after the other. -/
theorem Link.drive_drive (l : Link) (j k : Nat) : (l.drive j).drive k = l.drive (j + k) := by
  have hlen : ((l.out ++ List.replicate j l.pad).take j).length = j := by simp
  have h : (l.out ++ List.replicate j l.pad).take j ++ (l.out.drop j ++ List.replicate k l.pad).take k =
      (l.out ++ List.replicate (j + k) l.pad).take (j + k) := by
    apply List.ext_getElem?
    intro i
    rw [List.getElem?_append, hlen, getElem?_driven, getElem?_driven, getElem?_driven]
    by_cases hi : i < j
    · simp [hi, Nat.lt_add_right k hi]
    · have e : j + (i - j) = i := by omega
      by_cases hk : i - j < k
      · have hk' : i < j + k := by omega
        simp [hi, hk, hk', e]
      · have hk' : ¬ i < j + k := by omega
        simp [hi, hk, hk']
  simp only [Link.drive, List.drop_drop, List.append_assoc, h, Nat.add_assoc]

/-- R175: bytes after the decision, or of a void transaction, only clock out what is fixed for them. -/
theorem Link.clock_ignored (head : Option Entry) (bs : List Byte) {l : Link} (h : l.state = .answer ∨ l.state = .ignore) :
    l.clock head bs = some (l.drive bs.length) := by
  induction bs generalizing l with
  | nil => simp [Link.clock]
  | cons b rest ih =>
    have hd : l.decisive = false := by rcases h with h | h <;> simp [Link.decisive, h]
    have hb : l.byte b head = l.drive 1 := by rcases h with h | h <;> simp [Link.byte, h]
    rw [Link.clock, hd, hb, if_neg (by simp), ih (by simpa using h), Link.drive_drive]
    simp [Nat.add_comm]

/-! ## The beginning of a transaction -/

/-! ## Fields that a transaction's bytes leave alone -/

@[simp] theorem State.begun_inReset (s : State) (p : Port) (g : Bool) : (s.begun p g).inReset = s.inReset := by cases g <;> rfl
@[simp] theorem State.begun_lsense (s : State) (p : Port) (g : Bool) : (s.begun p g).lsense = s.lsense := by cases g <;> rfl
@[simp] theorem State.begun_clock (s : State) (p : Port) (g : Bool) : (s.begun p g).clock = s.clock := by cases g <;> rfl
@[simp] theorem State.begun_store (s : State) (p : Port) (g : Bool) : (s.begun p g).store = s.store := by cases g <;> rfl
@[simp] theorem State.begun_sched (s : State) (p : Port) (g : Bool) : (s.begun p g).sched = s.sched := by cases g <;> rfl
@[simp] theorem State.begun_disp (s : State) (p : Port) (g : Bool) : (s.begun p g).disp = s.disp := by cases g <;> rfl
@[simp] theorem State.begun_enc (s : State) (p : Port) (g : Bool) : (s.begun p g).enc = s.enc := by cases g <;> rfl
@[simp] theorem State.begun_echo (s : State) (p : Port) (g : Bool) : (s.begun p g).echo = s.echo := by cases g <;> rfl
@[simp] theorem State.begun_prof (s : State) (p : Port) (g : Bool) : (s.begun p g).prof = s.prof := by cases g <;> rfl
@[simp] theorem State.begun_pending (s : State) (p : Port) (g : Bool) : (s.begun p g).pending = s.pending := by cases g <;> rfl
@[simp] theorem State.begun_desc (s : State) (p : Port) (g : Bool) (d : DescIdx) : (s.begun p g).desc d = s.desc d := by
  cases g <;> rfl

@[simp] theorem State.answered_inReset (s : State) (p : Port) (msg : List Byte) (c : Byte) (a : Acceptance) :
    (s.answered p msg c a).inReset = s.inReset := State.begun_inReset s p _
@[simp] theorem State.answered_lsense (s : State) (p : Port) (msg : List Byte) (c : Byte) (a : Acceptance) :
    (s.answered p msg c a).lsense = s.lsense := State.begun_lsense s p _
@[simp] theorem State.answered_clock (s : State) (p : Port) (msg : List Byte) (c : Byte) (a : Acceptance) :
    (s.answered p msg c a).clock = s.clock := State.begun_clock s p _
@[simp] theorem State.answered_store (s : State) (p : Port) (msg : List Byte) (c : Byte) (a : Acceptance) :
    (s.answered p msg c a).store = s.store := State.begun_store s p _
@[simp] theorem State.answered_sched (s : State) (p : Port) (msg : List Byte) (c : Byte) (a : Acceptance) :
    (s.answered p msg c a).sched = s.sched := State.begun_sched s p _
@[simp] theorem State.answered_disp (s : State) (p : Port) (msg : List Byte) (c : Byte) (a : Acceptance) :
    (s.answered p msg c a).disp = s.disp := State.begun_disp s p _
@[simp] theorem State.answered_enc (s : State) (p : Port) (msg : List Byte) (c : Byte) (a : Acceptance) :
    (s.answered p msg c a).enc = s.enc := State.begun_enc s p _
@[simp] theorem State.answered_echo (s : State) (p : Port) (msg : List Byte) (c : Byte) (a : Acceptance) :
    (s.answered p msg c a).echo = s.echo := State.begun_echo s p _
@[simp] theorem State.answered_prof (s : State) (p : Port) (msg : List Byte) (c : Byte) (a : Acceptance) :
    (s.answered p msg c a).prof = s.prof := State.begun_prof s p _
@[simp] theorem State.answered_pending (s : State) (p : Port) (msg : List Byte) (c : Byte) (a : Acceptance) :
    (s.answered p msg c a).pending = s.pending := State.begun_pending s p _
@[simp] theorem State.answered_desc (s : State) (p : Port) (msg : List Byte) (c : Byte) (a : Acceptance) (d : DescIdx) :
    (s.answered p msg c a).desc d = s.desc d := State.begun_desc s p _ d

/-- What the beginning of a transaction can do: nothing, or the rise and the fall of PCSn. -/
theorem State.begun_cases (s : State) (p : Port) (goesOn : Bool) :
    s.begun p goesOn = s.modLink p fun l => if goesOn then l else l.rise.fall (s.summary p) := by
  cases goesOn
  · rfl
  · simp only [State.begun, if_true]
    refine congrArg (fun ps => { s with ports := ps }) (Ports.ext_get fun q => ?_)
    by_cases hq : q = p <;> simp [hq]

/-- R175: a change of link p reaches port p only. -/
@[simp] theorem State.port_begun (s : State) (p q : Port) (goesOn : Bool) : (s.begun p goesOn).port q =
    if q = p then { s.port p with link := if goesOn then (s.port p).link else (s.port p).link.rise.fall (s.summary p) }
    else s.port q := by
  rw [State.begun_cases, State.port_modLink]

/-- Two changes of one link are one. -/
theorem State.modLink_modLink (s : State) (p : Port) (f g : Link → Link) :
    (s.modLink p f).modLink p g = s.modLink p fun l => g (f l) := by
  refine congrArg (fun ps => { s with ports := ps }) (Ports.ext_get fun q => ?_)
  by_cases hq : q = p <;> simp [State.modLink, State.modPort, hq]

/-- R175, R179: what the bytes of a REQUEST and its acceptance do: nothing but to its port's link. -/
theorem State.answered_eq (s : State) (p : Port) (msg : List Byte) (crc : Byte) (a : Acceptance) :
    s.answered p msg crc a = s.modLink p fun l =>
      (if (s.port p).link.leadsTo (requestBytes msg crc) then l else l.rise.fall (s.summary p)).answered msg crc a := by
  rw [State.answered, State.begun_cases, State.modLink_modLink]

end Sys2Proof.Machine
end

