-- ==== Sys2Proof/Laws/Memory.lean ====
section
/-! SUPPORT. The segment pool (R19, R29): a write is read back at its address and nowhere else, and every operation keeps the
canonical form. -/

namespace Sys2Proof.Machine

theorem Memory.read_push (a : Nat) (b : Byte) (rest : Memory) (x : Nat) (h : x = a → Memory.read rest a = Config.blankByte) :
    Memory.read (Memory.push a b rest) x = if a = x then b else Memory.read rest x := by
  unfold Memory.push
  by_cases hb : b = Config.blankByte
  · subst hb
    by_cases hx : a = x
    · subst hx; simp [h rfl]
    · simp [hx]
  · simp [hb, Memory.read]

theorem Memory.wfFrom_mono {m : Memory} {lo hi : Nat} (h : Memory.wfFrom hi m = true) (hl : lo ≤ hi) :
    Memory.wfFrom lo m = true := by
  cases m with
  | nil => rfl
  | cons c rest =>
    obtain ⟨a, b⟩ := c
    simp only [Memory.wfFrom, Bool.and_eq_true, decide_eq_true_eq] at h ⊢
    exact ⟨⟨by omega, h.1.2⟩, h.2⟩

theorem Memory.read_below {m : Memory} {lo : Nat} (h : Memory.wfFrom lo m = true) {a : Nat} (ha : a < lo) :
    Memory.read m a = Config.blankByte := by
  induction m generalizing lo with
  | nil => rfl
  | cons c rest ih =>
    obtain ⟨a', b⟩ := c
    simp only [Memory.wfFrom, Bool.and_eq_true, decide_eq_true_eq] at h
    have hne : ¬ a' = a := by omega
    simp only [Memory.read, hne, if_false]
    exact ih h.2 (by omega)

theorem Memory.wfFrom_push {a : Nat} {b : Byte} {rest : Memory} {lo : Nat} (h : Memory.wfFrom (a + 1) rest = true)
    (hl : lo ≤ a) : Memory.wfFrom lo (Memory.push a b rest) = true := by
  unfold Memory.push
  split
  · exact Memory.wfFrom_mono h (by omega)
  · simp_all [Memory.wfFrom]

theorem Memory.wfFrom_write (a : Nat) (b : Byte) (m : Memory) (lo : Nat) (h : Memory.wfFrom lo m = true) (hl : lo ≤ a) :
    Memory.wfFrom lo (Memory.write a b m) = true := by
  induction m generalizing lo with
  | nil => exact Memory.wfFrom_push rfl hl
  | cons c rest ih =>
    obtain ⟨a', b'⟩ := c
    simp only [Memory.wfFrom, Bool.and_eq_true, decide_eq_true_eq] at h
    simp only [Memory.write]
    split
    · refine Memory.wfFrom_push ?_ hl
      simp only [Memory.wfFrom, Bool.and_eq_true, decide_eq_true_eq]
      exact ⟨⟨by omega, h.1.2⟩, h.2⟩
    · split
      · subst_vars; exact Memory.wfFrom_push h.2 hl
      · simp only [Memory.wfFrom, Bool.and_eq_true, decide_eq_true_eq]
        exact ⟨⟨h.1.1, h.1.2⟩, ih (a' + 1) h.2 (by omega)⟩

/-- A write keeps the canonical form. -/
theorem Memory.wf_write (a : Nat) (b : Byte) (m : Memory) (h : m.wf = true) : (Memory.write a b m).wf = true :=
  Memory.wfFrom_write a b m 0 h (Nat.zero_le a)

/-- A write is read back at its address, and every other address reads as before. -/
theorem Memory.read_write (a : Nat) (b : Byte) (m : Memory) (h : m.wf = true) (x : Nat) :
    Memory.read (Memory.write a b m) x = if a = x then b else Memory.read m x := by
  have key : ∀ (m : Memory) (lo : Nat), Memory.wfFrom lo m = true →
      Memory.read (Memory.write a b m) x = if a = x then b else Memory.read m x := by
    intro m
    induction m with
    | nil => intro _ _; exact Memory.read_push a b [] x fun _ => rfl
    | cons c rest ih =>
      obtain ⟨a', b'⟩ := c
      intro lo h
      have hw := h
      simp only [Memory.wfFrom, Bool.and_eq_true, decide_eq_true_eq] at h
      simp only [Memory.write]
      split
      · rename_i hlt
        refine Memory.read_push a b _ x fun _ => ?_
        have : ¬ a' = a := by omega
        simp only [Memory.read, this, if_false]
        exact Memory.read_below h.2 (by omega)
      · split
        · rename_i _ heq
          subst heq
          rw [Memory.read_push a b rest x fun _ => Memory.read_below h.2 (by omega)]
          by_cases hx : a = x <;> simp [Memory.read, hx]
        · rename_i hne
          simp only [Memory.read, ih (a' + 1) h.2]
          by_cases hx : a' = x
          · have : ¬ a = x := by omega
            simp [hx, this]
          · simp [hx]
  exact key m 0 h

/-- R29: writing payload keeps the canonical form. -/
theorem writePayload_wf (segs : List SegIdx) (vs : List Byte) (b : Nat) (m : Memory) (h : m.wf = true) :
    (writePayload segs b vs m).wf = true := by
  induction vs generalizing b m with
  | nil => exact h
  | cons v vs ih =>
    refine ih (b + 1) _ ?_
    cases segAddress segs b with
    | none => exact h
    | some a => exact Memory.wf_write a v m h

/-- R29: a byte whose address no payload byte has reads as before. -/
theorem writePayload_read_other (segs : List SegIdx) (vs : List Byte) (b : Nat) (m : Memory) (h : m.wf = true) (x : Nat)
    (hx : ∀ k, k < vs.length → segAddress segs (b + k) ≠ some x) :
    Memory.read (writePayload segs b vs m) x = Memory.read m x := by
  induction vs generalizing b m with
  | nil => rfl
  | cons v vs ih =>
    have h0 := hx 0 (by simp)
    simp only [writePayload, Nat.add_zero] at h0 ⊢
    cases hs : segAddress segs b with
    | none =>
      refine ih (b + 1) m h fun k hk => ?_
      rw [Nat.add_right_comm]; exact hx (k + 1) (Nat.succ_lt_succ hk)
    | some a =>
      rw [hs] at h0
      have hne : ¬ a = x := fun e => h0 (congrArg some e)
      simp only [Option.elim]
      rw [ih (b + 1) _ (Memory.wf_write a v m h) fun k hk => ?_, Memory.read_write a v m h, if_neg hne]
      rw [Nat.add_right_comm]; exact hx (k + 1) (Nat.succ_lt_succ hk)

/-- The pool after reset has the canonical form. -/
theorem State.reset_poolSound : State.reset.store.pool.wf = true := rfl

end Sys2Proof.Machine
end

