-- ==== Sys2Proof/Laws/Requests.lean ====
section
/-! SUPPORT. What the link does with a REQUEST: a taken one is answered ACCEPTED and renews the lease before its command acts
(R151, R179); in terms of Safety, the state its command acts on differs in nothing but the port's own record. -/

namespace Sys2Proof.Machine

/-- R151, R179: the state on which a taken request's command acts. -/
def State.taken (s : State) (p : Port) (code tag : Byte) (fields : List Byte) : State :=
  (s.answered p (message code tag fields) (messageCrc (message code tag fields)) .accepted).renew p

theorem message_length (code tag : Byte) (fields : List Byte) : (message code tag fields).length = fields.length + 3 := by
  simp [message]

/-- R179: a request whose fields fit, on a port with room, hands the command the state `taken`, whatever the link is in. -/
theorem State.request_accepted (s : State) (p : Port) (code tag : Byte) (fields : List Byte) (act : State → State)
    (hrun : s.inReset = false) (hfit : fields.length ≤ 37) (hroom : s.used p + s.reserved p < 24) :
    s.request p code tag fields act = act (s.taken p code tag fields) := by
  have hl : ¬ Config.maxMessage < (message code tag fields).length := by
    rw [message_length]
    simp only [Config.maxMessage]
    omega
  have hf : (byteOf fields.length).toNat + Config.headBytes = (message code tag fields).length := by
    have : fields.length % 256 = fields.length := Nat.mod_eq_of_lt (by omega)
    rw [message_length]
    simpa [byteOf, Config.headBytes] using this
  have hr : s.roomFor p 1 = true := by
    simp only [State.roomFor, Config.queueSize]
    exact decide_eq_true (by omega)
  have hj : s.judge p (message code tag fields) (messageCrc (message code tag fields)) = .accepted := by
    have h2 : (message code tag fields)[2]? = some (byteOf fields.length) := rfl
    simp [State.judge, h2, hf, hr]
  simp only [State.request, hrun, hl, hj, State.taken, Bool.false_eq_true, if_false]

/-- R179: a request that the link takes hands the command the state `taken`. -/
theorem State.request_taken (s : State) (p : Port) (code tag : Byte) (fields : List Byte) (act : State → State)
    (h : s.Takes p fields) : s.request p code tag fields act = act (s.taken p code tag fields) :=
  s.request_accepted p code tag fields act h.running h.fits h.room

/-- R151: renewal changes the port's own record only, and to `renewed`. -/
theorem State.renew_eq (s : State) (p : Port) :
    s.renew p = s.modPort p fun q => { q.renewed with link := q.link } := by
  have idle : (s.port p).renewed = { s.port p with link := { (s.port p).link with state := .answer } } →
      s = s.modPort p fun q => { q.renewed with link := q.link } := fun h => by
    have : s.ports = s.ports.modify p fun q => { q.renewed with link := q.link } := by
      refine Ports.ext_get fun q => ?_
      by_cases hq : q = p
      · subst hq
        simp only [State.port] at h
        simp [h]
      · simp [hq]
    rw [State.modPort, ← this]
  unfold State.renew
  split
  · rename_i c hc
    by_cases hs : (s.port p).session.state = .opened ∨ (s.port p).session.state = .closing
    · simp only [State.hasSession, Session.active, hs, decide_true, if_true]
      refine congrArg (fun ps => { s with ports := ps }) (Ports.ext_get fun q => ?_)
      by_cases hq : q = p
      · subst hq
        simp only [State.port] at hc hs
        simp [PortState.renewed, hc, hs]
      · simp [hq]
    · simp only [State.hasSession, Session.active, hs, decide_false, Bool.false_eq_true, if_false]
      exact idle (by simp [PortState.renewed, hc, hs])
  · rename_i hc
    exact idle (by simp [PortState.renewed, hc])

/-- R175, R178, R179: the link of p when the CRC byte of a taken request has completed. -/
def State.sentLink (s : State) (p : Port) (code tag : Byte) (fields : List Byte) : Link :=
  let msg := message code tag fields
  (if (s.port p).link.leadsTo (requestBytes msg (messageCrc msg)) then (s.port p).link
    else (s.port p).link.rise.fall (s.summary p)).answered msg (messageCrc msg) .accepted

/-- R151, R179: what the command of a taken request finds: nothing is changed but its own port, which is renewed and whose
link is in ANSWER. -/
theorem State.taken_eq (s : State) (p : Port) (code tag : Byte) (fields : List Byte) :
    s.taken p code tag fields = s.modPort p fun q => { q.renewed with link := s.sentLink p code tag fields } := by
  rw [State.taken, State.renew_eq, State.answered_eq]
  refine congrArg (fun ps => { s with ports := ps }) (Ports.ext_get fun q => ?_)
  by_cases hq : q = p
  · subst hq
    simp only [State.modLink, State.modPort, Ports.get_modify, if_true, PortState.renewed, State.sentLink, State.port]
    split <;> (try split) <;> rfl
  · simp [State.modLink, State.modPort, hq]

/-- R179: a taken request's link, in what `PortState.Agrees` compares, and its acceptance code. -/
theorem State.sentLink_spec (s : State) (p : Port) (code tag : Byte) (fields : List Byte)
    (h : (s.port p).link.Settled) :
    (s.sentLink p code tag fields).state = .answer ∧
    (s.sentLink p code tag fields).crcErrors = (s.port p).link.crcErrors ∧
    (s.sentLink p code tag fields).framingErrors = (s.port p).link.framingErrors ∧
    (s.sentLink p code tag fields).out = [0x01] ∧ (s.sentLink p code tag fields).pad = 0 := by
  have hn : ∀ bs, (s.port p).link.leadsTo bs = false := fun bs => by
    rcases h with h | h | h <;> simp [Link.leadsTo, h]
  simp only [State.sentLink, hn, Bool.false_eq_true, if_false, Link.rise_settled h.apart]
  exact ⟨rfl, rfl, rfl, rfl, rfl⟩

/-- R151, R179: a renewed port's link, in what `PortState.Agrees` compares. -/
theorem PortState.renewed_link (q : PortState) : q.renewed.link = { q.link with state := .answer } := by
  unfold PortState.renewed
  split <;> (try split) <;> rfl

/-- R151: a renewal leaves the session's state, lease class and close form, and the queue's entries and other flags. -/
theorem PortState.renewed_keeps (q : PortState) :
    q.renewed.session.state = q.session.state ∧ q.renewed.session.lease = q.session.lease ∧
    q.renewed.session.form = q.session.form ∧ q.renewed.queue.entries = q.queue.entries ∧
    q.renewed.queue.lineChanged = q.queue.lineChanged ∧ q.renewed.queue.captureReady = q.queue.captureReady ∧
    q.renewed.capture = q.capture ∧ q.renewed.pcapt = q.pcapt ∧ q.renewed.strobe = q.strobe := by
  unfold PortState.renewed
  split <;> (try split) <;> simp

/-- A taken request whose command only places its REPLY. -/
theorem State.replies_of_reply (s : State) (i : Instr) (p : Port) (code tag : Byte) (fields : List Byte)
    (act : State → State) (r : ResultCode) (data : ReplyData) (h : s.Takes p fields)
    (hi : exec i s = .next (s.request p code tag fields act))
    (ha : act (s.taken p code tag fields) = (s.taken p code tag fields).reply p code tag r data) :
    s.Replies i p code tag r data := by
  have hp := PortState.renewed_link (s.port p)
  obtain ⟨l1, l2, l3, l4, l5⟩ := s.sentLink_spec p code tag fields h.settled
  refine ⟨_, by rw [hi, s.request_taken p code tag fields act h, ha], ?_, ?_, ?_, ?_⟩
  · rw [State.taken_eq]
    exact ⟨rfl, rfl, rfl, fun _ => rfl, fun _ => rfl, rfl, rfl, rfl, rfl, rfl, rfl⟩
  · intro q hq
    rw [State.taken_eq]
    simp [hq]
  · rw [State.taken_eq]
    simp only [State.port_reply, State.port_modPort, if_true]
    exact ⟨rfl, rfl, rfl, rfl, rfl, by simp [hp, l1], by simp [hp, l2], by simp [hp, l3]⟩
  · rw [State.taken_eq]
    simp only [State.port_reply, State.port_modPort, if_true]
    exact ⟨l4, l5⟩

end Sys2Proof.Machine
end

