-- ==== Sys2Proof/WellFormed.lean ====
section
/-! DEFINITION. Which terms of `Instr` are commands that the part's links and pins can carry. `exec` has an effect for
every term; a term that is not well formed names a step that its operands contradict. -/

namespace Sys2Proof

/-- A REQUEST's fields fit a message of at most 40 bytes (R178). -/
def fieldsFit (fields : List Byte) : Bool :=
  decide (fields.length + Config.headBytes ≤ Config.maxMessage)

/-- Whether bytes sent from the fall of PCSn decide nothing, before it rises or while it stays low: they name no kind, their
length is outside 3 to 40, or they stop before the CRC byte of the REQUEST (R177, R178), before the CRC byte of a POLL's
entry (R182) or before the confirm byte of a LINK_RESET, which stays open (R183). -/
def decidesNothing (rises : Bool) : List Byte → Bool
  | [] => true
  | b :: rest =>
    if b = Config.kindRequest then
      match rest with
      | [] => true
      | n :: body =>
        decide (n.toNat < Config.headBytes ∨ Config.maxMessage < n.toNat ∨ body.length ≤ n.toNat)
    else if b = Config.kindPoll then decide (rest.length ≤ 22)
    else if b = Config.kindReset then rest.isEmpty && !rises
    else true

/-- The well-formed commands. -/
def Instr.wf : Instr → Bool
  | .openSession _ _ f | .renew _ _ f | .close _ _ f | .loadBegin _ _ f | .loadData _ _ f
  | .queryFrame _ _ f | .submit _ _ f | .cancel _ _ f | .queryFree _ _ f | .lineEnable _ _ f
  | .lineDisable _ _ f | .queryLine _ _ f | .recover _ _ f | .claim _ _ f | .release _ _ f
  | .stage _ _ f | .commit _ _ f | .queryProfile _ _ f | .queryTime _ _ f | .readCapture _ _ f
  | .setTime _ _ f | .queryLink _ _ f => fieldsFit f
  | .unknownCommand _ code _ f => fieldsFit f && !Config.knownCodes.contains code
  | .voidTransaction _ stretch => !stretch.falls || decidesNothing stretch.rises stretch.mosi
  | .failedConfirm _ confirm => decide (confirm ≠ some Config.confirmByte)
  | .requestNotTaken _ msg _ => decide (Config.headBytes ≤ msg.length ∧ msg.length ≤ Config.maxMessage)
  | .chipReset | .resetRelease _ _ | .tick | .leaseLow _ | .lapse _ | .captureEdge _ | .timedStartReached
  | .notBeforeReached _ | .windowExpiry _ | .asapExpiry _ | .heldExpiryPassed _ | .preambleEnd | .bodyEnd
  | .gapEnd | .guardEnd | .comparisonEvent | .echoStop | .holdEnd | .strobePulseEnd _ | .poll _ _
  | .linkReset _ | .lsenseChange _ _ | .carrierBurstEnd => true

end Sys2Proof
end

