-- ==== Sys2Proof/Tests/Slice0.lean ====
section
/-! SUPPORT. Our own tests: ill-formed terms that WellFormed refuses, one step of worked examples of the spec (each test names
its section), and, for every statement with hypotheses, a state and operands that meet them. -/

open Sys2Proof Sys2Proof.Machine

namespace Sys2Proof.Tests

set_option Elab.async false

/-! ## WellFormed -/

theorem test_wf_fields_at_limit : (Instr.loadData .hp0 0 (List.replicate 37 0)).wf = true := by decide
theorem test_wf_refuses_long_fields : (Instr.loadData .hp0 0 (List.replicate 38 0)).wf = false := by decide
theorem test_wf_refuses_known_code : (Instr.unknownCommand .hp0 0x10 0 []).wf = false := by decide
theorem test_wf_unknown_code : (Instr.unknownCommand .hp0 0x13 0 []).wf = true := by decide
theorem test_wf_refuses_whole_request : (Instr.voidTransaction .hp0 ⟨true, [0xA5, 0x03, 0x11, 0, 0, 0xF3], true⟩).wf = false := by
  decide
theorem test_wf_refuses_whole_poll : (Instr.voidTransaction .hp0 ⟨true, 0x5A :: List.replicate 23 0, true⟩).wf = false := by
  decide
theorem test_wf_refuses_reset_cut : (Instr.voidTransaction .hp0 ⟨true, [0xC3], true⟩).wf = false := by decide
theorem test_wf_cut_short : (Instr.voidTransaction .hp0 ⟨true, [0xA5, 0x03, 0x11, 0, 0], true⟩).wf = true := by decide
theorem test_wf_refuses_confirm : (Instr.failedConfirm .hp0 (some 0x3C)).wf = false := by decide
theorem test_wf_refuses_short_message : (Instr.requestNotTaken .hp0 [0x11, 0] 0).wf = false := by decide
theorem test_wf_refuses_long_message : (Instr.requestNotTaken .hp0 (List.replicate 41 0) 0).wf = false := by decide

/-! ## Helpers -/

/-- The state a command leads to. -/
def after (c : Instr) (s : State) : State :=
  match exec c s with
  | .next t => t
  | .fault _ | .refused _ => s

/-- HP0's session in a state, the rest as after reset. -/
def sess (st : SessionState) : State :=
  { State.reset with ports := { hp0 := { session := {
      state := st
      lease := if st = .opened ∨ st = .closing then some .l0 else none
      remaining := if st = .opened ∨ st = .closing then 10000 else 0
      form := if st = .closing then some .drain else none } } } }

/-- HP0's session OPEN and the claim held, the line in a state. -/
def held (l : LineState) : State :=
  let s := sess .opened
  { s with prof := { s.prof with staged := some {}, holder := some .hp0 }, disp := { s.disp with line := l } }

/-- HP0's claim held at the tick at which HP0's lease has run out. -/
def lapsingHolder : State :=
  let s := held .disabled
  { s with ports := { hp0 := { session := { state := .opened, lease := some .l0, remaining := 0 } } } }

/-- Records put into the table. -/
def table (s : State) (l : List (DescIdx × Desc)) : State := l.foldl (fun t x => t.setDesc x.1 x.2) s

/-- A frame of the reference shape (00_scope.md section 7.5). -/
def reference (p : Port) (tag : Byte) : Desc :=
  { state := .loading, owner := some p, tag := tag, bodyBits := 32, preBits := 8, reps := 2, gap := 5000, fill := 4 }

/-- A booked TIMED frame with a reservation of so many ticks. -/
def booked (x : Desc) (start : Time) (len : Nat) : Desc :=
  { x with
    state := .waiting, cls := .timed, start := some start, slip := some 0, resStart := some start
    resEnd := some (plus start len), admission := some 0 }

/-- The time a state is put to. -/
def atTime (s : State) (t : Time) : State := { s with clock := { s.clock with time := t } }

/-- The entries of a port. -/
def entries (s : State) (p : Port) : List Entry := (s.port p).queue.entries

/-! ## Times and measures -/

/-- 1.6: times across the wrap. -/
theorem test_offered_times_across_wrap :
    classOf 4294960000 40000 = .ahead ∧ classOf 4294960000 4294960020 = .near ∧
    classOf 4294960000 4294959990 = .past ∧ classOf 4294960000 1073781000 = .far ∧
    plus 40000 86000 = 126000 := by decide

/-- 00_scope.md section 7.5: the reference frame. -/
theorem test_reference_measures :
    (reference .hp0 7).duration 500 = 85000 ∧ (reference .hp0 7).reservation {} = 86000 ∧
    (reference .hp0 7).bodyBytes = 4 ∧ segmentsFor 32 = 1 := by decide

/-- 2.11: L = 203 takes 26 bytes and 2 segments. -/
theorem test_tag8_measures : ({ bodyBits := 203 } : Desc).bodyBytes = 26 ∧ segmentsFor 203 = 2 := by decide

/-- 7.4: the longest reservation. -/
theorem test_longest_reservation : ({ bodyBits := 1024, preBits := 63, reps := 16, gap := 65535 } : Desc).reservation
    { hbt := 2048, guard := 4095 } = 72224752 := by decide

/-! ## The CRC -/

/-- R178: the characters 1 to 9. -/
theorem test_crc_check_value : crc8 [0x31, 0x32, 0x33, 0x34, 0x35, 0x36, 0x37, 0x38, 0x39] = 0xF4 := by
  decide +kernel

/-- 10.7: the accumulator over a RENEW. -/
theorem test_crc_of_renew : crc8 [0x03] = 0x09 ∧ crc8 [0x03, 0x11] = 0x48 ∧ crc8 [0x03, 0x11, 0x00] = 0xFF ∧
    crc8 [0x03, 0x11, 0x00, 0x00] = 0xF3 := by decide

/-! ## The waveform -/

/-- The coded levels of a repetition, half-cell by half-cell. -/
def levels (x : Desc) (m : Memory) : Nat → Encoder → List HalfLevel
  | 0, _ => []
  | n + 1, e =>
    let l := e.level x m
    l :: levels x m n ({ e with prevLevel := l } : Encoder).nextHalf

/-- 5.10: the frame with P = 2, L = 4 and the byte 0xB7. -/
def short (c : Coding) : List HalfLevel :=
  levels { bodyBits := 4, preBits := 2, coding := c, segs := [0], reps := 1 } [(0, 0xB7)] 12 {}

/-- 5.10: the NRZ row. -/
theorem test_nrz_row : short .nrz = [.active, .active, .active, .active, .active, .active, .quiet, .quiet, .active,
    .active, .active, .active] := by decide

/-- 5.10: the MANCHESTER row. -/
theorem test_manchester_row : short .manchester = [.active, .quiet, .active, .quiet, .active, .quiet, .quiet, .active,
    .active, .quiet, .active, .quiet] := by decide

/-- 5.10: the BIPHASE row. -/
theorem test_biphase_row : short .biphase = [.active, .active, .quiet, .quiet, .active, .active, .quiet, .active, .quiet,
    .quiet, .active, .active] := by decide

/-- 5.11: the burst time of the default carrier is 210 REFCLK cycles. -/
theorem test_default_burst : ({} : Profile).burst = 210 := by decide

/-! ## Commands and events -/

/-- R185: after a release with TBSEL = 01 the divisor is 16 and a port with PCSn low ignores its link. -/
theorem test_release_divisor : (after (.resetRelease 1 0b0100) (after .chipReset (sess .opened))).clock.divisor = 16 ∧
    ((after (.resetRelease 1 0b0100) (after .chipReset (sess .opened))).port .hp2).link.state = .ignore := by
  decide +kernel

/-- R2: 2^32 - 1 is followed by 0, and a lease counts down. -/
theorem test_tick_wraps : (after .tick (atTime (sess .opened) 0xFFFFFFFF)).clock = { divisor := 24, time := 0 } ∧
    ((after .tick (sess .opened)).port .hp0).session.remaining = 9999 := by decide +kernel

/-- 1.4: the second edge is dropped and marked, and READ_CAPTURE answers the first. -/
theorem test_capture_overrun : entries (after (.readCapture .hp0 5 []) (atTime (after (.captureEdge ⟨.hp0, [.low, .high]⟩)
    (atTime (after (.captureEdge ⟨.hp0, [.low, .high]⟩) (atTime State.reset 1200410)) 1203000)) 1209000)) .hp0 =
    [.reply 0x61 5 .ok (.capture 1200410 true)] := by decide +kernel

/-- R6: PCAPT high since the release is no edge. -/
theorem test_capture_high_at_release : (after (.captureEdge ⟨.hp0, [.high, .high]⟩) State.reset).port .hp0 =
    { pcapt := some .high } := by decide +kernel

/-- R8: an EMPTY slot answers NONE. -/
theorem test_capture_empty : entries (after (.readCapture .hp0 5 []) State.reset) .hp0 = [.reply 0x61 5 .none .none] := by
  decide +kernel

/-- 10.7: the bytes on PMISO of a RENEW, ACCEPTED in the last; status 0 shows used 0 and OPEN, status 1 DISABLED. After it
PMISO reads 0x00. -/
theorem test_renew_miso : ((after (.voidTransaction .hp0 ⟨false, [0, 0], true⟩) (after (.renew .hp0 0 []) (sess .opened))).port
    .hp0).link.miso = [0x02, 0x05, 0x00, 0x00, 0x00, 0x00, 0x01, 0x00] := by decide +kernel

/-- R176: a session that opens between the fall of PCSn and the CRC byte is not in the summary sent. -/
theorem test_summary_is_snapshot : ((after (.queryTime .hp0 0 []) { after (.voidTransaction .hp0 ⟨true, [0xA5, 3], false⟩)
    State.reset with disp := { line := .idle } }).port .hp0).link.miso = [0x00, 0x05, 0x00, 0x00, 0x00, 0x00] := by
  decide +kernel

/-- R152: RENEW answers the lease remaining before it. -/
theorem test_renew_reply : entries (after (.renew .hp0 9 []) (after .tick (sess .opened))) .hp0 =
    [.reply 0x11 9 .ok (.renewed 9999 .l0 .opened)] := by decide +kernel

/-- 10.7: the CRC byte 0xF2 in place of 0xF3 is CRC_FAIL. -/
theorem test_renew_bad_crc : ((after (.requestNotTaken .hp0 [0x11, 0, 0] 0xF2) (sess .opened)).port .hp0).link.crcErrors = 1 ∧
    entries (after (.requestNotTaken .hp0 [0x11, 0, 0] 0xF2) (sess .opened)) .hp0 = [] := by decide +kernel

/-- R91, R162: a LINE_ENABLE of the holder's taken first at the tick of its lapse acts, and no lapse occurs at that tick;
taken second, it meets a session that has lapsed. -/
theorem test_lapse_not_at_renewal :
    (after (.lapse .hp0) (after (.lineEnable .hp0 1 []) lapsingHolder)).prof.holder = some .hp0 ∧
    (after (.lapse .hp0) (after (.lineEnable .hp0 1 []) lapsingHolder)).disp.line = .idle ∧
    (after (.lineEnable .hp0 1 []) (after (.lapse .hp0) lapsingHolder)).disp.line = .disabled := by decide +kernel

/-- 10.7: the POLL after the RENEW carries length 20 and the REPLY, and empties the queue. -/
theorem test_poll_reply : (((after (.poll .hp0 24) (after (.renew .hp0 9 []) (sess .opened))).port .hp0).link.miso.drop 2).take 12 =
    [20, 0x00, 0x11, 9, 0x00, 0x00, 0x27, 0x10, 0, 1, 0, 0] ∧
    entries (after (.poll .hp0 24) (after (.renew .hp0 9 []) (sess .opened))) .hp0 = [] := by decide +kernel

/-- R171: a POLL of 23 bytes leaves the entry at the head. -/
theorem test_poll_cut_short : entries (after (.poll .hp0 23) (after (.renew .hp0 9 []) (sess .opened))) .hp0 =
    [.reply 0x11 9 .ok (.renewed 10000 .l0 .opened)] := by decide +kernel

/-- R177: a byte 0 that names no kind counts once, and 0x00 counts nothing. -/
theorem test_void_counts :
    ((after (.voidTransaction .hp1 ⟨true, [0x11], true⟩) State.reset).port .hp1).link.framingErrors = 1 ∧
    ((after (.voidTransaction .hp1 ⟨true, [0x00, 0x00], true⟩) State.reset).port .hp1).link.framingErrors = 0 := by
  decide +kernel

/-- R178: after a length of 41 PMISO carries FRAMING, and the error counts once. -/
theorem test_bad_length : (((after (.voidTransaction .hp1 ⟨true, [0xA5, 41, 0, 0], true⟩) State.reset).port .hp1).link.miso,
    ((after (.voidTransaction .hp1 ⟨true, [0xA5, 41, 0, 0], true⟩) State.reset).port .hp1).link.framingErrors) =
    ([0x00, 0x05, 0x04, 0x04], 1) := by decide +kernel

/-- R175: a link released with PCSn low takes a transaction once PCSn has risen. -/
theorem test_ignore_until_rise : (after (.voidTransaction .hp2 ⟨false, [0x5A], true⟩) (after (.resetRelease 2 0b0100)
    (after .chipReset State.reset))).port .hp2 = { link := { byteCount := 1, miso := [0] } } := by decide +kernel

/-- R183: a confirm byte other than 0x3C counts a framing error. -/
theorem test_failed_confirm : ((after (.failedConfirm .hp1 (some 0x3D)) State.reset).port .hp1).link.framingErrors = 1 := by
  decide +kernel

/-- R168: an unknown code in every session state. -/
theorem test_unknown_command : entries (after (.unknownCommand .hp2 0xFF 3 [1, 2]) State.reset) .hp2 =
    [.reply 0xFF 3 .unknownCommand .none] := by decide +kernel

/-- R181: QUERY_LINK carries the port number. -/
theorem test_query_link : entries (after (.queryLink .hp3 1 []) State.reset) .hp3 = [.reply 0x70 1 .ok (.link 0 0 .hp3)] := by
  decide +kernel

/-- R5: QUERY_TIME. -/
theorem test_query_time : entries (after (.queryTime .hp1 1 []) (atTime State.reset 77)) .hp1 =
    [.reply 0x60 1 .ok (.time 77 24)] := by decide +kernel

/-- R11: SET_TIME answers the old and the new time. -/
theorem test_set_time : entries (after (.setTime .hp0 1 [0, 0, 1, 0]) (atTime (held .disabled) 77)) .hp0 =
    [.reply 0x62 1 .ok (.timeSet 77 256)] ∧
    (after (.setTime .hp0 1 [0, 0, 1, 0]) (atTime (held .disabled) 77)).clock.time = 256 := by decide +kernel

/-- R150: OPEN with class L1 has the period 100,000. -/
theorem test_open : ((after (.openSession .hp1 1 [1]) State.reset).port .hp1).session =
    { state := .opened, lease := some .l1, remaining := 100000, form := none } := by decide +kernel

/-- 8.5: at 25,000 ticks left an L1 lease is low. -/
theorem test_lease_low : ((after (.leaseLow .hp1) (({ State.reset with ports := { hp1 := { session :=
    { state := .opened, lease := some .l1, remaining := 25000 } } } } : State))).port .hp1).queue.leaseLow = true := by
  decide +kernel

/-- 2.11: LOAD_BEGIN of tag 8. -/
theorem test_load_begin : entries (after (.loadBegin .hp0 4 [8, 1, 0, 203, 0, 0, 0, 1, 0, 0, 1, 0]) (sess .opened)) .hp0 =
    [.reply 0x20 4 .loadReady (.loadReady 8 26 2)] := by decide +kernel

/-- 2.11: LOAD_DATA of tag 8 at offset 0 again is OUT_OF_ORDER with fill 24. -/
theorem test_load_data_out_of_order : entries (after (.loadData .hp0 4 [8, 0, 1, 2]) (table (sess .opened)
    [(6, { reference .hp0 8 with bodyBits := 203, fill := 24, segs := [1, 2] })])) .hp0 =
    [.reply 0x21 4 .outOfOrder (.fillLevel 24)] := by decide +kernel

/-- 2.11: bytes 24 and 25 of tag 8 go into its second segment. -/
theorem test_load_data_place : (after (.loadData .hp0 4 [8, 24, 0xAA, 0xBB]) (table (sess .opened)
    [(6, { reference .hp0 8 with bodyBits := 203, fill := 24, segs := [1, 5] })])).store.pool =
    [(88, 0xAA), (89, 0xBB)] := by decide +kernel

/-- 2.11: QUERY_FRAME of an unknown tag answers the capacity counts. -/
theorem test_query_frame_not_found : entries (after (.queryFrame .hp0 4 [9, 0]) (sess .opened)) .hp0 =
    [.reply 0x22 4 .notFound (.capacity { live := 0, held := 0, freeDescs := 48, freeSegs := 192 })] := by decide +kernel

/-- 3.10: HP0's reference frame booked at 2,000,000, HP3's CONFLICT at 2,050,000 replaced by one port's own. -/
def bookedHour : State :=
  let s := atTime (table (sess .opened) [(0, booked (reference .hp0 7) 2000000 86000), (1, reference .hp0 1)]) 1900000
  { s with sched := { s.sched with timed := [0] } }

/-- 3.10: SUBMIT at 2,050,000 is refused CONFLICT with the end 2,086,000. -/
theorem test_submit_conflict : entries (after (.submit .hp0 2 ({ tag := 1, start := some 2050000 } : Timing).bytes) bookedHour) .hp0 =
    [.reply 0x30 2 .conflict (.conflictEnd 2086000)] := by decide +kernel

/-- 3.10: SUBMIT at 2,086,000 is ADMITTED behind the first. -/
theorem test_submit_admitted :
    entries (after (.submit .hp0 2 ({ tag := 1, start := some 2086000 } : Timing).bytes) bookedHour) .hp0 =
      [.reply 0x30 2 .admitted (.admittedTimed 1 2086000 2172000)] ∧
    (after (.submit .hp0 2 ({ tag := 1, start := some 2086000 } : Timing).bytes) bookedHour).sched.timed = [0, 1] := by
  decide +kernel

/-- 3.10: QUERY_FREE t 2,050,000, d 86,000 finds 2,086,000. -/
theorem test_query_free : entries (after (.queryFree .hp0 2 (timeBytes 2050000 ++ be32 86000)) bookedHour) .hp0 =
    [.reply 0x32 2 .ok (.room 2086000 none)] := by decide +kernel

/-- 3.11: three frames in a chain, the first WAITING. -/
def chained3 : State :=
  let s := atTime (table (sess .opened)
    [(0, { reference .hp0 3 with state := .waiting, cls := .asap, priority := some 1, successor := some 1 }),
     (1, { reference .hp0 4 with state := .held, cls := .chained, priority := some 1, predTag := some 3, offset := some 2000
                                 successor := some 2 }),
     (2, { reference .hp0 5 with state := .held, cls := .chained, priority := some 1, predTag := some 4, offset := some 0
                                 expiry := .at 3500000 })]) 3000000
  { s with sched := { s.sched with asap := { q1 := [0] } } }

/-- 3.11: CANCEL of the first breaks the two behind it, before the REPLY. -/
theorem test_cancel_chain : entries (after (.cancel .hp0 2 [3]) chained3) .hp0 =
    [.frameDone 3 .cancelled none 0 0, .frameDone 4 .chainBroken none 0 0, .frameDone 5 .chainBroken none 0 0,
     .reply 0x31 2 .cancelled (.cancelled 3)] := by decide +kernel

/-- 3.11: the first ends SENT at 3,202,000 and the second is released with not_before 3,204,000. -/
theorem test_release_not_before : ((atTime chained3 3202000).retireNow 0 .sent 3202000 none).desc 1 =
    { chained3.desc 1 with state := .waiting, notBefore := some 3204000, admission := some 0 } := by decide +kernel

/-- 3.11: SUBMIT of tag 4 behind tag 3, which is still LOADING. -/
theorem test_submit_chained : entries (after (.submit .hp0 2 ({ tag := 4, pred := some 3, offset := some 2000 } : Timing).bytes)
    (table (sess .opened) [(0, reference .hp0 3), (1, { reference .hp0 4 with cls := .chained })])) .hp0 =
    [.reply 0x30 2 .admitted (.admittedChained 4 3)] := by decide +kernel

/-- 4.11: the state at 500,000, without D. -/
def firstFit : State :=
  let s := atTime (table State.reset
    [(0, booked (reference .hp0 7) 520000 86000),
     (1, { state := .waiting, owner := some .hp1, cls := .asap, bodyBits := 21, preBits := 8, reps := 1, eligible := true
           priority := some 0, bypass := 7 }),
     (2, { state := .waiting, owner := some .hp2, cls := .asap, bodyBits := 16, reps := 1, eligible := true
           priority := some 1 }),
     (3, { state := .waiting, owner := some .hp3, cls := .asap, bodyBits := 2, reps := 1, eligible := true
           priority := some 1 })]) 500000
  { s with
    disp := { s.disp with line := .idle }
    sched := { s.sched with timed := [0], asap := { q0 := [1], q1 := [2, 3] } } }

/-- 4.11: A is counted, and B starts. -/
theorem test_first_fit : (firstFit.startDecision.desc 1).bypass = 8 ∧ firstFit.startDecision.disp.slot = some 2 := by
  decide +kernel

/-- 4.11: at 517,000 A blocks, and nothing starts. -/
theorem test_blocking : (atTime (firstFit.modDesc 1 fun x => { x with bypass := 8 }) 517000).startDecision.disp.slot = none := by
  decide +kernel

/-- 4.11: at 520,000 HP0's frame starts on time. -/
theorem test_timed_start : (after .timedStartReached (atTime firstFit 520000)).disp.slot = some 0 ∧
    (after .timedStartReached (atTime firstFit 520000)).disp.plannedEnd = 606000 := by decide +kernel

/-- 4.12: the list of three, the line in FAULT at a time. -/
def outage (t : Time) : State :=
  let s := atTime (table (sess .opened)
    [(0, { booked (reference .hp1 1) 4000000 86000 with slip := some 30000 }),
     (1, { booked (reference .hp2 2) 4086000 86000 with slip := some 20000 }),
     (2, booked (reference .hp0 3) 4200000 86000)]) t
  { s with
    disp := { s.disp with line := .fault }
    echo := { s.echo with holdEnd := 4010000, quietRun := 255 }
    prof := { s.prof with holder := some .hp0, staged := some {} }
    sched := { s.sched with timed := [0, 1, 2] } }

/-- 4.12 case 1: X retires EXPIRED (WOULD_OVERLAP) at the hold's end, and the line is IDLE. -/
theorem test_would_overlap : entries (after .holdEnd (outage 4010000)) .hp1 =
    [.frameDone 1 (.expired .wouldOverlap) none 0 0] ∧ (after .holdEnd (outage 4010000)).disp.line = .idle := by
  decide +kernel

/-- 4.12 case 2: X's window passes at 4,030,001, and not at 4,030,000. -/
theorem test_window_expiry : entries (after (.windowExpiry 0) (outage 4030001)) .hp1 =
    [.frameDone 1 (.expired .window) none 0 0] ∧ after (.windowExpiry 0) (outage 4030000) = outage 4030000 := by
  decide +kernel

/-- 4.12 case 3: RECOVER at 4,090,000 starts Y late, with planned end 4,176,000. -/
theorem test_recover_starts_late :
    (after (.recover .hp0 1 []) (after (.windowExpiry 0) (outage 4090000))).disp.slot = some 1 ∧
    (after (.recover .hp0 1 []) (after (.windowExpiry 0) (outage 4090000))).disp.plannedEnd = 4176000 := by decide +kernel

/-- A frame on the line in a phase, the encoder so far. -/
def onLine (s : State) (d : DescIdx) (x : Desc) (ph : Phase) (e : Encoder) : State :=
  let t := s.setDesc d { x with state := .onLine }
  { t with disp := { t.disp with line := .busy, phase := some ph, slot := some d }, enc := e }

/-- 2.12: tag 7 at the end of its second repetition. -/
def lastBody : State :=
  atTime (onLine (sess .opened) 5 { booked (reference .hp0 7) 2000000 86000 with
      actualStart := some 2000040, repsSent := 1, strobeEnd := true } .body
    { activity := .sending, bitPos := 39, half := .second, ticks := 500, lastEnd := 2085040 }) 2085040

/-- 2.12: the FRAME_DONE of tag 7, the guard to 2,086,040 and the strobe (5.12). -/
theorem test_sent_late : entries (after .bodyEnd lastBody) .hp0 =
    [.frameDone 7 (.sentLate 40) (some (2000040, 2085040)) 2 0] ∧
    (after .bodyEnd lastBody).disp.guardEnd = 2086040 ∧ ((after .bodyEnd lastBody).port .hp0).strobe = .high := by
  decide +kernel

/-- 2.12: at the end of repetition 1 the gap begins. -/
theorem test_gap_begins : (after .bodyEnd (lastBody.modDesc 5 fun x => { x with repsSent := 0 })).disp.phase = some .gap ∧
    ((after .bodyEnd (lastBody.modDesc 5 fun x => { x with repsSent := 0 })).desc 5).repsSent = 1 := by decide +kernel

/-- 5.12: the gap ends after 5,000 ticks and the second repetition begins with its preamble. -/
theorem test_gap_end : (after .gapEnd (onLine (sess .opened) 5 (reference .hp0 7) .gap
    { activity := .gap, repetition := 1, ticks := 5000 })).enc.repetition = 2 ∧
    (after .gapEnd (onLine (sess .opened) 5 (reference .hp0 7) .gap
      { activity := .gap, repetition := 1, ticks := 5000 })).disp.phase = some .preamble := by decide +kernel

/-- 5.12: the preamble ends at bit position 8. -/
theorem test_preamble_end : (after .preambleEnd (onLine State.reset 5 (reference .hp0 7) .preamble
    { activity := .sending, bitPos := 8 })).disp.phase = some .body ∧
    (after .preambleEnd (onLine State.reset 5 (reference .hp0 7) .preamble
      { activity := .sending, bitPos := 7 })).disp.phase = some .preamble := by decide +kernel

/-- 7.9: the four booked frames, E behind D, HP0 with the new values staged. -/
def beforeCommit : State :=
  let s := atTime (table (held .disabled)
    [(0, booked (reference .hp0 1) 10000000 86000), (1, booked (reference .hp1 2) 10086000 86000),
     (2, booked (reference .hp2 3) 10200000 86000),
     (3, { booked { reference .hp3 4 with bodyBits := 16, preBits := 0, reps := 1 } 10290000 17000 with successor := some 4 }),
     (4, { reference .hp3 5 with state := .held, cls := .chained, predTag := some 4, offset := some 0 })]) 9000000
  { s with
    prof := { s.prof with staged := some { hbt := 600, guard := 2000 } }
    sched := { s.sched with timed := [0, 1, 2, 3] } }

/-- 7.9: the list and the new reservation ends after the COMMIT. -/
theorem test_commit_list : (after (.commit .hp0 1 []) beforeCommit).sched.timed = [0, 2] ∧
    ((after (.commit .hp0 1 []) beforeCommit).desc 0).resEnd = some 10103000 ∧
    ((after (.commit .hp0 1 []) beforeCommit).desc 2).resEnd = some 10303000 := by decide +kernel

/-- 7.9: the new entries of the four ports. -/
theorem test_commit_entries : entries (after (.commit .hp0 1 []) beforeCommit) .hp0 = [.reply 0x53 1 .ok (.committed 2 1)] ∧
    entries (after (.commit .hp0 1 []) beforeCommit) .hp1 = [.frameDone 2 .rescheduled none 0 0] ∧
    entries (after (.commit .hp0 1 []) beforeCommit) .hp2 = [] ∧
    entries (after (.commit .hp0 1 []) beforeCommit) .hp3 =
      [.frameDone 4 .rescheduled none 0 0, .frameDone 5 .chainBroken none 0 0] := by decide +kernel

/-- 7.9: the STAGE of HBT 600 and GUARD 2,000 counts 2 differing fields. -/
theorem test_stage : entries (after (.stage .hp0 1 [0x00, 0x03, 0x02, 0x58, 0x07, 0xD0]) (held .disabled)) .hp0 =
    [.reply 0x52 1 .ok (.staged 2)] := by decide +kernel

/-- R137: HBT 1 is out of its range. -/
theorem test_stage_out_of_range : entries (after (.stage .hp0 1 [0x00, 0x01, 0x00, 0x01]) (held .disabled)) .hp0 =
    [.reply 0x52 1 .badField (.badProfileField .hbt)] := by decide +kernel

/-- R131: a CLAIM of a second port. -/
theorem test_claim_claimed : entries (after (.claim .hp1 1 []) (after (.openSession .hp1 0 [0]) (held .idle))) .hp1 =
    [.reply 0x10 0 .ok (.opened .closed .l0), .reply 0x50 1 .claimed .none] := by decide +kernel

/-- R133: RELEASE discards the staged profile. -/
theorem test_release : (after (.release .hp0 1 []) (held .idle)).prof = { staged := none, holder := none } := by
  decide +kernel

/-- R142: HP1 sees the claim held by another. -/
theorem test_query_profile : entries (after (.queryProfile .hp1 1 [0]) (held .idle)) .hp1 =
    [.reply 0x54 1 .ok (.profile {} .byOther)] := by decide +kernel

/-- 8.12: HP3 at its lapse at 8,100,000. -/
def beforeLapse : State :=
  let e : Entry := .sessionClosed .drain
  let s := atTime (onLine (table State.reset
    [(4, { reference .hp3 2 with state := .held, cls := .chained }),
     (7, { reference .hp3 3 with state := .waiting, cls := .asap, admission := some 500, priority := some 0, successor := some 9 }),
     (9, { reference .hp3 7 with state := .held, cls := .chained }),
     (10, { reference .hp3 1 with cls := .asap, priority := some 0, successor := some 4 }),
     (12, { booked (reference .hp3 4) 9000000 86000 with admission := some 480 }),
     (15, { reference .hp3 6 with state := .held, cls := .chained })])
    2 { booked (reference .hp3 5) 8060000 86000 with admission := some 470, actualStart := some 8060000, successor := some 15 }
    .body { activity := .sending, bitPos := 39, half := .second, ticks := 500, lastEnd := 8100000 }) 8100000
  { s with
    sched := { s.sched with timed := [12], asap := { q0 := [7] } }
    ports := { s.ports with hp3 := {
      session := { state := .opened, lease := some .l1, remaining := 0 }
      queue := { entries := [e, e, e], leaseLow := true } } } }

/-- 8.12: the entries of the lapse. -/
theorem test_lapse_entries : (entries (after (.lapse .hp3) beforeLapse) .hp3).drop 3 =
    [.frameDone 4 .purged none 0 0, .frameDone 3 .purged none 0 0, .frameDone 7 .purged none 0 0,
     .frameDone 1 .purged none 0 0, .frameDone 2 .purged none 0 0, .frameDone 6 .purged none 0 0,
     .sessionLapsed .l1 .opened 6 (some 5) false] := by decide +kernel

/-- 8.12: used 10 and reserved 1 after the lapse, and then the frame retires TRUNCATED with actual end 8,100,000. -/
theorem test_lapse_then_end : (after (.lapse .hp3) beforeLapse).used .hp3 = 10 ∧
    (after (.lapse .hp3) beforeLapse).reserved .hp3 = 1 ∧
    (entries (after .bodyEnd (after (.lapse .hp3) beforeLapse)) .hp3).getLast? =
      some (.frameDone 5 .truncated (some (8060000, 8100000)) 1 0) := by decide +kernel

/-- R156: a drain with nothing live completes after its reply. -/
theorem test_close_drain : entries (after (.close .hp0 1 [0]) (sess .opened)) .hp0 =
    [.reply 0x12 1 .ok (.closed .drain 0), .sessionClosed .drain] := by decide +kernel

/-- R184: a LINK_RESET orphans the frame on the line and empties the port. -/
theorem test_link_reset : ((after (.linkReset .hp3) beforeLapse).desc 2).owner = none ∧
    (after (.linkReset .hp3) beforeLapse).liveCount .hp3 = 0 ∧
    (after (.linkReset .hp3) beforeLapse).sched.timed = [] := by decide +kernel

/-- R76: the guard end of a DRAINING line. -/
theorem test_guard_end_draining : (after .guardEnd ({ State.reset with
    disp := { line := .draining, phase := some .guard, guardEnd := 0 } } : State)).disp =
    { line := .disabled, cause := .drainEnd } := by decide +kernel

/-- R87: LINE_ENABLE of a DISABLED line sets every open port's flag. -/
theorem test_line_enable : (after (.lineEnable .hp0 1 []) (held .disabled)).disp.line = .idle ∧
    ((after (.lineEnable .hp0 1 []) (held .disabled)).port .hp0).queue.lineChanged = true := by decide +kernel

/-- R88: LINE_DISABLE of a BUSY line drains it. -/
theorem test_line_disable : (after (.lineDisable .hp0 1 []) (held .busy)).disp.line = .draining ∧
    (after (.lineDisable .hp0 1 []) (held .busy)).disp.cause = .hostDisable := by decide +kernel

/-- R93: QUERY_LINE after reset. -/
theorem test_query_line : entries (after (.queryLine .hp1 1 []) State.reset) .hp1 =
    [.reply 0x42 1 .ok (.lineReport .disabled none .chipReset 0 none none none)] := by decide +kernel

/-- A half-cell at its middle under ABORT with threshold 1, LSENSE quiet where the frame drives active. -/
def checking : State :=
  let s := onLine (sess .opened) 5 (reference .hp0 7) .preamble { activity := .sending, ticks := 250 }
  { s with
    prof := { s.prof with active := { echoMode := .abort, echoThreshold := 1 } }
    echo := { s.echo with sinceHigh := 632 } }

/-- R118, R119: the mismatch is counted once and sets abort pending. -/
theorem test_comparison : ((after .comparisonEvent checking).desc 5).mismatches = 1 ∧
    (after .comparisonEvent checking).echo.abortPending = true ∧
    ((after .comparisonEvent (after .comparisonEvent checking)).desc 5).mismatches = 1 := by decide +kernel

/-- The half-cell of `checking` ended with the abort pending. -/
def stopping : State :=
  let s := after .comparisonEvent checking
  { s with enc := { s.enc with ticks := 500, lastEnd := 500 }, clock := { s.clock with time := 500 } }

/-- R120, R121: the echo stop takes the line to FAULT with the default hold of 20,000. -/
theorem test_echo_stop : (after .echoStop stopping).disp.line = .fault ∧
    (after .echoStop stopping).echo.holdEnd = 20500 ∧ (after .echoStop stopping).disp.cause = .echo := by decide +kernel

/-- R114: LSENSE_CHANGE stops short of the tick boundary. -/
theorem test_lsense_change : (after (.lsenseChange 99 .high) State.reset).clock.prescale = 23 ∧
    (after (.lsenseChange 99 .high) State.reset).lsense = .high := by decide +kernel

/-- 5.11: 10 cycles before the end of a burst of 210 cycles. -/
def bursting : State :=
  onLine (sess .opened) 5 (reference .hp0 7) .preamble { activity := .sending, carrierPhase := 200 }

/-- R104: the burst ends at 210 with LOUT at the idle level. -/
theorem test_burst_end : bursting.lout = .high ∧ (after .carrierBurstEnd bursting).lout = .low ∧
    (after .carrierBurstEnd bursting).enc.carrierPhase = 210 := by decide +kernel

/-- R110: a pulse ends in the step after its tick boundary. -/
theorem test_strobe_pulse : ((after .tick ((sess .opened).pulse .hp0)).port .hp0).strobe = .ending ∧
    ((after (.strobePulseEnd .hp0) (after .tick ((sess .opened).pulse .hp0))).port .hp0).strobe = .low := by decide +kernel

/-- R46: a not_before that is reached makes its frame eligible. -/
theorem test_not_before : ((after (.notBeforeReached 1) (table (atTime State.reset 100)
    [(1, { state := .waiting, cls := .asap, notBefore := some 100 })])).desc 1).eligible = true ∧
    ((after (.notBeforeReached 1) (table (atTime State.reset 99)
      [(1, { state := .waiting, cls := .asap, notBefore := some 100 })])).desc 1).eligible = false := by decide +kernel

/-- R85: an expiry that is reached retires its frame. -/
theorem test_asap_expiry : entries (after (.asapExpiry 1) (table (atTime State.reset 100)
    [(1, { reference .hp0 6 with state := .waiting, cls := .asap, expiry := .at 100 })])) .hp0 =
    [.frameDone 6 (.expired .window) none 0 0] := by decide +kernel

/-- R64: a HELD frame's expiry becomes the passed mark. -/
theorem test_held_expiry : ((after (.heldExpiryPassed 2) (atTime chained3 3500000)).desc 2).expiry = .passed := by
  decide +kernel

/-! ## Witnesses

For each statement with hypotheses, `witness_<its name>`: concrete states and operands that meet them, clause by clause, at
the ends of their ranges where a clause has a range. -/

theorem takes_iff (s : State) (p : Port) (fields : List Byte) :
    s.Takes p fields ↔ s.inReset = false ∧
      ((s.port p).link.state = .resting ∨ (s.port p).link.state = .answer ∨ (s.port p).link.state = .ignore) ∧
      fields.length ≤ 37 ∧ s.used p + s.reserved p < 24 :=
  ⟨fun h => ⟨h.running, h.settled, h.fits, h.room⟩, fun ⟨a, b, c, d⟩ => ⟨a, b, c, d⟩⟩

/-- R179: a request that HP0's link takes while HP0's session is OPEN. -/
def Asks (s : State) (fields : List Byte) : Prop := s.Takes .hp0 fields ∧ (s.port .hp0).session.state = .opened

theorem asks_iff (s : State) (fields : List Byte) :
    Asks s fields ↔ (s.inReset = false ∧ ((s.port .hp0).link.state = .resting ∨ (s.port .hp0).link.state = .answer ∨
      (s.port .hp0).link.state = .ignore) ∧ fields.length ≤ 37 ∧ s.used .hp0 + s.reserved .hp0 < 24) ∧
      (s.port .hp0).session.state = .opened := by rw [Asks, takes_iff]

/-- A state with HP0's queue holding so many entries. -/
def filled (s : State) (n : Nat) : State :=
  { s with ports := { s.ports with hp0 := { s.ports.hp0 with queue := { s.ports.hp0.queue with
    entries := List.replicate n (.sessionClosed .drain) } } } }

/-- RESETn low. -/
def low : State := { State.reset with inReset := true }

/-- The body of tag 7 in descriptor 5, at a place of the repetition. -/
def sending (h : Half) (pos ticks : Nat) : State :=
  onLine (sess .opened) 5 (reference .hp0 7) .body { activity := .sending, half := h, bitPos := pos, ticks := ticks }

/-- The preamble of tag 7, without a carrier. -/
def plainSending : State := onLine State.reset 5 { reference .hp0 7 with carrier := .off } .preamble { activity := .sending }

theorem witness_ResetHoldsThePart : low.inReset = true ∧ Instr.tick ≠ .chipReset ∧
    (∀ a b, Instr.tick ≠ .resetRelease a b) ∧ ∀ n l, Instr.tick ≠ .lsenseChange n l :=
  ⟨rfl, nofun, nofun, nofun⟩

theorem witness_ReleaseGivesResetValues : low.inReset = true ∧ (0 : BitVec 2) ≠ 3 := by decide

theorem witness_TickAdvances :
    (State.reset.inReset = false ∧ ¬ State.reset.InSession .hp0 ∧ (State.reset.port .hp0).strobe ≠ .high) ∧
    ((sess .opened).inReset = false ∧ (sess .opened).InSession .hp0 ∧ (((sess .opened).pulse .hp0).port .hp0).strobe = .high) := by
  simp only [State.InSession]
  and_intros <;> decide +kernel

/-- A half-cell of tag 7 under a carrier in the last cycles of its period. -/
def carrying (h : Half) (pos ticks : Nat) : State :=
  let s := sending h pos ticks
  { s with enc := { s.enc with carrierPhase := 620 } }

theorem witness_TickDrivesEncoder :
    (∀ s ∈ [sending .first 39 498, sending .first 39 499, sending .second 38 499, sending .second 39 499],
      s.inReset = false ∧ s.disp.slot = some 5 ∧ s.enc.activity = .sending ∧ s.echo.abortPending = false) ∧
    498 + 1 < (sending .first 39 498).prof.active.hbt ∧ 499 + 1 = (sending .first 39 499).prof.active.hbt ∧
    (38 + 1 ≠ ((sending .second 38 499).desc 5).preBits + ((sending .second 38 499).desc 5).bodyBits) ∧
    (39 + 1 = ((sending .second 39 499).desc 5).preBits + ((sending .second 39 499).desc 5).bodyBits) ∧
    (after .comparisonEvent checking).echo.abortPending = true ∧
    (onLine (sess .opened) 5 (reference .hp0 7) .gap { activity := .gap, ticks := 4999 }).disp.slot = some 5 ∧
    (∀ s ∈ [carrying .first 0 498, carrying .first 0 499, carrying .second 0 499],
      s.disp.slot = some 5 ∧ s.enc.level (s.desc 5) s.store.pool = .active ∧ (s.desc 5).carrier = .on ∧
        s.enc.carrierPhase < s.prof.active.carrierPeriod) ∧
    (after .tick (carrying .first 0 499)).enc.level ((carrying .first 0 499).desc 5) (carrying .first 0 499).store.pool =
      .active ∧
    (sending .second 38 499).enc.level ((sending .second 38 499).desc 5) (sending .second 38 499).store.pool = .quiet ∧
    (plainSending.desc 5).carrier = .off := by
  decide +kernel

/-- R105: the carrier phase counts on into the second half of a run, from 620 through 632 to 12. -/
theorem test_carrier_run : (after .tick (carrying .first 0 499)).enc.carrierPhase = 12 ∧
    (after .tick (carrying .first 0 499)).enc.half = .second := by decide +kernel

/-- A sample HIGH, the last one that the window of the next sample leaves out. -/
def quiet632 : State := { State.reset with echo := { sinceHigh := 631 } }

theorem witness_TickCountsQuiet :
    (quiet632.inReset = false ∧ quiet632.echo.tickQuiet = true ∧ quiet632.lsense = quiet632.prof.active.idleLevel ∧
      quiet632.echo.sync1 = quiet632.prof.active.idleLevel ∧ quiet632.echo.sync2 = quiet632.prof.active.idleLevel ∧
      quiet632.prof.active.carrierPeriod ≤ 1023 ∧
      quiet632.prof.active.carrierPeriod ≤ quiet632.echo.sinceOpposite quiet632.prof.active.idleLevel + 1) ∧
    ({ State.reset with echo := { tickQuiet := false } } : State).echo.tickQuiet = false ∧
    (let s : State := { State.reset with echo := { sinceHigh := 630 }, clock := { prescale := 23 } };
      s.clock.prescale < s.clock.divisor ∧ s.lsense = s.prof.active.idleLevel ∧
        s.echo.sinceOpposite s.prof.active.idleLevel + 1 < s.prof.active.carrierPeriod) ∧
    (let s : State := { State.reset with echo := { sync1 := .high, sync2 := .high }, clock := { prescale := 22 } };
      s.clock.prescale + 2 ≤ s.clock.divisor ∧ s.echo.sync1 ≠ s.prof.active.idleLevel ∧
        s.echo.sync2 ≠ s.prof.active.idleLevel) ∧
    (({ State.reset with lsense := .high, clock := { prescale := 21 } } : State).lsense ≠
        State.reset.prof.active.idleLevel ∧ 21 + 3 ≤ State.reset.clock.divisor ∧
      1 ≤ State.reset.prof.active.carrierPeriod) := by decide

theorem witness_LsenseChangeSetsPin : low.inReset = true ∧ State.reset.inReset = false := ⟨rfl, rfl⟩

theorem witness_BurstEndsAtIdleLevel : bursting.inReset = false ∧ bursting.carrierOn = true ∧ 0 < 10 ∧
    bursting.enc.carrierPhase + 10 = bursting.prof.active.burst ∧
    10 < bursting.clock.divisor - bursting.clock.prescale := by decide +kernel

/-- PCAPT of HP0 sampled LOW last. -/
def sampledLow : State := after (.captureEdge ⟨.hp0, [.low]⟩) State.reset

theorem witness_CaptureSlotWorks :
    (State.reset.inReset = false ∧ (State.reset.port .hp0).pcapt ≠ some .low ∧ State.reset.Takes .hp0 [] ∧
      State.reset.Takes .hp0 [0]) ∧
    (sampledLow.inReset = false ∧ (sampledLow.port .hp0).pcapt = some .low ∧
      (sampledLow.port .hp0).capture.full = false) ∧
    ((after (.captureEdge ⟨.hp0, [.high, .low]⟩) sampledLow).inReset = false ∧
      ((after (.captureEdge ⟨.hp0, [.high, .low]⟩) sampledLow).port .hp0).pcapt = some .low ∧
      ((after (.captureEdge ⟨.hp0, [.high, .low]⟩) sampledLow).port .hp0).capture.full = true ∧
      (after (.captureEdge ⟨.hp0, [.high, .low]⟩) sampledLow).Takes .hp0 []) := by
  simp only [takes_iff]
  and_intros <;> decide +kernel

theorem witness_QueryTimeAnswers : State.reset.Takes .hp3 [] ∧ State.reset.Takes .hp3 (List.replicate 37 0) ∧
    (filled State.reset 23).Takes .hp0 [] := by
  simp only [takes_iff]
  and_intros <;> decide +kernel

/-- HP0's claim, the line DISABLED, one frame with a start. -/
def timed1 : State := table (held .disabled) [(0, booked (reference .hp0 7) 2000000 86000)]

theorem witness_SetTimeChecksAndSets :
    (State.reset.Takes .hp0 [] ∧ ¬ State.reset.InSession .hp0) ∧
    (Asks (sess .opened) [0, 0, 1] ∧ Asks (sess .opened) [0, 0, 1, 0, 0]) ∧
    (Asks (sess .opened) (timeBytes 256) ∧ (sess .opened).prof.holder ≠ some .hp0) ∧
    (Asks (held .idle) (timeBytes 256) ∧ (held .idle).prof.holder = some .hp0 ∧ (held .idle).disp.line ≠ .disabled) ∧
    (Asks timed1 (timeBytes 256) ∧ timed1.prof.holder = some .hp0 ∧ timed1.disp.line = .disabled) ∧
    (Asks (held .disabled) (timeBytes 256) ∧ (held .disabled).prof.holder = some .hp0 ∧
      (held .disabled).disp.line = .disabled) := by
  simp only [takes_iff, asks_iff, State.InSession]
  and_intros <;> decide +kernel

/-- R10: in `timed1` the frame with a start is the one that carries a time, and in the state after reset none does. -/
theorem witness_SetTimeChecksAndSets_carrying : ([0] : List DescIdx).Nodup ∧
    (∀ d, d ∈ ([0] : List DescIdx) ↔ (timed1.desc d).Carries) ∧
    ∀ d, d ∈ ([] : List DescIdx) ↔ ((held .disabled).desc d).Carries := by
  have idle : ∀ x : Desc, x.state = .free ∨ x.state = .loading → ¬ x.Carries := fun x h => by
    rcases h with h | h <;> simp [Desc.Carries, h]
  have h0 : (timed1.desc 0).state = .waiting ∧ (timed1.desc 0).cls = .timed := by decide +kernel
  have h1 : ∀ d : DescIdx, d ≠ 0 → (timed1.desc d).state = .free := by decide +kernel
  have h2 : ∀ d : DescIdx, ((held .disabled).desc d).state = .free := by decide +kernel
  refine ⟨by decide, fun d => ⟨fun h => ?_, fun h => ?_⟩, fun d => ⟨nofun, fun h => absurd h (idle _ (.inl (h2 d)))⟩⟩
  · rw [List.mem_singleton.1 h]
    exact .inl h0
  · by_cases hd : d = 0
    · simp [hd]
    · exact absurd h (idle _ (.inl (h1 d hd)))

/-- 2.11: the shape of tag 8. -/
def tag8 : Shape :=
  { tag := 8, cls := .asap, bodyBits := 203, preBits := 0, coding := .nrz, carrier := .on, reps := 1, gap := 0
    priority := 1, strobeStart := false, strobeEnd := false }

/-- A table with so many LOADING frames of a port, tags from 20 on. -/
def crowded (s : State) (p : Port) (n : Nat) : State :=
  table s ((allDescs.take n).map fun d => (d, { reference p (byteOf (20 + d.val)) with segs := [] }))

/-- The table with tag 7 holding so many segments. -/
def holding (p : Port) (n : Nat) : State :=
  table (sess .opened) [(0, { reference p 7 with segs := (List.finRange 192).take n })]

theorem witness_LoadBeginChecksAndAllocates :
    (State.reset.Takes .hp0 [] ∧ ¬ State.reset.InSession .hp0) ∧
    ((sess .closing).Takes .hp0 [] ∧ ((sess .closing).port .hp0).session.state = .closing) ∧
    (Asks (sess .opened) [] ∧ ∀ x : Shape, x.inRange = true → ([] : List Byte) ≠ x.bytes) ∧ tag8.inRange = true ∧
    (Asks (table (sess .opened) [(6, reference .hp0 8)]) tag8.bytes ∧
      ¬ (table (sess .opened) [(6, reference .hp0 8)]).NamesNone .hp0 tag8.tag) ∧
    (Asks (crowded (sess .opened) .hp0 16) tag8.bytes ∧ (crowded (sess .opened) .hp0 16).NamesNone .hp0 8 ∧
      16 ≤ (crowded (sess .opened) .hp0 16).liveCount .hp0) ∧
    (Asks (holding .hp0 95) tag8.bytes ∧ (holding .hp0 95).NamesNone .hp0 8 ∧
      96 < (holding .hp0 95).heldCount .hp0 + segmentsFor tag8.bodyBits) ∧
    (Asks (crowded (sess .opened) .hp1 48) tag8.bytes ∧ (crowded (sess .opened) .hp1 48).NamesNone .hp0 8 ∧
      (crowded (sess .opened) .hp1 48).liveCount .hp0 < 16 ∧
      ∀ d, ((crowded (sess .opened) .hp1 48).desc d).live = true) ∧
    (Asks (holding .hp1 191) tag8.bytes ∧ (holding .hp1 191).NamesNone .hp0 8 ∧ (holding .hp1 191).liveCount .hp0 < 16 ∧
      ((holding .hp1 191).desc 1).live = false ∧ (∀ e, e < 1 → ((holding .hp1 191).desc e).live = true) ∧
      (holding .hp1 191).freeSegs.length < segmentsFor tag8.bodyBits) ∧
    (Asks (filled (sess .opened) 22) tag8.bytes ∧ (filled (sess .opened) 22).NamesNone .hp0 8 ∧
      ((filled (sess .opened) 22).desc 0).live = false ∧
      24 < (filled (sess .opened) 22).used .hp0 + (filled (sess .opened) 22).reserved .hp0 + 2) ∧
    (Asks (holding .hp0 94) tag8.bytes ∧ (holding .hp0 94).NamesNone .hp0 8 ∧ (holding .hp0 94).liveCount .hp0 < 16 ∧
      (holding .hp0 94).heldCount .hp0 + segmentsFor tag8.bodyBits ≤ 96 ∧
      ((holding .hp0 94).desc 1).live = false ∧ (∀ e, e < 1 → ((holding .hp0 94).desc e).live = true) ∧
      segmentsFor tag8.bodyBits ≤ (holding .hp0 94).freeSegs.length ∧
      (holding .hp0 94).used .hp0 + (holding .hp0 94).reserved .hp0 + 2 ≤ 24) := by
  refine ⟨?_, ?_, ⟨?_, fun x _ => by simp [Shape.bytes]⟩, ?_⟩ <;>
    simp only [takes_iff, asks_iff, State.InSession, State.NamesNone] <;> and_intros <;> decide +kernel

/-- 2.11: tag 8 LOADING with 24 of its 26 bytes. -/
def loading8 : State := table (sess .opened) [(6, { reference .hp0 8 with bodyBits := 203, fill := 24, segs := [1, 5] })]

theorem witness_LoadDataChecksAndWrites :
    (State.reset.Takes .hp0 [8, 24, 0] ∧ ¬ State.reset.InSession .hp0) ∧ Asks loading8 [8, 24] ∧
    (Asks loading8 (8 :: 24 :: List.replicate 25 0) ∧ Asks loading8 [8, 128, 0] ∧ 127 < (128 : Byte).toNat) ∧
    (Asks loading8 [9, 24, 0] ∧ loading8.NamesNone .hp0 9) ∧
    (Asks chained3 [3, 4, 0] ∧ chained3.Names .hp0 3 0 ∧ (chained3.desc 0).state ≠ .loading) ∧
    (loading8.Names .hp0 8 6 ∧ (loading8.desc 6).state = .loading) ∧
    (Asks loading8 [8, 25, 0] ∧ (25 : Byte).toNat ≠ (loading8.desc 6).fill) ∧
    (Asks loading8 [8, 24, 0, 0, 0] ∧ (24 : Byte).toNat = (loading8.desc 6).fill ∧ (loading8.desc 6).bodyBytes < 24 + 3) ∧
    (Asks loading8 [8, 24, 0xAA, 0xBB] ∧ 24 + 2 ≤ (loading8.desc 6).bodyBytes ∧ (loading8.desc 6).segs.Nodup ∧
      (loading8.desc 6).segs.length = segmentsFor (loading8.desc 6).bodyBits ∧ loading8.PoolSound) := by
  simp only [takes_iff, asks_iff, State.InSession, State.NamesNone, State.Names, State.PoolSound]
  and_intros <;> decide +kernel

theorem witness_QueryFrameAnswers :
    (State.reset.Takes .hp0 [8, 0] ∧ ¬ State.reset.InSession .hp0) ∧
    (Asks loading8 [8, 2] ∧ ∀ ftag : Byte, ([8, 2] : List Byte) ≠ [ftag, 0] ∧ ([8, 2] : List Byte) ≠ [ftag, 1]) ∧
    (Asks loading8 [9, 0] ∧ loading8.NamesNone .hp0 9) ∧
    (Asks loading8 [8, 0] ∧ Asks loading8 [8, 1] ∧ loading8.Names .hp0 8 6) := by
  refine ⟨?_, ⟨?_, by simp⟩, ?_⟩ <;>
    simp only [takes_iff, asks_iff, State.InSession, State.NamesNone, State.Names] <;> and_intros <;> decide +kernel

theorem witness_ChainRetiresWhole : chained3.ChainFrom .hp0 0 [1, 2] ∧ FrameOutcome.cancelled.releases = false ∧
    FrameOutcome.purged.releases = false ∧ (chained3.port .hp0).session.state ≠ .closing := by
  simp only [State.ChainFrom]
  and_intros <;> decide +kernel

/-- `chained3`, the second frame with an expiry, HP0's session in a state. -/
def chained2 (st : SessionState) (e : Expiry) : State :=
  { chained3.modDesc 1 fun x => { x with expiry := e } with ports := (sess st).ports }

theorem witness_SentReleasesSuccessor : FrameOutcome.sent.releases = true ∧
    (∀ st ∈ [SessionState.opened, .closing], ∀ e ∈ [Expiry.absent, .at 3000001, .at 3000000, .passed],
      (chained2 st e).ChainFrom .hp0 0 [1, 2]) ∧
    ((chained2 .opened (.at 3000001)).desc 1).expiry.open_ (chained2 .opened (.at 3000001)).clock.time = true ∧
    ((chained2 .closing (.at 3000000)).desc 1).expiry.open_ (chained2 .closing (.at 3000000)).clock.time = false := by
  simp only [State.ChainFrom]
  and_intros <;> decide +kernel

theorem witness_CancelWithdraws :
    (State.reset.Takes .hp0 [3] ∧ ¬ State.reset.InSession .hp0) ∧ (Asks chained3 [] ∧ Asks chained3 [3, 3]) ∧
    (Asks chained3 [9] ∧ chained3.NamesNone .hp0 9) ∧
    (Asks chained3 [3] ∧ chained3.Names .hp0 3 0 ∧ (chained3.desc 0).state ≠ .onLine ∧ chained3.ChainFrom .hp0 0 [1, 2]) ∧
    (Asks bookedHour [7] ∧ bookedHour.Names .hp0 7 0 ∧ bookedHour.ChainFrom .hp0 0 []) := by
  simp only [takes_iff, asks_iff, State.InSession, State.NamesNone, State.Names, State.ChainFrom]
  and_intros <;> decide +kernel

/-- Tag 7 on the line in its body, with repetitions sent so far. -/
def sent (n : Nat) : State := (sending .first 9 0).modDesc 5 fun x => { x with repsSent := n }

theorem witness_CancelOnLine :
    (∀ n ∈ [0, 1], Asks (sent n) [7] ∧ (sent n).Names .hp0 7 5 ∧ ((sent n).desc 5).state = .onLine) ∧
    ((sent 0).desc 5).repsSent + 1 < ((sent 0).desc 5).reps ∧
    ((sent 1).disp.phase ≠ some .gap ∧ ((sent 1).desc 5).reps ≤ ((sent 1).desc 5).repsSent + 1) := by
  simp only [asks_iff, State.Names]
  and_intros <;> decide +kernel

/-- A SUBMIT of tag 1 for a start. -/
def startAt (t : Time) : Timing := { tag := 1, start := some t }

/-- So many ticks after `bookedHour`. -/
def later (a : Nat) : Time := plus 1900000 a

theorem clear_of (l : List (Time × Time)) (a b : Time) (h : (l.all fun i => !overlap a b i.1 i.2) = true) :
    ∀ i ∈ l, overlap a b i.1 i.2 = false := by simpa using h

theorem clear_bookedHour : ∀ i ∈ bookedHour.standing,
    overlap 2086000 (plus 2086000 ((bookedHour.desc 1).reservation bookedHour.prof.active)) i.1 i.2 = false :=
  clear_of _ _ _ (by decide +kernel)

theorem startAt_inRange (t : Time) : (startAt t).inRange := ⟨nofun, nofun⟩

theorem witness_SubmitTimedChecksAndAdmits :
    (State.reset.Takes .hp0 [] ∧ ¬ State.reset.InSession .hp0) ∧
    ((sess .closing).Takes .hp0 [] ∧ ((sess .closing).port .hp0).session.state = .closing) ∧
    (Asks bookedHour [] ∧ ∀ x : Timing, x.inRange → ([] : List Byte) ≠ x.bytes) ∧
    (∀ t : Time, (startAt t).inRange ∧ (startAt t).start = some t) ∧
    (Asks (sess .opened) (startAt 0).bytes ∧ (sess .opened).NamesNone .hp0 1) ∧
    (Asks chained3 (startAt 0).bytes ∧ (table chained3 [(3, booked (reference .hp0 1) 0 0)]).Names .hp0 1 3 ∧
      ((table chained3 [(3, booked (reference .hp0 1) 0 0)]).desc 3).state ≠ .loading) ∧
    (bookedHour.Names .hp0 1 1 ∧ (bookedHour.desc 1).state = .loading ∧ (bookedHour.desc 1).cls = .timed ∧
      (startAt 0).fits .timed = true ∧ ({ tag := 1 } : Timing).fits .timed = false ∧
      (bookedHour.desc 1).bodyBytes ≤ (bookedHour.desc 1).fill) ∧
    ((loading8.desc 6).fill < (loading8.desc 6).bodyBytes ∧ (startAt 0).fits (loading8.desc 6).cls = true) ∧
    ((Asks bookedHour (startAt (later 31)).bytes ∧ (later 31 - bookedHour.clock.time).toNat < 32) ∧
      (Asks bookedHour (startAt (later 2147483649)).bytes ∧
        2147483648 < (later 2147483649 - bookedHour.clock.time).toNat) ∧
      1073741824 < (later 1073741825 - bookedHour.clock.time).toNat ∧
      (later 2147483648 - bookedHour.clock.time).toNat ≤ 2147483648) ∧
    (bookedHour.standing = [] ++ (2000000, 2086000) :: [] ∧
      overlap 2085999 (plus 2085999 ((bookedHour.desc 1).reservation bookedHour.prof.active)) 2000000 2086000 = true) ∧
    (Asks bookedHour (startAt 2086000).bytes ∧ (later 186000 : Time) = 2086000 ∧
      32 ≤ (later 186000 - bookedHour.clock.time).toNat ∧ (later 1073741824 - bookedHour.clock.time).toNat ≤ 1073741824 ∧
      ∀ i ∈ bookedHour.standing,
        overlap 2086000 (plus 2086000 ((bookedHour.desc 1).reservation bookedHour.prof.active)) i.1 i.2 = false) := by
  refine ⟨?_, ?_, ⟨?_, fun x _ => by simp [Timing.bytes]⟩, fun t => ⟨startAt_inRange t, rfl⟩, ?_⟩ <;>
    simp only [takes_iff, asks_iff, State.InSession, State.NamesNone, State.Names] <;> and_intros <;>
      first | exact clear_bookedHour | decide +kernel

/-- A SUBMIT of tag 1 behind not_before and expiry. -/
def asap1 (n e : Option Time) : Timing := { tag := 1, notBefore := n, expiry := e }

/-- Tag 1 of HP0 loaded whole, of a class, at a time. -/
def loaded (c : FrameClass) : State := atTime (table chained3 [(4, { reference .hp0 1 with cls := c, priority := some 1 })]) 3000000

theorem witness_SubmitAsapChecksAndAdmits :
    (∀ n e, (asap1 n e).inRange ∧ (asap1 n e).fits .asap = true) ∧
    (Asks (loaded .asap) (asap1 (some 0) (some 1)).bytes ∧ (loaded .asap).Names .hp0 1 4 ∧
      ((loaded .asap).desc 4).state = .loading ∧ ((loaded .asap).desc 4).cls = .asap ∧
      ((loaded .asap).desc 4).bodyBytes ≤ ((loaded .asap).desc 4).fill) ∧
    (1073741824 < (plus 3000000 1073741825 - (loaded .asap).clock.time).toNat ∧
      (plus 3000000 1073741825 - (loaded .asap).clock.time).toNat ≤ 2147483648) ∧
    2147483648 < (plus 3000000 2147483649 - (loaded .asap).clock.time).toNat ∧
    (before 3000001 3000001 = false ∧ before 3000000 3000001 = true ∧
      (3000001 - (loaded .asap).clock.time).toNat ≤ 1073741824) := by
  refine ⟨fun n e => ⟨⟨nofun, nofun⟩, rfl⟩, ?_⟩
  simp only [asks_iff, State.Names]
  and_intros <;> decide +kernel

/-- A SUBMIT of tag 1 behind a predecessor. -/
def behind (pred : Byte) (e : Option Time) : Timing := { tag := 1, pred := some pred, offset := some 65535, expiry := e }

theorem witness_SubmitChainedChecksAndAdmits :
    (∀ pred e, (behind pred e).inRange ∧ (behind pred e).fits .chained = true ∧ (behind pred e).pred = some pred) ∧
    (Asks (loaded .chained) (behind 9 (some 0)).bytes ∧ (loaded .chained).Names .hp0 1 4 ∧
      ((loaded .chained).desc 4).state = .loading ∧ ((loaded .chained).desc 4).cls = .chained ∧
      ((loaded .chained).desc 4).bodyBytes ≤ ((loaded .chained).desc 4).fill) ∧
    ((loaded .chained).NamesNone .hp0 9 ∧ (loaded .chained).ChainFrom .hp0 4 [] ∧
      (loaded .chained).Names .hp0 5 2 ∧ ((loaded .chained).desc 2).successor = none ∧
      (loaded .chained).Names .hp0 3 0 ∧ ((loaded .chained).desc 0).successor = some 1) ∧
    (1073741824 < (plus 3000000 1073741825 - (loaded .chained).clock.time).toNat ∧
      (plus 3000000 2147483648 - (loaded .chained).clock.time).toNat ≤ 2147483648 ∧
      2147483648 < (plus 3000000 2147483649 - (loaded .chained).clock.time).toNat ∧
      (plus 3000000 1073741824 - (loaded .chained).clock.time).toNat ≤ 1073741824) := by
  refine ⟨fun pred e => ⟨⟨nofun, by rintro v ⟨⟩; decide⟩, rfl, rfl⟩, ?_⟩
  simp only [asks_iff, State.Names, State.NamesNone, State.ChainFrom]
  and_intros <;> decide +kernel

theorem short_of (l : List (Time × Time)) (h : (l.all fun i => decide ((i.2 - i.1).toNat ≤ 2 ^ 30)) = true) :
    ∀ i ∈ l, (i.2 - i.1).toNat ≤ 2 ^ 30 := by simpa using h

theorem witness_QueryFreeFindsRoom :
    (State.reset.Takes .hp0 [] ∧ ¬ State.reset.InSession .hp0) ∧ Asks bookedHour (List.replicate 7 0) ∧
    (Asks bookedHour (timeBytes 0 ++ be32 0) ∧ Asks bookedHour (timeBytes 0 ++ be32 72224753) ∧ 72224753 < 2 ^ 32) ∧
    (Asks bookedHour (timeBytes (later 1073741825) ++ be32 1) ∧ 1073741824 < (later 1073741825 - bookedHour.clock.time).toNat ∧
      (later 2147483648 - bookedHour.clock.time).toNat ≤ 2147483648) ∧
    (Asks bookedHour (timeBytes (later 32) ++ be32 72224752) ∧
      ¬ (1073741824 < (later 32 - bookedHour.clock.time).toNat ∧ (later 32 - bookedHour.clock.time).toNat ≤ 2147483648)) ∧
    (Asks bookedHour (timeBytes (later 32) ++ be32 99968) ∧
      ∀ i ∈ bookedHour.standing, overlap (later 32) (plus (later 32) 99968) i.1 i.2 = false) ∧
    ∀ i ∈ bookedHour.standing, (i.2 - i.1).toNat ≤ 2 ^ 30 := by
  refine ⟨?_, ?_, ?_, ?_, ?_, ⟨?_, clear_of _ _ _ (by decide +kernel)⟩, short_of _ (by decide +kernel)⟩ <;>
    simp only [takes_iff, asks_iff, State.InSession] <;> and_intros <;> decide +kernel

/-- Tag 6 of HP0 queued, with a not_before or an expiry. -/
def queued6 (n : Option Time) (e : Expiry) : State :=
  atTime (table State.reset [(1, { reference .hp0 6 with state := .waiting, cls := .asap, notBefore := n, expiry := e })]) 100

theorem witness_WaitingFramesExpire :
    ((outage 4030001).inReset = false ∧ (outage 4030001).ChainFrom .hp1 0 [] ∧ ((outage 4030001).desc 0).state = .waiting ∧
      ((outage 4030001).desc 0).cls = .timed ∧ ((outage 4030001).desc 0).start = some 4000000 ∧
      before (plus 4000000 (((outage 4030001).desc 0).slip.getD 0)) (outage 4030001).clock.time = true) ∧
    ((queued6 none (.at 100)).inReset = false ∧ (queued6 none (.at 100)).ChainFrom .hp0 1 [] ∧
      ((queued6 none (.at 100)).desc 1).state = .waiting ∧ ((queued6 none (.at 100)).desc 1).cls ≠ .timed ∧
      ((queued6 none (.at 100)).desc 1).expiry = .at 100 ∧ reached 100 (queued6 none (.at 100)).clock.time = true) := by
  simp only [State.ChainFrom]
  and_intros <;> decide +kernel

theorem witness_StoredTimesMarkFrames :
    ((atTime chained3 3500000).inReset = false ∧ ((atTime chained3 3500000).desc 2).state = .held ∧
      ((atTime chained3 3500000).desc 2).expiry = .at 3500000 ∧ reached 3500000 (atTime chained3 3500000).clock.time = true) ∧
    ((queued6 (some 100) .absent).inReset = false ∧ ((queued6 (some 100) .absent).desc 1).state = .waiting ∧
      ((queued6 (some 100) .absent).desc 1).cls ≠ .timed ∧ ((queued6 (some 100) .absent).desc 1).eligible = false ∧
      ((queued6 (some 100) .absent).desc 1).notBefore = some 100 ∧ reached 100 (queued6 (some 100) .absent).clock.time = true) := by
  decide +kernel

/-- A state under COUNT with the default QUIET of 16, and a quiet run. -/
def listening (s : State) (run : Nat) : State :=
  { s with prof := { s.prof with active := { echoMode := .count } }, echo := { s.echo with quietRun := run } }

theorem witness_TimedFrameStarts :
    (∀ run ∈ [15, 16], (listening (atTime firstFit 520000) run).inReset = false ∧
      (listening (atTime firstFit 520000) run).disp.line = .idle ∧
      (listening (atTime firstFit 520000) run).sched.timed = 0 :: [] ∧
      ((listening (atTime firstFit 520000) run).desc 0).start = some (listening (atTime firstFit 520000) run).clock.time) ∧
    ¬ (listening (atTime firstFit 520000) 15).Quiet 16 ∧ (listening (atTime firstFit 520000) 16).Quiet 16 ∧
    (atTime firstFit 520000).Quiet (atTime firstFit 520000).prof.active.quiet := by
  simp only [State.Quiet]
  and_intros <;> decide +kernel

/-- The parts of ScheduleSound, each decided over the table. -/
theorem scheduleSound_of {s : State}
    (h : (∀ d, d ∈ s.sched.timed ↔ (s.desc d).state = .waiting ∧ (s.desc d).cls = .timed) ∧
      (∀ d, d ∈ s.sched.asap.order ↔ (s.desc d).state = .waiting ∧ (s.desc d).cls ≠ .timed) ∧
      s.sched.timed.Nodup ∧ s.sched.asap.order.Nodup ∧ (∀ d, (s.desc d).state = .held → (s.desc d).cls = .chained) ∧
      (∀ d ∈ s.sched.timed, (s.desc d).start.isSome = true ∧ (s.desc d).resStart = (s.desc d).start ∧
        (s.desc d).resEnd.isSome = true) ∧
      ∀ d, (s.desc d).live = true → (s.desc d).owner = none → (s.desc d).state = .onLine) : s.ScheduleSound where
  timed := h.1
  queued := h.2.1
  timedOnce := h.2.2.1
  queuedOnce := h.2.2.2.1
  held := h.2.2.2.2.1
  starts d hd := by
    obtain ⟨h1, h2, h3⟩ := h.2.2.2.2.2.1 d hd
    obtain ⟨a, ha⟩ := Option.isSome_iff_exists.1 h1
    obtain ⟨b, hb⟩ := Option.isSome_iff_exists.1 h3
    exact ⟨a, b, ha, h2.trans ha, hb⟩
  owned := h.2.2.2.2.2.2

theorem lineSound_of {s : State}
    (h : (s.disp.phase.isSome = true ↔ s.disp.line = .busy ∨ s.disp.line = .draining) ∧
      (s.disp.slot.isSome = true ↔
        s.disp.phase = some .preamble ∨ s.disp.phase = some .body ∨ s.disp.phase = some .gap) ∧
      (∀ d, (s.desc d).state = .onLine ↔ s.disp.slot = some d) ∧
      (s.enc.activity = .resting ↔ s.disp.slot = none) ∧ (s.enc.activity = .gap ↔ s.disp.phase = some .gap)) :
    s.LineSound := ⟨h.1, h.2.1, h.2.2.1, h.2.2.2.1, h.2.2.2.2⟩

/-- A state in which every link goes from a lower table number to a higher one. -/
theorem chainsSound_of {s : State}
    (h : (∀ d, ((s.desc d).successor.all fun e => (s.desc d).live && decide ((s.desc e).state = .held) &&
        decide ((s.desc e).owner = (s.desc d).owner) && decide (d < e) && decide (s.predOf e = some d)) = true) ∧
      ∀ e, (s.desc e).state = .held → (s.predOf e).isSome = true) : s.ChainsSound := by
  have key : ∀ d e, (s.desc d).successor = some e → (((s.desc d).live = true ∧ (s.desc e).state = .held) ∧
      (s.desc e).owner = (s.desc d).owner) ∧ d < e ∧ s.predOf e = some d := fun d e hd => by
    simpa [hd, and_assoc] using h.1 d
  refine ⟨fun d e hd => ?_, fun d d' e hd hd' => ?_, fun e he => ?_, fun d => d.val, fun d e hd => (key d e hd).2.1⟩
  · exact ⟨(key d e hd).1.1.1, (key d e hd).1.1.2, (key d e hd).1.2⟩
  · exact Option.some.inj ((key d e hd).2.2.symm.trans (key d' e hd').2.2)
  · obtain ⟨d, hd⟩ := Option.isSome_iff_exists.1 (h.2 e he)
    exact ⟨d, by simpa using List.find?_some hd⟩

theorem profileSound_of {s : State}
    (h : (∀ p ∈ allPorts, s.prof.holder = some p → (s.port p).session.state = .opened) ∧
      s.prof.staged.isSome = s.prof.holder.isSome ∧
      (∀ f ∈ allProfileFields, f.inRange (s.prof.active.field f) = true) ∧
      ∀ f ∈ allProfileFields, (s.prof.staged.all fun w => f.inRange (w.field f)) = true) : s.ProfileSound where
  opened p := h.1 p (by cases p <;> decide)
  present := h.2.1
  active f := h.2.2.1 f (by cases f <;> decide)
  staged w hw f := by simpa [hw] using h.2.2.2 f (by cases f <;> decide)

/-- 4.12: the list with the line back in IDLE. -/
def recovered (t : Time) : State := let s := outage t; { s with disp := { s.disp with line := .idle } }

/-- 4.12 case 3: X gone. -/
def recoveredY : State := (recovered 4090000).retireNow 0 (.expired .window) 4090000 none

theorem witness_LateFrameStartsOrExpires :
    (recoveredY.ScheduleSound ∧ recoveredY.disp.line = .idle ∧ recoveredY.sched.timed = 1 :: [2] ∧
      (recoveredY.desc 1).start = some 4086000 ∧ before 4086000 recoveredY.clock.time = true ∧
      before (plus 4086000 ((recoveredY.desc 1).slip.getD 0)) recoveredY.clock.time = false ∧
      (recoveredY.desc 2).start = some 4200000 ∧
      before 4200000 (plus recoveredY.clock.time ((recoveredY.desc 1).reservation recoveredY.prof.active)) = false ∧
      recoveredY.Quiet recoveredY.prof.active.quiet ∧ ¬ (listening recoveredY 15).Quiet 16) ∧
    ((recovered 4010000).ScheduleSound ∧ (recovered 4010000).sched.timed = 0 :: [1, 2] ∧
      ((recovered 4010000).desc 0).start = some 4000000 ∧ before 4000000 (recovered 4010000).clock.time = true ∧
      before (plus 4000000 (((recovered 4010000).desc 0).slip.getD 0)) (recovered 4010000).clock.time = false ∧
      ((recovered 4010000).desc 1).start = some 4086000 ∧ before 4086000
        (plus (recovered 4010000).clock.time (((recovered 4010000).desc 0).reservation (recovered 4010000).prof.active)) = true) ∧
    ((recovered 4030001).ScheduleSound ∧
      before (plus 4000000 (((recovered 4030001).desc 0).slip.getD 0)) (recovered 4030001).clock.time = true) := by
  simp only [State.Quiet]
  refine ⟨⟨scheduleSound_of ?_, ?_⟩, ⟨scheduleSound_of ?_, ?_⟩, scheduleSound_of ?_, ?_⟩ <;> and_intros <;> decide +kernel

theorem witness_AsapFirstFitWalk :
    (firstFit.disp.line = .idle ∧ firstFit.sched.asap.order = 1 :: [2, 3] ∧ firstFit.sched.asap.order.Nodup ∧
      firstFit.nextListed = some 520000 ∧ before firstFit.clock.time 520000 = true) ∧
    (((firstFit.desc 1).eligible = true ∧
        before 520000 (plus firstFit.clock.time ((firstFit.desc 1).reservation firstFit.prof.active)) = true ∧
        (firstFit.desc 1).bypass = 7) ∧
      ((firstFit.desc 2).eligible = true ∧
        before 520000 (plus firstFit.clock.time ((firstFit.desc 2).reservation firstFit.prof.active)) = false) ∧
      firstFit.Quiet firstFit.prof.active.quiet ∧ ¬ (listening firstFit 15).Quiet 16) ∧
    (∀ d ∈ [1, 2], before 520000 (plus 517000 ((firstFit.desc d).reservation firstFit.prof.active)) = true ∧
      (firstFit.desc d).bypass < 8) ∧
    ((firstFit.modDesc 1 fun x => { x with bypass := 8 }).desc 1).bypass = 8 := by
  simp only [State.Quiet]
  and_intros <;> decide +kernel

/-- What the first checks of a holder's command without fields ask of a state (HolderChecked). -/
def HolderWitness : Prop :=
  (State.reset.Takes .hp0 [] ∧ ¬ State.reset.InSession .hp0) ∧ Asks (sess .opened) [0] ∧
    (Asks (sess .opened) [] ∧ (sess .opened).prof.holder ≠ some .hp0) ∧
    ∀ l ∈ [LineState.disabled, .idle, .busy, .draining, .fault], Asks (held l) [] ∧ (held l).prof.holder = some .hp0 ∧
      (held l).disp.line = l

theorem holderWitness : HolderWitness := by
  simp only [HolderWitness, takes_iff, asks_iff, State.InSession]
  and_intros <;> decide +kernel

theorem witness_LineEnableActs : HolderWitness := holderWitness

theorem witness_LineDisableActs : HolderWitness := holderWitness

/-- Tag 7 on the line with the list of `outage` behind it. -/
def busyList : State := onLine (outage 3990000) 5 (reference .hp0 7) .body { activity := .sending }

theorem witness_QueryLineAnswers : State.reset.Takes .hp0 [0] ∧
    (State.reset.Takes .hp0 [] ∧ State.reset.disp.slot = none ∧ State.reset.disp.phase ≠ some .guard ∧
      State.reset.sched.timed = []) ∧
    (busyList.Takes .hp0 [] ∧ busyList.disp.slot = some 5 ∧ (busyList.desc 5).owner = some .hp0 ∧
      busyList.sched.timed = 0 :: [1, 2] ∧ (busyList.desc 0).start = some 4000000) ∧
    ((after .bodyEnd lastBody).Takes .hp0 [] ∧ (after .bodyEnd lastBody).disp.phase = some .guard) := by
  simp only [takes_iff]
  and_intros <;> decide +kernel

/-- `lastBody` before its last repetition, with a gap length. -/
def body1 (gap : Nat) : State := lastBody.modDesc 5 fun x => { x with repsSent := 0, gap := gap }

/-- Tag 7 at the end of its gap. -/
def gap1 : State := onLine (sess .opened) 5 { reference .hp0 7 with repsSent := 1 } .gap { activity := .gap, repetition := 1, ticks := 5000 }

theorem witness_SpansFollow :
    (let s := onLine State.reset 5 (reference .hp0 7) .preamble { activity := .sending, bitPos := 8 };
      s.inReset = false ∧ s.disp.slot = some 5 ∧ s.disp.phase = some .preamble ∧ s.enc.activity = .sending ∧
        (s.desc 5).preBits ≤ s.enc.bitPos) ∧
    (∀ g ∈ [0, 5000], (body1 g).inReset = false ∧ (body1 g).disp.slot = some 5 ∧ (body1 g).disp.phase = some .body ∧
      (body1 g).enc.activity = .sending ∧ (body1 g).prof.active.hbt ≤ (body1 g).enc.ticks ∧
      (body1 g).enc.bitPos + 1 = ((body1 g).desc 5).preBits + ((body1 g).desc 5).bodyBits ∧
      (body1 g).enc.half = .second ∧ (body1 g).echo.abortPending = false ∧ ((body1 g).desc 5).truncate = false ∧
      ((body1 g).desc 5).repsSent + 1 < ((body1 g).desc 5).reps ∧ ((body1 g).desc 5).gap = g) ∧
    (gap1.inReset = false ∧ gap1.disp.slot = some 5 ∧ gap1.disp.phase = some .gap ∧ gap1.enc.activity = .gap ∧
      (gap1.desc 5).gap ≤ gap1.enc.ticks ∧ (gap1.desc 5).truncate = false ∧
      gap1.Quiet (min gap1.prof.active.quiet (gap1.desc 5).gap) ∧
      ¬ (listening gap1 15).Quiet (min gap1.prof.active.quiet (gap1.desc 5).gap) ∧
      (listening gap1 15).ChainFrom .hp0 5 []) := by
  simp only [State.Quiet, State.ChainFrom]
  and_intros <;> decide +kernel

/-- A frame at its end, its owner taken away. -/
def orphan : State := lastBody.modDesc 5 fun x => { x with owner := none, truncate := true }

/-- `lastBody` with a HELD frame behind it. -/
def leading (e : Expiry) : State :=
  table (lastBody.modDesc 5 fun x => { x with successor := some 6 })
    [(6, { reference .hp0 8 with state := .held, cls := .chained, offset := some 0, expiry := e })]

/-- R62: the SENT_LATE frame of `leading` releases the frame behind it, with no other notice than its own. -/
theorem test_release_at_end : ((after .bodyEnd (leading .absent)).desc 6).state = .waiting ∧
    (after .bodyEnd (leading .absent)).sched.asap.order = [6] ∧
    entries (after .bodyEnd (leading .absent)) .hp0 = [.frameDone 7 (.sentLate 40) (some (2000040, 2085040)) 2 0] := by
  decide +kernel

theorem witness_FrameEnds :
    (lastBody.inReset = false ∧ lastBody.disp.slot = some 5 ∧ lastBody.disp.phase = some .body ∧
      lastBody.enc.activity = .sending ∧ lastBody.prof.active.hbt ≤ lastBody.enc.ticks ∧
      lastBody.enc.bitPos + 1 = (lastBody.desc 5).preBits + (lastBody.desc 5).bodyBits ∧ lastBody.enc.half = .second ∧
      lastBody.echo.abortPending = false ∧ (lastBody.desc 5).reps ≤ (lastBody.desc 5).repsSent + 1 ∧
      ({ lastBody.desc 5 with repsSent := (lastBody.desc 5).repsSent + 1 } : Desc).EndsWith (.sentLate 40) ∧
      lastBody.ChainFrom .hp0 5 []) ∧
    (let s := gap1.modDesc 5 fun x => { x with truncate := true };
      s.disp.slot = some 5 ∧ s.disp.phase = some .gap ∧ s.enc.activity = .gap ∧ (s.desc 5).gap ≤ s.enc.ticks ∧
        (s.desc 5).truncate = true ∧ (s.desc 5).EndsWith .truncated ∧ s.ChainFrom .hp0 5 []) ∧
    (beforeLapse.disp.slot = some 2 ∧ beforeLapse.ChainFrom .hp3 2 [15] ∧
      ({ beforeLapse.desc 2 with repsSent := 1, truncate := true } : Desc).EndsWith .truncated) ∧
    ((orphan.desc 5).live = true ∧ (orphan.desc 5).owner = none ∧ (orphan.desc 5).successor = none) ∧
    (FrameOutcome.sentLate 40).releases = true ∧
    (∀ e ∈ [Expiry.absent, .at 2085040], (leading e).ChainFrom .hp0 5 [6]) ∧
    ((leading .absent).desc 6).expiry.open_ (leading .absent).clock.time = true ∧
    ((leading (.at 2085040)).desc 6).expiry.open_ (leading (.at 2085040)).clock.time = false := by
  simp only [State.ChainFrom]
  refine ⟨⟨?_, ?_, ?_, ?_, ?_, ?_, ?_, ?_, ?_, .inr (.inr ⟨?_, ?_, 2000000, 2000040, ?_, ?_, .inr ?_⟩), ?_⟩,
    ⟨?_, ?_, ?_, ?_, ?_, .inl ?_, ?_⟩, ⟨?_, ?_, .inl ?_⟩, ?_⟩ <;> and_intros <;> decide +kernel

/-- A line in its guard, ending at a time. -/
def guarding (l : LineState) (t : Time) : State := { State.reset with disp := { line := l, phase := some .guard, guardEnd := t } }

theorem witness_GuardEnds : (guarding .busy 0).inReset = false ∧ (guarding .busy 0).disp.phase = some .guard ∧
    reached (guarding .busy 0).disp.guardEnd (guarding .busy 0).clock.time = true ∧
    (guarding .busy 0).disp.line = .busy ∧ (guarding .draining 0).disp.line = .draining := by decide +kernel

theorem witness_ComparisonCounts :
    (checking.inReset = false ∧ checking.disp.slot = some 5 ∧ checking.enc.activity = .sending ∧
      checking.prof.active.echoMode ≠ .off ∧ checking.clock.prescale = 0 ∧
      checking.enc.ticks = checking.prof.active.hbt / 2 ∧ checking.enc.level (checking.desc 5) checking.store.pool = .active ∧
      ¬ checking.echo.sinceOpposite checking.prof.active.idleLevel < checking.prof.active.carrierPeriod ∧
      checking.echo.counted = false) ∧
    (({ checking with echo := { sinceHigh := 631 } } : State).echo.sinceOpposite .low < checking.prof.active.carrierPeriod) ∧
    (after .comparisonEvent checking).echo.counted = true ∧
    (min 65535 ((checking.desc 5).mismatches + 1) = checking.prof.active.echoThreshold) := by decide +kernel

theorem witness_EchoStopAborts :
    (stopping.inReset = false ∧ stopping.disp.slot = some 5 ∧ stopping.enc.activity = .sending ∧
      stopping.prof.active.hbt ≤ stopping.enc.ticks ∧ stopping.echo.abortPending = true ∧ stopping.ChainFrom .hp0 5 [] ∧
      ¬ (stopping.enc.half = .second ∧
        stopping.enc.bitPos + 1 = (stopping.desc 5).preBits + (stopping.desc 5).bodyBits)) ∧
    (let s : State := { lastBody with echo := { abortPending := true } };
      s.echo.abortPending = true ∧ s.ChainFrom .hp0 5 [] ∧ s.enc.half = .second ∧
        s.enc.bitPos + 1 = (s.desc 5).preBits + (s.desc 5).bodyBits) ∧
    (let s : State := { orphan with echo := { abortPending := true } };
      s.disp.slot = some 5 ∧ s.enc.activity = .sending ∧ s.prof.active.hbt ≤ s.enc.ticks ∧ s.echo.abortPending = true ∧
        (s.desc 5).live = true ∧ (s.desc 5).owner = none ∧ (s.desc 5).successor = none) := by
  simp only [State.ChainFrom]
  and_intros <;> decide +kernel

theorem witness_FaultEntryActs :
    (held .draining).disp.line = .draining ∧ (held .idle).disp.line = .idle ∧ (held .busy).disp.line = .busy ∧
    (held .idle).echo.streak ≤ 2 ∧ ({ held .busy with echo := { streak := 3 } } : State).echo.streak = 3 := by decide +kernel

/-- FAULT under the default QUIET of 16, with a quiet run. -/
def faulted (run : Nat) : State := { held .fault with echo := { quietRun := run } }

theorem witness_FaultReturns :
    (∀ run ∈ [15, 16], (faulted run).inReset = false ∧ (faulted run).disp.line = .fault ∧
      reached (faulted run).echo.holdEnd (faulted run).clock.time = true ∧ Asks (faulted run) [] ∧
      (faulted run).prof.holder = some .hp0) ∧
    (faulted 15).echo.quietRun < max (faulted 15).prof.active.quiet 1 ∧
    max (faulted 16).prof.active.quiet 1 ≤ (faulted 16).echo.quietRun ∧ State.reset.disp.line ≠ .fault ∧
    HolderWitness := by
  simp only [asks_iff]
  refine ⟨?_, ?_, ?_, ?_, holderWitness⟩ <;> decide +kernel

theorem witness_WaveformLevels :
    low.inReset = true ∧
    (State.reset.inReset = false ∧ State.reset.enc.activity ≠ .sending ∧ State.reset.LineSound ∧
      State.reset.disp.phase ≠ some .preamble ∧ State.reset.disp.phase ≠ some .body) ∧
    (bursting.enc.activity = .sending ∧ bursting.disp.slot = some 5 ∧ bursting.enc.ticks < bursting.prof.active.hbt ∧
      bursting.enc.level (bursting.desc 5) bursting.store.pool = .active ∧ (bursting.desc 5).carrier = .on ∧
      bursting.enc.carrierPhase < bursting.prof.active.burst) ∧
    ((sending .second 39 0).enc.level ((sending .second 39 0).desc 5) (sending .second 39 0).store.pool = .quiet) ∧
    ((plainSending.desc 5).carrier = .off ∧
      plainSending.enc.level (plainSending.desc 5) plainSending.store.pool = .active) ∧
    (({ bitPos := 62 } : Encoder).bitPos < ({ Desc.blank with preBits := 63 } : Desc).preBits ∧
      ({ bitPos := 63 } : Encoder).bitPos = ({ Desc.blank with preBits := 63 } : Desc).preBits + 0) := by
  refine ⟨?_, ⟨?_, ?_, lineSound_of ?_, ?_⟩, ?_⟩ <;> decide +kernel

/-- HP1's claim, HP0's session OPEN. -/
def heldBy1 : State :=
  let s := sess .opened
  { s with
    prof := { s.prof with staged := some {}, holder := some .hp1 }
    ports := { s.ports with hp1 := s.ports.hp0 } }

theorem witness_ClaimAndRelease :
    (State.reset.Takes .hp0 [] ∧ (State.reset.port .hp0).session.state ≠ .opened) ∧
    (Asks (held .idle) [] ∧ (held .idle).prof.holder = some .hp0) ∧ (Asks heldBy1 [] ∧ heldBy1.prof.holder = some .hp1) ∧
    (Asks (sess .opened) [] ∧ (sess .opened).prof.holder = none) ∧
    ((sess .closing).ProfileSound ∧ (sess .closing).Takes .hp0 [] ∧ ((sess .closing).port .hp0).session.state = .closing) ∧
    HolderWitness := by
  simp only [takes_iff, asks_iff]
  refine ⟨?_, ?_, ?_, ?_, ⟨profileSound_of ?_, ?_⟩, holderWitness⟩ <;> decide +kernel

theorem witness_StageChanges :
    (State.reset.Takes .hp0 [] ∧ ¬ State.reset.InSession .hp0) ∧
    (Asks (sess .opened) [0] ∧ ∀ cs, stageFits cs → ([0] : List Byte) ≠ stageBytes cs) ∧
    (∀ v ∈ [0, 2049, 65535], stageFits [(.quiet, 0), (.faultHold, v)] ∧ stageFits [(.hbt, v)]) ∧ stageFits [] ∧
    (Asks (sess .opened) (stageBytes [(.hbt, 2)]) ∧ (sess .opened).prof.holder ≠ some .hp0) ∧
    (Asks (held .idle) (stageBytes [(.hbt, 2049)]) ∧ (held .idle).prof.holder = some .hp0 ∧
      (held .idle).prof.staged = some {} ∧ ProfileField.hbt.inRange 2049 = false ∧
      ([(ProfileField.hbt, 2049)] : List (ProfileField × Nat)) = [] ++ (.hbt, 2049) :: []) ∧
    ∀ v ∈ [2, 2048], ∀ c ∈ [(ProfileField.hbt, v), (.quiet, 255)], c.1.inRange c.2 = true := by
  refine ⟨?_, ⟨?_, fun cs _ h => ?_⟩, ?_, ?_, ?_⟩
  · simp only [takes_iff, State.InSession]
    decide +kernel
  · rw [asks_iff]
    decide +kernel
  · simp [stageBytes, be16] at h
  all_goals
    simp only [stageFits, asks_iff]
    decide +kernel

theorem witness_CommitRevalidates : HolderWitness ∧
    (Asks (held .idle) [] ∧ (held .idle).disp.line ≠ .disabled) ∧
    (Asks beforeCommit [] ∧ beforeCommit.prof.holder = some .hp0 ∧ beforeCommit.disp.line = .disabled ∧
      beforeCommit.prof.staged = some { hbt := 600, guard := 2000 } ∧ beforeCommit.ScheduleSound ∧ beforeCommit.LineSound ∧
      beforeCommit.ChainsSound ∧ beforeCommit.ProfileSound) := by
  simp only [asks_iff]
  refine ⟨holderWitness, ?_, ?_, ?_, ?_, ?_, scheduleSound_of ?_, lineSound_of ?_, chainsSound_of ?_, profileSound_of ?_⟩ <;>
    and_intros <;> decide +kernel

theorem witness_QueryProfileAnswers :
    (State.reset.Takes .hp0 [] ∧ State.reset.Takes .hp0 [2] ∧ State.reset.Takes .hp0 [0]) ∧
    (State.reset.prof.holder = none ∧ heldBy1.prof.holder ≠ some .hp0 ∧ heldBy1.prof.holder ≠ none ∧
      heldBy1.Takes .hp0 [1]) ∧
    ((held .idle).Takes .hp0 [1] ∧ (held .idle).prof.holder = some .hp0 ∧ (held .idle).prof.staged = some {}) := by
  simp only [takes_iff]
  and_intros <;> decide +kernel

theorem witness_OpenStartsLease :
    (State.reset.Takes .hp0 [4] ∧ ∀ c : LeaseClass, ([4] : List Byte) ≠ [byteOf c.number]) ∧
    ((sess .closing).Takes .hp0 [0] ∧ ((sess .closing).port .hp0).session.state = .closing) ∧
    ((filled State.reset 23).Takes .hp0 [3] ∧ ((filled State.reset 23).port .hp0).session.state = .closed ∧
      24 < (filled State.reset 23).used .hp0 + (filled State.reset 23).reserved .hp0 + 2) ∧
    ((filled (sess .lapsed) 22).Takes .hp0 [3] ∧ ((filled (sess .lapsed) 22).port .hp0).session.state = .lapsed ∧
      (filled (sess .lapsed) 22).used .hp0 + (filled (sess .lapsed) 22).reserved .hp0 + 2 ≤ 24) ∧
    ((sess .opened).Takes .hp0 [3] ∧ ((sess .opened).port .hp0).session.state = .opened) := by
  refine ⟨⟨?_, fun c => by cases c <;> decide⟩, ?_⟩ <;> simp only [takes_iff] <;> and_intros <;> decide +kernel

theorem witness_RenewAnswers : (State.reset.Takes .hp0 [] ∧ ¬ State.reset.InSession .hp0) ∧ Asks (sess .opened) [0] ∧
    (Asks (sess .opened) [] ∧ ((sess .opened).port .hp0).session.lease = some .l0) ∧
    ((sess .closing).Takes .hp0 [] ∧ (sess .closing).InSession .hp0) := by
  simp only [takes_iff, asks_iff, State.InSession]
  and_intros <;> decide +kernel

theorem witness_CloseEndsSession :
    (State.reset.Takes .hp0 [0] ∧ ¬ State.reset.InSession .hp0) ∧ (Asks (sess .opened) [] ∧ Asks (sess .opened) [2]) ∧
    ((sess .closing).Takes .hp0 [0] ∧ ((sess .closing).port .hp0).session.state = .closing ∧
      ((sess .closing).port .hp0).session.form = some .drain) ∧
    (Asks (sess .opened) [0] ∧ Asks beforeCommit [1] ∧ beforeCommit.ScheduleSound ∧ beforeCommit.LineSound ∧
      beforeCommit.ChainsSound) := by
  simp only [takes_iff, asks_iff, State.InSession]
  refine ⟨?_, ?_, ?_, ?_, ?_, scheduleSound_of ?_, lineSound_of ?_, chainsSound_of ?_⟩ <;> and_intros <;> decide +kernel

/-- 8.12, the chain at 10 and 4 renumbered so that every link rises. -/
def lapsing : State :=
  (beforeLapse.setDesc 13 (beforeLapse.desc 4)).setDesc 4 Desc.blank |>.modDesc 10 fun x => { x with successor := some 13 }

theorem lapsingHolder_countsSound : lapsingHolder.CountsSound := by
  refine ⟨?_, ?_, ?_, ?_, ?_, ?_, fun p => ?_, fun p => ?_, fun p c h => ?_, fun p => ?_, fun p => ?_⟩
  case refine_9 => cases p <;> cases c <;> first | (exact absurd h (by decide +kernel)) | decide +kernel
  case refine_11 => rw [Link.Sound]; cases p <;> decide +kernel
  all_goals first | decide +kernel | (cases ‹Port› <;> decide +kernel)

theorem witness_LapseEndsSession :
    ((sess .opened).inReset = false ∧ (sess .opened).InSession .hp0 ∧ ((sess .opened).port .hp0).session.remaining ≠ 0) ∧
    (lapsing.inReset = false ∧ lapsing.InSession .hp3 ∧ (lapsing.port .hp3).session.remaining = 0 ∧
      (lapsing.port .hp3).session.lease = some .l1 ∧ lapsing.ScheduleSound ∧ lapsing.LineSound ∧ lapsing.ChainsSound ∧
      lapsing.disp.slot = some 2 ∧ (lapsing.desc 2).owner = some .hp3) ∧
    (requestOf (.renew .hp0 1 []) = some (.hp0, message 0x11 1 []) ∧
      lapsingHolder.Takes .hp0 ((message 0x11 1 []).drop 3) ∧ lapsingHolder.CountsSound) ∧
    (Asks lapsingHolder [] ∧ lapsingHolder.prof.holder = some .hp0 ∧ (lapsingHolder.port .hp0).session.remaining = 0 ∧
      lapsingHolder.CountsSound) := by
  have hc := lapsingHolder_countsSound
  simp only [State.InSession, asks_iff, takes_iff, hc, and_true]
  refine ⟨?_, ⟨?_, ?_, ?_, ?_, scheduleSound_of ?_, lineSound_of ?_, chainsSound_of ?_, ?_⟩, ?_, ?_⟩ <;>
    and_intros <;> decide +kernel

/-- An L1 session of HP1 with so many ticks left. -/
def leaseAt (n : Nat) : State :=
  { State.reset with ports := { hp1 := { session := { state := .opened, lease := some .l1, remaining := n } } } }

theorem witness_LeaseLowAndPulseEnd :
    (∀ n ∈ [25000, 25001], (leaseAt n).inReset = false ∧ (leaseAt n).InSession .hp1 ∧
      ((leaseAt n).port .hp1).session.lease = some .l1) ∧
    LeaseClass.l1.period < 4 * ((leaseAt 25001).port .hp1).session.remaining ∧
    4 * ((leaseAt 25000).port .hp1).session.remaining = LeaseClass.l1.period ∧
    ((after .tick ((sess .opened).pulse .hp0)).port .hp0).strobe = .ending ∧ (State.reset.port .hp0).strobe ≠ .ending := by
  simp only [State.InSession]
  and_intros <;> decide +kernel

/-- Two entries in HP0's queue, and a POLL cut after so many bytes with PCSn still low. -/
def polling (n : Nat) : State := after (.poll .hp0 n) (filled State.reset 2)

theorem witness_PollTakesHead :
    ((filled State.reset 24).port .hp0).queue.entries.length ≤ 24 ∧
    (State.reset.inReset = false ∧ (State.reset.port .hp0).link.Settled ∧ (State.reset.port .hp0).queue.entries = []) ∧
    ((filled State.reset 2).port .hp0).queue.entries = .sessionClosed .drain :: [.sessionClosed .drain] ∧
    ∀ n ∈ [2, 23], (polling n).inReset = false ∧ ((polling n).port .hp0).link.state = .poll ∧
      ((polling n).port .hp0).link.byteCount = n ∧ n + ((polling n).port .hp0).link.out.length = 24 ∧
      ((polling n).port .hp0).link.pad = 0 := by
  simp only [Link.Settled]
  decide +kernel

theorem witness_LinkRefusals :
    (State.reset.inReset = false ∧ (State.reset.port .hp0).link.Settled) ∧ ((0x01 : Byte) ≠ 0x00 ∧ (0x01 : Byte) ≠ 0xA5) ∧
    (0x3D : Byte) ≠ 0x3C ∧ ((2 : Byte).toNat < 3 ∧ 40 < (41 : Byte).toNat ∧ ([] : List Byte).length ≤ (3 : Byte).toNat) ∧
    (let msg : List Byte := 0x11 :: 9 :: 0 :: [];
      (0x00 : Byte) ≠ crc8 (byteOf msg.length :: msg) ∧ (0 : Byte).toNat = ([] : List Byte).length ∧
        (1 : Byte).toNat ≠ ([] : List Byte).length) ∧
    24 ≤ (filled State.reset 24).used .hp0 + (filled State.reset 24).reserved .hp0 ∧ State.reset.Takes .hp0 [1, 2] ∧
    ((after (.renew .hp0 9 []) (sess .opened)).port .hp0).link.state = .answer ∧
    ((after (.failedConfirm .hp0 (some 0)) State.reset).port .hp0).link.state = .ignore := by
  simp only [takes_iff, Link.Settled]
  and_intros <;> decide +kernel

theorem witness_LinkResetClearsPort : beforeLapse.inReset = false ∧
    (beforeLapse.desc 2).ownedBy .hp3 = true ∧ (beforeLapse.desc 2).state = .onLine ∧
    (beforeLapse.desc 4).ownedBy .hp3 = true ∧ (beforeLapse.desc 4).state ≠ .onLine ∧
    (beforeLapse.desc 0).ownedBy .hp3 = false := by decide +kernel

/-- HP0's link with PCSn low and so many bytes of a QUERY_LINK under tag 9 received. -/
def askingLink (n : Nat) : State :=
  after (.voidTransaction .hp0 ⟨true, ((requestBytes (message 0x70 9 []) (messageCrc (message 0x70 9 []))).take n), false⟩)
    State.reset

theorem witness_QueryLinkAnswers : (State.reset.Takes .hp3 [] ∧ State.reset.Takes .hp3 [0]) ∧
    (requestOf (.queryLink .hp0 9 []) = some (.hp0, message 0x70 9 []) ∧ (message 0x70 9 []).length ≤ 40 ∧
      (State.reset.port .hp0).link.Settled ∧
      requestBytes (message 0x70 9 []) (messageCrc (message 0x70 9 [])) =
        [0xA5, 3] ++ [0x70, 9, 0, messageCrc (message 0x70 9 [])]) ∧
    (∀ n ∈ [0, 1, 2, 5], (askingLink n).inReset = false ∧
      (askingLink n).used .hp0 + (askingLink n).reserved .hp0 < 24 ∧ ((askingLink n).port .hp0).link.leadsTo
        (requestBytes (message 0x70 9 []) (messageCrc (message 0x70 9 []))) = true) ∧
    (∀ n ∈ [3, 5], ((askingLink n).port .hp0).link.state = .request ∧ ((askingLink n).port .hp0).link.leadsTo
      (requestBytes (message 0x11 9 []) (messageCrc (message 0x11 9 []))) = false) ∧
    (let s := after (.voidTransaction .hp0 ⟨true, [0xC3], false⟩) State.reset;
      (s.port .hp0).link.state = .confirm ∧ (s.port .hp0).link.byteCount = 1) := by
  simp only [takes_iff, Link.Settled]
  and_intros <;> decide +kernel

/-- `beforeCommit` with the COMMIT waiting. -/
def committing : State := { beforeCommit with pending := [.commit .hp0 1 []] }

theorem witness_ScheduleAndLineStaySound :
    committing.ScheduleSound ∧ committing.LineSound ∧ ∃ t, step committing = .next t := by
  refine ⟨scheduleSound_of ?_, lineSound_of ?_, _, rfl⟩ <;> and_intros <;> decide +kernel

theorem witness_ProfileStaysSound : committing.ProfileSound ∧ ∃ t, step committing = .next t := by
  refine ⟨profileSound_of ?_, _, rfl⟩
  decide +kernel

theorem witness_RoomStaysSound : committing.ScheduleSound ∧ committing.LineSound ∧ committing.RoomSound ∧
    ∃ t, step committing = .next t := by
  refine ⟨witness_ScheduleAndLineStaySound.1, witness_ScheduleAndLineStaySound.2.1, fun p => ?_, _, rfl⟩
  cases p <;> decide +kernel

/-- No two live descriptors of one port carry one tag, decided from the owned ones only. -/
theorem tags_of {s : State} (h : ∀ p ∈ allPorts, ∀ d, (s.desc d).ownedBy p = true → ∀ e, (s.desc e).ownedBy p = true →
      (s.desc d).tag = (s.desc e).tag → d = e) (p : Port) (d e : DescIdx) (hd : (s.desc d).ownedBy p = true)
    (he : (s.desc e).ownedBy p = true) (ht : (s.desc d).tag = (s.desc e).tag) : d = e :=
  h p (by cases p <;> decide) d hd e he ht

/-- `committing` with every live frame's segments in the table. -/
def stored : State :=
  { table committing ((allDescs.take 5).map fun d => (d, { committing.desc d with segs := [⟨d.val, by omega⟩] })) with
    pending := [.commit .hp0 1 []] }

theorem witness_StoreStaysSound : stored.ScheduleSound ∧ stored.LineSound ∧ stored.StoreSound ∧
    ∃ t, step stored = .next t := by
  refine ⟨scheduleSound_of ?_, lineSound_of ?_, ⟨?_, ?_, ?_, fun p => ?_, fun p => ?_, tags_of ?_⟩, _, rfl⟩
  case refine_6 => cases p <;> decide +kernel
  case refine_7 => cases p <;> decide +kernel
  all_goals (and_intros <;> decide +kernel)

theorem witness_ChainsStaySound : committing.ScheduleSound ∧ committing.LineSound ∧ committing.ChainsSound ∧
    ∃ t, step committing = .next t := by
  refine ⟨witness_ScheduleAndLineStaySound.1, witness_ScheduleAndLineStaySound.2.1, chainsSound_of ?_, _, rfl⟩
  and_intros <;> decide +kernel

/-- A list from the table: no two listed intervals overlap. -/
theorem listedApart_of {s : State} (h : ∀ d ∈ s.sched.timed, ∀ e ∈ s.sched.timed, d ≠ e →
    overlap ((s.desc d).resStart.getD 0) ((s.desc d).resEnd.getD 0) ((s.desc e).resStart.getD 0)
      ((s.desc e).resEnd.getD 0) = false) : s.ListedApart := by
  intro d hd e he hne a b a' b' h1 h2 h3 h4
  simpa [h1, h2, h3, h4] using h d hd e he hne

/-- A list from the table: ordered, and every reservation as long as the active profile makes it. -/
theorem listOrdered_of {s : State} (h : s.sched.timed.Pairwise (fun d e =>
      before ((s.desc d).start.getD 0) ((s.desc e).start.getD 0) = true) ∧
    ∀ d ∈ s.sched.timed, (s.desc d).resEnd =
      some (plus ((s.desc d).start.getD 0) ((s.desc d).reservation s.prof.active))) : s.ListOrdered where
  ordered := h.1.imp fun {d e} hp a b ha hb => by simpa [ha, hb] using hp
  lengths d hd a ha := by simpa [ha] using h.2 d hd

/-- `stored` a tick before the first listed start with a frame on the line that ends before it. -/
def timely : State :=
  let s := onLine stored 40 { reference .hp0 9 with actualStart := some 8999000, segs := [7] } .body
    { activity := .sending, half := .second, bitPos := 39, ticks := 500, lastEnd := 9000000 }
  { s with disp := { s.disp with plannedEnd := 9085000 }, pending := [.bodyEnd] }

theorem timely_storeSound : timely.StoreSound := by
  refine ⟨?_, ?_, ?_, fun p => ?_, fun p => ?_, tags_of ?_⟩
  case refine_4 => cases p <;> decide +kernel
  case refine_5 => cases p <;> decide +kernel
  all_goals decide +kernel

theorem timely_onTime : timely.OnTime := by
  have h : ∀ d ∈ timely.sched.timed, distance timely.clock.time ((timely.desc d).start.getD 0) ≤ 2 ^ 30 := by
    decide +kernel
  refine ⟨fun d hd a ha => .inl (by simpa [ha] using h d hd), fun d hd => ⟨8999000, ?_⟩⟩
  have hd' : d = 40 := by
    have e : timely.disp.slot = some 40 := by decide +kernel
    exact Option.some.inj (hd.symm.trans e)
  subst hd'
  and_intros <;> decide +kernel

theorem timely_apart : timely.ApartFromLine := by
  have e : timely.occupied = some (8999000, 9085000) := by decide +kernel
  have h : ∀ d ∈ timely.sched.timed, overlap 8999000 9085000 ((timely.desc d).resStart.getD 0)
      ((timely.desc d).resEnd.getD 0) = false := by decide +kernel
  intro i hi d hd a b ha hb
  obtain rfl := Option.some.inj (e.symm.trans hi)
  simpa [ha, hb] using h d hd

theorem witness_ListedStayApart :
    (let s : State := { beforeCommit with pending := [.tick] };
      s.ScheduleSound ∧ s.LineSound ∧ s.ListedApart ∧
        (∀ p tag fields, s.pending.head? ≠ some (.commit p tag fields)) ∧ ∃ t, step s = .next t) ∧
    (stored.ScheduleSound ∧ stored.LineSound ∧ stored.StoreSound ∧ stored.ProfileSound ∧ stored.ListedApart ∧
      stored.ListOrdered ∧ ∃ t, exec (.commit .hp0 1 []) stored = .next t) ∧
    (timely.ScheduleSound ∧ timely.LineSound ∧ timely.StoreSound ∧ timely.ProfileSound ∧ timely.OnTime ∧
      timely.ListedApart ∧ timely.ListOrdered ∧ timely.ApartFromLine ∧ ∃ t, step timely = .next t) := by
  obtain ⟨s1, s2, s3, -⟩ := witness_StoreStaysSound
  refine ⟨⟨scheduleSound_of ?_, lineSound_of ?_, listedApart_of ?_, fun _ _ _ => nofun, _, rfl⟩,
    ⟨s1, s2, s3, profileSound_of ?_, listedApart_of ?_, listOrdered_of ?_, _, rfl⟩,
    scheduleSound_of ?_, lineSound_of ?_, timely_storeSound, profileSound_of ?_, timely_onTime, listedApart_of ?_,
    listOrdered_of ?_, timely_apart, _, rfl⟩ <;> and_intros <;> decide +kernel

theorem witness_CountsStaySound : committing.ScheduleSound ∧ committing.LineSound ∧ committing.CountsSound ∧
    committing.PoolSound ∧ ∃ t, step committing = .next t := by
  refine ⟨witness_ScheduleAndLineStaySound.1, witness_ScheduleAndLineStaySound.2.1,
    ⟨?_, ?_, ?_, ?_, ?_, ?_, fun p => ?_, fun p => ?_, fun p c h => ?_, fun p => ?_, fun p => ?_⟩, ?_, _, rfl⟩
  case refine_9 => cases p <;> cases c <;> first | (exact absurd h (by decide +kernel)) | decide +kernel
  case refine_11 => rw [Link.Sound]; cases p <;> decide +kernel
  case refine_12 => rw [State.PoolSound]; decide +kernel
  all_goals first | decide +kernel | (cases ‹Port› <;> decide +kernel)

theorem witness_FieldsRoundTrip : tag8.inRange = true ∧ readShape tag8.bytes = some tag8 ∧ (startAt 5).inRange ∧
    readTiming (startAt 5).bytes = some (startAt 5) ∧ stageFits [(.hbt, 600), (.guard, 2000)] ∧
    readStage (stageBytes [(.hbt, 600), (.guard, 2000)]) = some [(.hbt, 600), (.guard, 2000)] := by
  simp only [stageFits]
  refine ⟨?_, ?_, startAt_inRange 5, ?_⟩ <;> decide +kernel

end Sys2Proof.Tests
end

section
/-! The line time and the capture slots (O4, O9, O10, O11). -/

namespace Sys2Proof.Machine

/-! ### The record count of a table predicate -/

/-- The descriptor table as the list of its records in table order. -/
theorem State.descs_toList (s : State) : s.store.descs.toList = (List.finRange 48).map s.desc := by
  refine List.ext_getElem (by simp) fun i h₁ h₂ => ?_
  simp [State.desc]

/-- The number of records with a property is the length of any list that names each of them once. -/
theorem State.countP_descs (s : State) (f : Desc → Bool) (l : List DescIdx) (once : l.Nodup)
    (mem : ∀ d, d ∈ l ↔ f (s.desc d) = true) : s.store.descs.toList.countP f = l.length := by
  have perm : ((List.finRange 48).filter fun d => f (s.desc d)).Perm l :=
    (List.perm_ext_iff_of_nodup ((List.nodup_finRange 48).filter _) once).2 fun d => by
      rw [List.mem_filter, mem, and_iff_right (List.mem_finRange d)]
  rw [s.descs_toList, List.countP_map, List.countP_eq_length_filter]
  exact perm.length_eq

/-! ### Requests that change their own port -/

/-- A change of one port leaves the rest of the part. -/
theorem State.samePart_modPort (s : State) (p : Port) (f : PortState → PortState) : s.SamePart (s.modPort p f) :=
  ⟨rfl, rfl, rfl, fun _ => rfl, fun _ => rfl, rfl, rfl, rfl, rfl, rfl, rfl⟩

theorem State.sameOthers_modPort (s : State) (p : Port) (f : PortState → PortState) : s.SameOthers (s.modPort p f) p :=
  fun q hq => by simp [hq]

/-- Two changes of one port are one. -/
theorem State.modPort_modPort (s : State) (p : Port) (f g : PortState → PortState) :
    (s.modPort p f).modPort p g = s.modPort p fun q => g (f q) := by
  refine congrArg (fun ps => { s with ports := ps }) (Ports.ext_get fun q => ?_)
  by_cases hq : q = p <;> simp [State.modPort, hq]

/-- R175, R179: a record with the renewed port's link agrees with itself under the link of the taken request. -/
theorem State.agrees_sentLink (s : State) (p : Port) (code tag : Byte) (fields : List Byte) (h : s.Takes p fields)
    {r : PortState} (hl : r.link = (s.port p).renewed.link) :
    PortState.Agrees { r with link := s.sentLink p code tag fields } r := by
  obtain ⟨l1, l2, l3, -, -⟩ := s.sentLink_spec p code tag fields h.settled
  exact ⟨rfl, rfl, rfl, rfl, rfl, by simp [hl, PortState.renewed_link, l1], by simp [hl, PortState.renewed_link, l2],
    by simp [hl, PortState.renewed_link, l3]⟩

/-- A taken request whose command changes its own port's record alone, whatever the link has driven. -/
theorem State.serves_of_modPort (s : State) (i : Instr) (p : Port) (code tag : Byte) (fields : List Byte)
    (act : State → State) (f : PortState → PortState) (h : s.Takes p fields)
    (hi : exec i s = .next (s.request p code tag fields act))
    (ha : act (s.taken p code tag fields) = (s.taken p code tag fields).modPort p f)
    (hf : ∀ q l, f { q with link := l } = { f q with link := l })
    (hl : (f (s.port p).renewed).link = (s.port p).renewed.link) :
    s.Serves i p (f (s.port p).renewed) := by
  obtain ⟨-, -, -, hout, hpad⟩ := s.sentLink_spec p code tag fields h.settled
  have own : ((s.taken p code tag fields).modPort p f).port p =
      { f (s.port p).renewed with link := s.sentLink p code tag fields } := by
    rw [State.taken_eq, State.modPort_modPort, State.port_modPort, if_pos rfl, hf]
  refine ⟨_, by rw [hi, s.request_taken p code tag fields act h, ha], ?_, ?_, ?_, ?_⟩
  · rw [State.taken_eq, State.modPort_modPort]
    exact s.samePart_modPort p _
  · rw [State.taken_eq, State.modPort_modPort]
    exact s.sameOthers_modPort p _
  · rw [own]
    exact s.agrees_sentLink p code tag fields h hl
  · rw [own]
    exact ⟨hout, hpad⟩

/-- R151: whether p has a session is what it was before the renewal. -/
theorem State.hasSession_taken (s : State) (p : Port) (code tag : Byte) (fields : List Byte) :
    (s.taken p code tag fields).hasSession p = (s.port p).session.active := by
  rw [State.taken_eq]
  simp [State.hasSession, Session.active, (s.port p).renewed_keeps.1]

theorem State.inSession_iff (s : State) (p : Port) : s.InSession p ↔ (s.port p).session.active = true := by
  simp [State.InSession, Session.active]

/-- What a command of a taken request finds of the part is what the request found. -/
theorem State.taken_part (s : State) (p : Port) (code tag : Byte) (fields : List Byte) :
    (s.taken p code tag fields).clock = s.clock ∧ (s.taken p code tag fields).disp = s.disp ∧
    (s.taken p code tag fields).prof = s.prof ∧ (s.taken p code tag fields).store = s.store := by
  rw [State.taken_eq]
  exact ⟨rfl, rfl, rfl, rfl⟩

/-- R166, R179: the record of the port of a taken request whose command has placed a REPLY. -/
theorem State.agrees_taken_reply (s : State) (p : Port) (code tag : Byte) (fields : List Byte) (e : Entry)
    (h : s.Takes p fields) :
    (((s.taken p code tag fields).port p).withEntries [e]).Agrees ((s.port p).renewed.withEntries [e]) := by
  rw [State.taken_eq, State.port_modPort, if_pos rfl]
  exact s.agrees_sentLink p code tag fields h (r := (s.port p).renewed.withEntries [e]) rfl

/-! ### QUERY_TIME -/

/-- Settles O10: the reply of QUERY_TIME by its one check. -/
theorem queryTimeAnswers : Obligations.QueryTimeAnswers := by
  intro p tag fields s h
  have hclock := (s.taken_part p Config.codeQueryTime tag fields).1
  refine ⟨fun hf => ?_, fun hf => ?_⟩
  · exact s.replies_of_reply _ p Config.codeQueryTime tag fields _ _ _ h rfl (by simp [State.doQueryTime, hf])
  · exact s.replies_of_reply _ p Config.codeQueryTime tag fields _ _ _ h rfl
      (by simp only [State.doQueryTime, hf, State.now, ne_eq, not_true, if_false, ← hclock])

/-! ### The capture slot -/

/-- R6: a sample that is no capture edge leaves only itself. -/
theorem PortState.sampleCapture_of_not_edge (q : PortState) (now : Time) (l : Level)
    (h : l = .low ∨ q.pcapt ≠ some .low) : q.sampleCapture now l = { q with pcapt := some l } := by
  have : ¬ (q.pcapt = some .low ∧ l = .high) := by
    rintro ⟨hq, rfl⟩
    exact h.elim (by simp) fun hn => hn hq
  simp [PortState.sampleCapture, this]

/-- R6, R7: a HIGH sample after a LOW one is a capture edge. -/
theorem PortState.sampleCapture_of_edge (q : PortState) (now : Time) (h : q.pcapt = some .low) :
    q.sampleCapture now .high = { q.captureEdge now with pcapt := some .high } := by
  simp [PortState.sampleCapture, h]

/-- R6: a row's samples reach its port, at the line time of the row. -/
theorem execCaptureEdge_of_running (p : Port) (l : List Level) (s : State) (h : s.inReset = false) :
    exec (.captureEdge ⟨p, l⟩) s =
      .next (s.modPort p fun q => l.foldl (fun r x => r.sampleCapture s.clock.time x) q) := by
  show execCaptureEdge ⟨p, l⟩ s = _
  simp [execCaptureEdge, h, State.now]

theorem execCaptureEdge_of_inReset (p : Port) (l : List Level) (s : State) (h : s.inReset = true) :
    exec (.captureEdge ⟨p, l⟩) s = .next s := by
  show execCaptureEdge ⟨p, l⟩ s = _
  simp [execCaptureEdge, h]

/-- R6, R7: what one sample does. -/
theorem captureEdge_single (p : Port) (l : Level) (s : State) (hrun : s.inReset = false) :
    ∃ t, exec (.captureEdge ⟨p, [l]⟩) s = .next t ∧ s.SamePart t ∧ s.SameOthers t p ∧
      t.port p = (s.port p).sampleCapture s.clock.time l :=
  ⟨_, execCaptureEdge_of_running p [l] s hrun, s.samePart_modPort p _, s.sameOthers_modPort p _, by simp⟩

/-- R6: a list of samples is its parts one after the other. -/
theorem captureEdge_append (p : Port) (a b : List Level) (s : State) :
    ∃ t, exec (.captureEdge ⟨p, a⟩) s = .next t ∧
      exec (.captureEdge ⟨p, a ++ b⟩) s = exec (.captureEdge ⟨p, b⟩) t := by
  cases hrun : s.inReset with
  | true =>
    refine ⟨s, execCaptureEdge_of_inReset p a s hrun, ?_⟩
    rw [execCaptureEdge_of_inReset p _ s hrun, execCaptureEdge_of_inReset p _ s hrun]
  | false =>
    refine ⟨_, execCaptureEdge_of_running p a s hrun, ?_⟩
    rw [execCaptureEdge_of_running p (a ++ b) s hrun, execCaptureEdge_of_running p b (s.modPort p _) hrun,
      State.modPort_modPort]
    simp only [List.foldl_append, State.modPort_clock]

/-- R8: what the command of a taken READ_CAPTURE finds in its slot is what the request found. -/
theorem State.capture_taken (s : State) (p : Port) (code tag : Byte) (fields : List Byte) :
    ((s.taken p code tag fields).port p).capture = (s.port p).capture := by
  obtain ⟨-, -, -, -, -, -, hcap, -, -⟩ := (s.port p).renewed_keeps
  rw [State.taken_eq]
  simp [hcap]

/-- R8: READ_CAPTURE of a FULL slot. -/
theorem readCapture_full (p : Port) (tag : Byte) (s : State) (h : s.Takes p [])
    (hfull : (s.port p).capture.full = true) :
    s.Serves (.readCapture p tag []) p ((s.port p).renewed.emptySlot.withEntries
      [.reply 0x61 tag .ok (.capture (s.port p).capture.time (s.port p).capture.overrun)]) := by
  have hc := s.capture_taken p Config.codeReadCapture tag []
  refine s.serves_of_modPort _ p Config.codeReadCapture tag [] (State.doReadCapture p tag [])
    (fun q => q.emptySlot.withEntries
      [.reply 0x61 tag .ok (.capture (s.port p).capture.time (s.port p).capture.overrun)])
    h rfl ?_ (fun _ _ => rfl) rfl
  simp only [State.doReadCapture, hc, hfull, if_true, ne_eq, not_true, if_false]
  exact State.modPort_modPort _ p _ _

/-- Settles O9: one sample by whether it is an edge, lists of samples by their parts, and READ_CAPTURE by its slot. -/
theorem captureSlotWorks : Obligations.CaptureSlotWorks := by
  refine ⟨fun p l s hrun => ?_, captureEdge_append, fun p tag fields s h => ⟨fun hf => ?_, ?_, ?_⟩⟩
  · obtain ⟨t, ht, hpart, hothers, hport⟩ := captureEdge_single p l s hrun
    refine ⟨t, ht, hpart, hothers, fun hn => ?_, ?_⟩
    · rw [hport, PortState.sampleCapture_of_not_edge _ _ _ hn]
    · rintro rfl hlow
      rw [hport, PortState.sampleCapture_of_edge _ _ hlow]
      exact ⟨fun hempty => by simp [PortState.captureEdge, hempty], fun hfull => by simp [PortState.captureEdge, hfull]⟩
  · exact s.replies_of_reply _ p Config.codeReadCapture tag fields _ _ _ h rfl (by simp [State.doReadCapture, hf])
  · rintro rfl hempty
    exact s.replies_of_reply _ p Config.codeReadCapture tag [] _ _ _ h rfl
      (by simp [State.doReadCapture, s.capture_taken, hempty])
  · rintro rfl hfull
    obtain ⟨-, -, -, -, -, -, hcap, -, -⟩ := (s.port p).renewed_keeps
    have := readCapture_full p tag s h hfull
    simpa only [PortState.emptySlot, hcap] using this

/-! ### SET_TIME -/

/-- R10: the model's reading of a record that carries a time, in Safety's terms. -/
theorem Desc.carriesTime_iff (x : Desc) : x.carriesTime = true ↔ x.Carries := by
  unfold Desc.carriesTime Desc.Carries
  cases hs : x.state with
  | free | loading | onLine => simp
  | held => cases x.expiry <;> simp
  | waiting => cases hc : x.cls <;> simp [Option.isSome_iff_ne_none]

/-- R10, R186: a field list of another length than 4 is no line time. -/
theorem readSetTime_eq_none {fields : List Byte} (h : fields.length ≠ 4) : readSetTime fields = none := by
  unfold readSetTime
  split
  · simp at h
  · rfl

/-- R186: a line time is read back from its bytes. -/
theorem readSetTime_timeBytes (t : Time) : readSetTime (timeBytes t) = some t := by
  have hlt := t.isLt
  simp only [timeBytes, be32, readSetTime, timeOfBytes, natOfBytes, byteOf, List.foldl, Option.some.injEq]
  apply BitVec.eq_of_toNat_eq
  simp only [BitVec.toNat_ofNat]
  omega

/-- R10, R11: a SET_TIME that passes its checks. -/
theorem State.doSetTime_sets (s : State) (p : Port) (tag : Byte) (fields : List Byte) (new : Time)
    (hsess : s.noSession p = false) (hread : readSetTime fields = some new) (hholds : s.holds p = true)
    (hline : s.disp.line = .disabled) (hcount : s.timesCarried = 0) :
    State.doSetTime p tag fields s =
      ({ s with clock := { s.clock with time := new, prescale := 0 } }).reply p Config.codeSetTime tag .ok
        (.timeSet s.now new) := by
  simp [State.doSetTime, hsess, hread, hholds, hline, hcount]

/-- R11: a taken request whose command sets the clock and places its REPLY. -/
theorem State.taken_setClock_reply (s : State) (p : Port) (code tag : Byte) (fields : List Byte) (c : TimeBase)
    (r : ResultCode) (data : ReplyData) (h : s.Takes p fields) (t : State)
    (ht : t = ({ s.taken p code tag fields with clock := c }).reply p code tag r data) :
    t.clock = c ∧ s.SamePart { t with clock := s.clock } ∧ s.SameOthers t p ∧
      (t.port p).Agrees ((s.port p).renewed.withEntries [.reply code tag r data]) := by
  subst ht
  refine ⟨rfl, ?_, fun q hq => ?_, ?_⟩
  · rw [State.taken_eq]
    exact ⟨rfl, rfl, rfl, fun _ => rfl, fun _ => rfl, rfl, rfl, rfl, rfl, rfl, rfl⟩
  · rw [State.taken_eq, State.port_reply, if_neg hq]
    exact s.sameOthers_modPort p _ q hq
  · rw [State.port_reply, if_pos rfl]
    exact s.agrees_taken_reply p code tag fields _ h

/-- Settles O11: the checks of SET_TIME in their order, and the set. -/
theorem setTimeChecksAndSets : Obligations.SetTimeChecksAndSets := by
  intro p tag fields s h
  have hsess : (s.taken p Config.codeSetTime tag fields).noSession p = !(s.port p).session.active := by
    rw [State.noSession, s.hasSession_taken]
  obtain ⟨hclock, hdisp, hprof, hstore⟩ := s.taken_part p Config.codeSetTime tag fields
  have reply (r : ResultCode) (data : ReplyData)
      (ha : State.doSetTime p tag fields (s.taken p Config.codeSetTime tag fields) =
        (s.taken p Config.codeSetTime tag fields).reply p Config.codeSetTime tag r data) :
      s.Replies (.setTime p tag fields) p 0x62 tag r data :=
    s.replies_of_reply _ p Config.codeSetTime tag fields _ r data h rfl ha
  simp only [State.inSession_iff]
  refine ⟨fun hin => reply _ _ ?_, fun hin hlen => reply _ _ ?_, fun hin new hnew => ?_⟩
  · simp [State.doSetTime, hsess, hin]
  · simp [State.doSetTime, hsess, hin, readSetTime_eq_none hlen]
  · have hread : readSetTime fields = some new := hnew ▸ readSetTime_timeBytes new
    refine ⟨fun hh => reply _ _ ?_, fun hh hl => reply _ _ ?_, fun carrying once mem => ?_⟩
    · simp [State.doSetTime, hsess, hin, hread, State.holds, hprof, hh]
    · simp [State.doSetTime, hsess, hin, hread, State.holds, hprof, hh, hdisp, hl]
    · have hcount : (s.taken p Config.codeSetTime tag fields).timesCarried = carrying.length := by
        rw [State.timesCarried, hstore]
        exact s.countP_descs _ carrying once fun d => (mem d).trans (s.desc d).carriesTime_iff.symm
      refine ⟨fun hh hl hne => reply _ _ ?_, fun hh hl hnil => ?_⟩
      · simp [State.doSetTime, hsess, hin, hread, State.holds, hprof, hh, hdisp, hl, hcount, hne]
      · have hset := State.doSetTime_sets (s.taken p Config.codeSetTime tag fields) p tag fields new
          (by simp [hsess, hin]) hread (by simp [State.holds, hprof, hh]) (by rw [hdisp, hl]) (by simp [hcount, hnil])
        rw [State.now, hclock] at hset
        exact ⟨_, congrArg Host.Outcome.next (s.request_taken p _ tag fields _ h),
          s.taken_setClock_reply p _ tag fields _ _ _ h _ hset⟩

/-! ### TICK -/

/-- R1, R104, R114: REFCLK cycles leave what the Echo Monitor counts. -/
theorem State.cycles_echo (n : Nat) (s : State) :
    (State.cycles n s).echo.quietRun = s.echo.quietRun ∧ (State.cycles n s).echo.counted = s.echo.counted ∧
    (State.cycles n s).echo.abortPending = s.echo.abortPending ∧ (State.cycles n s).echo.streak = s.echo.streak ∧
    (State.cycles n s).echo.holdEnd = s.echo.holdEnd := by
  induction n generalizing s with
  | zero => exact ⟨rfl, rfl, rfl, rfl, rfl⟩
  | succ n ih => exact ih s.cycle

/-- R110, R153: a port at a tick boundary. -/
@[simp] theorem State.port_boundary (s : State) (q : Port) : s.boundary.port q = (s.port q).tick :=
  Ports.get_map s.ports PortState.tick q

/-- R153: the lease of a session counts down, and no other session record changes. -/
theorem PortState.tick_session (q : PortState) : q.tick.session =
    if q.session.active = true then { q.session with remaining := q.session.remaining - 1 } else q.session := rfl

/-- R110: a pulse in progress is brought to its end. -/
theorem PortState.tick_strobe (q : PortState) : q.tick.strobe = if q.strobe = .high then .ending else q.strobe := rfl

/-- Settles O4: the cycles left of the tick leave all but the prescale count, the encoder and what is sensed, and the
boundary counts the time and the leases. -/
theorem tickAdvances : Obligations.TickAdvances := by
  intro s hrun
  obtain ⟨hclock, hreset, hlsense, hstore, hsched, hdisp, hprof, hports, hpending⟩ := State.cycles_frame s.cyclesLeft s
  obtain ⟨-, -, habort, hstreak, hhold⟩ := State.cycles_echo s.cyclesLeft s
  have hport : ∀ p, s.wholeTick.port p = (s.port p).tick := fun p => by
    rw [State.wholeTick, State.port_boundary, State.port, hports, State.port]
  refine ⟨s.wholeTick, ?_, ?_, hreset.trans hrun, hlsense, fun d => ?_, fun a => ?_, hsched, hdisp, hprof, hpending,
    habort, hstreak, hhold, fun p => ?_⟩
  · show execTick s = _
    simp [execTick, hrun]
  · simp [State.wholeTick, State.boundary, hclock]
  · rw [State.wholeTick, State.boundary_desc, State.desc, hstore, State.desc]
  · rw [State.wholeTick, State.boundary_store, hstore]
  · simp only [hport, PortState.tick_session, PortState.tick_strobe, State.inSession_iff]
    exact ⟨rfl, rfl, rfl, rfl, fun h => if_pos h, fun h => if_neg h, fun h => if_pos h, fun h => if_neg h⟩

end Sys2Proof.Machine
end

section
/-! The counts in their ranges and the pool in canonical form (O59): soundness block by block, and one rule for each
operation over the table, the line and the clock. -/

namespace Sys2Proof.Machine

/-! ### Soundness of a block -/

/-- R1: the divisor is one of the four, and the prescale count lies below it. -/
def TimeBase.CountsSound (c : TimeBase) : Prop :=
  (c.divisor = 8 ∨ c.divisor = 16 ∨ c.divisor = 24 ∨ c.divisor = 32) ∧ c.prescale < c.divisor

/-- R113, R121: the quiet run and the fault streak. -/
def EchoMonitor.CountsSound (e : EchoMonitor) : Prop := e.quietRun ≤ 255 ∧ e.streak ≤ 3

/-- R81, R118: the bypass count and the mismatch count of a record. -/
def Desc.CountsSound (x : Desc) : Prop := x.bypass ≤ 8 ∧ x.mismatches ≤ 65535

/-- R145, R147: a lease exactly in OPEN and CLOSING, a close form exactly in CLOSING, and the lease within its period. -/
def Session.CountsSound (x : Session) : Prop :=
  x.lease.isSome = x.active ∧ x.form.isSome = decide (x.state = .closing) ∧
    ∀ c, x.lease = some c → x.remaining ≤ c.period

/-- R175, R178, R180: the receive buffer and the error counts. -/
def Link.CountsSound (l : Link) : Prop := l.Sound ∧ l.crcErrors ≤ 255 ∧ l.framingErrors ≤ 255

/-- What counts of a port. -/
def PortState.CountsSound (q : PortState) : Prop := q.session.CountsSound ∧ q.link.CountsSound

/-- R45, R81: the records' counts, with what the ASAP walk rests on: no descriptor is queued twice, and every queued one is
WAITING. -/
structure State.TableSound (s : State) : Prop where
  counts : ∀ d, (s.desc d).CountsSound
  once : s.sched.asap.order.Nodup
  waiting : ∀ d ∈ s.sched.asap.order, (s.desc d).state = .waiting

/-- What every step of the part does: each block that is sound stays so. -/
structure State.KeepsCounts (s t : State) : Prop where
  clock : s.clock.CountsSound → t.clock.CountsSound
  echo : s.echo.CountsSound → t.echo.CountsSound
  table : s.TableSound → t.TableSound
  ports : ∀ q, (s.port q).CountsSound → (t.port q).CountsSound
  pool : s.PoolSound → t.PoolSound

theorem State.KeepsCounts.refl (s : State) : s.KeepsCounts s := ⟨id, id, id, fun _ => id, id⟩

theorem State.KeepsCounts.trans {s t u : State} (h : s.KeepsCounts t) (k : t.KeepsCounts u) : s.KeepsCounts u :=
  ⟨k.clock ∘ h.clock, k.echo ∘ h.echo, k.table ∘ h.table, fun q => k.ports q ∘ h.ports q, k.pool ∘ h.pool⟩

/-- A sound state is sound block by block. -/
theorem State.CountsSound.blocks {s : State} (h : s.CountsSound) :
    s.clock.CountsSound ∧ s.echo.CountsSound ∧ (∀ d, (s.desc d).CountsSound) ∧ ∀ p, (s.port p).CountsSound :=
  ⟨⟨h.divisor, h.prescale⟩, ⟨h.quietRun, h.streak⟩, fun d => ⟨h.bypass d, h.mismatches d⟩,
    fun p => ⟨⟨h.leased p, h.form p, h.lease p⟩, h.links p, h.errors p⟩⟩

/-- A state that is sound block by block is sound. -/
theorem State.CountsSound.of_blocks {s : State} (clock : s.clock.CountsSound) (echo : s.echo.CountsSound)
    (table : s.TableSound) (ports : ∀ p, (s.port p).CountsSound) : s.CountsSound where
  divisor := clock.1
  prescale := clock.2
  quietRun := echo.1
  streak := echo.2
  bypass d := (table.counts d).1
  mismatches d := (table.counts d).2
  leased p := (ports p).1.1
  form p := (ports p).1.2.1
  lease p := (ports p).1.2.2
  errors p := (ports p).2.2
  links p := (ports p).2.1

/-- R45: in a sound schedule the ASAP queues hold WAITING descriptors, each once. -/
theorem State.ScheduleSound.tableSound {s : State} (h : s.ScheduleSound) (counts : ∀ d, (s.desc d).CountsSound) :
    s.TableSound :=
  ⟨counts, h.queuedOnce, fun d hd => ((h.queued d).1 hd).1⟩

/-! ### Updates outside the counts -/

/-- The table's soundness is about the records and the ASAP queues. -/
theorem State.TableSound.congr {s t : State} (h : s.TableSound) (store : t.store = s.store)
    (asap : t.sched.asap = s.sched.asap) : t.TableSound := by
  have hdesc : t.desc = s.desc := funext fun d => by rw [State.desc, store, State.desc]
  exact ⟨hdesc ▸ h.counts, asap ▸ h.once, by rw [asap, hdesc]; exact h.waiting⟩

/-- A change that reaches none of the counts. -/
theorem State.KeepsCounts.of_eq {s t : State}
    (h : (t.clock, t.echo.quietRun, t.echo.streak, t.sched.asap, t.store, t.ports) =
      (s.clock, s.echo.quietRun, s.echo.streak, s.sched.asap, s.store, s.ports)) : s.KeepsCounts t := by
  simp only [Prod.mk.injEq] at h
  obtain ⟨clock, quietRun, streak, asap, store, ports⟩ := h
  refine ⟨fun h => clock ▸ h, fun h => ?_, fun h => h.congr store asap, fun q h => ?_, fun h => ?_⟩
  · rwa [EchoMonitor.CountsSound, quietRun, streak]
  · rwa [State.port, ports]
  · rwa [State.PoolSound, store]

/-- A change of the Echo Monitor, beside what no count is about. -/
theorem State.KeepsCounts.of_echo {s t : State}
    (h : (t.clock, t.sched, t.store, t.ports) = (s.clock, s.sched, s.store, s.ports))
    (echo : s.echo.CountsSound → t.echo.CountsSound) : s.KeepsCounts t := by
  simp only [Prod.mk.injEq] at h
  obtain ⟨clock, sched, store, ports⟩ := h
  exact ⟨fun h => clock ▸ h, echo, fun h => h.congr store (congrArg Schedule.asap sched),
    fun q h => by rwa [State.port, ports], fun h => by rwa [State.PoolSound, store]⟩

/-- A change of the table and the queues, beside what no count is about. -/
theorem State.KeepsCounts.of_table {s t : State}
    (h : (t.clock, t.echo, t.store.pool, t.ports) = (s.clock, s.echo, s.store.pool, s.ports))
    (table : s.TableSound → t.TableSound) : s.KeepsCounts t := by
  simp only [Prod.mk.injEq] at h
  obtain ⟨clock, echo, pool, ports⟩ := h
  exact ⟨fun h => clock ▸ h, fun h => echo ▸ h, table, fun q h => by rwa [State.port, ports],
    fun h => by rwa [State.PoolSound, pool]⟩

/-! ### Updates of a port -/

theorem State.keepsCounts_modPort (s : State) (p : Port) (f : PortState → PortState)
    (hf : (s.port p).CountsSound → (f (s.port p)).CountsSound) : s.KeepsCounts (s.modPort p f) where
  clock := id
  echo := id
  table h := ⟨h.counts, h.once, h.waiting⟩
  ports q h := by
    rw [State.port_modPort]
    split
    · next hq => exact hf (hq ▸ h)
    · exact h
  pool := id

theorem State.keepsCounts_modQueue (s : State) (p : Port) (f : EventQueue → EventQueue) :
    s.KeepsCounts (s.modQueue p f) :=
  s.keepsCounts_modPort p _ id

theorem State.keepsCounts_place (s : State) (p : Port) (e : Entry) : s.KeepsCounts (s.place p e) :=
  s.keepsCounts_modQueue p _

theorem State.keepsCounts_reply (s : State) {p : Port} {code tag : Byte} {r : ResultCode} {data : ReplyData} :
    s.KeepsCounts (s.reply p code tag r data) :=
  s.keepsCounts_place p _

/-- A command that acts and then answers. -/
theorem State.KeepsCounts.reply {s t : State} (h : s.KeepsCounts t) {p : Port} {code tag : Byte} {r : ResultCode}
    {data : ReplyData} : s.KeepsCounts (t.reply p code tag r data) :=
  h.trans t.keepsCounts_reply

/-- A check of a command: the REPLY that refuses it, or what follows where the check passes. -/
theorem State.KeepsCounts.check {s t : State} {c : Prop} [Decidable c] {p : Port} {code tag : Byte} {r : ResultCode}
    {data : ReplyData} (h : ¬ c → s.KeepsCounts t) : s.KeepsCounts (if c then s.reply p code tag r data else t) := by
  split
  · exact s.keepsCounts_reply
  · next hc => exact h hc

theorem State.keepsCounts_modLink (s : State) (p : Port) (f : Link → Link)
    (hf : (s.port p).link.CountsSound → (f (s.port p).link).CountsSound) : s.KeepsCounts (s.modLink p f) :=
  s.keepsCounts_modPort p _ fun h => ⟨h.1, hf h.2⟩

/-- R145: a CLOSED or LAPSED session without lease and form. -/
theorem Session.countsSound_of_over {x : Session} (hs : x.state = .closed ∨ x.state = .lapsed) (hl : x.lease = none)
    (hf : x.form = none) : x.CountsSound := by
  rcases hs with hs | hs <;> simp [Session.CountsSound, Session.active, hs, hl, hf]

/-- R158: a completed session is CLOSED. -/
theorem State.keepsCounts_complete (s : State) (p : Port) : s.KeepsCounts (s.complete p) := by
  rcases s.complete_cases p with ⟨-, e⟩ | ⟨-, -, e⟩ <;> rw [e]
  · exact .refl s
  · exact s.keepsCounts_modPort p _ fun h => ⟨Session.countsSound_of_over (.inl rfl) rfl rfl, h.2⟩

/-- R151: renewal gives the lease its whole period. -/
theorem PortState.countsSound_renewed {q : PortState} (h : q.CountsSound) :
    PortState.CountsSound { q.renewed with link := q.link } := by
  obtain ⟨⟨hleased, hform, hlease⟩, hlink⟩ := h
  obtain ⟨hs, hl, hf, -⟩ := q.renewed_keeps
  refine ⟨⟨?_, ?_, fun c hc => ?_⟩, hlink⟩
  · simpa only [hl, Session.active, hs] using hleased
  · simpa only [hf, hs] using hform
  · have hc' : q.session.lease = some c := hl ▸ hc
    simp only [PortState.renewed, hc']
    split
    · exact le_rfl
    · exact hlease c hc'

theorem State.keepsCounts_renew (s : State) (p : Port) : s.KeepsCounts (s.renew p) := by
  rw [State.renew_eq]
  exact s.keepsCounts_modPort p _ PortState.countsSound_renewed

/-! ### Updates of the table and the queues -/

/-- A record put in place: its counts are in range, and it is WAITING if it is queued. -/
theorem State.keepsCounts_setDesc (s : State) (d : DescIdx) (x : Desc)
    (hx : s.TableSound → x.CountsSound ∧ (d ∈ s.sched.asap.order → x.state = .waiting)) :
    s.KeepsCounts (s.setDesc d x) := by
  refine .of_table rfl fun h => ⟨fun e => ?_, h.once, fun e he => ?_⟩
  · rw [State.desc_setDesc]
    split
    · exact (hx h).1
    · exact h.counts e
  · rw [State.desc_setDesc]
    split
    · next hed => exact (hx h).2 (hed ▸ he)
    · exact h.waiting e he

/-- A record changed in place that keeps its state. -/
theorem State.keepsCounts_modDesc (s : State) (d : DescIdx) (f : Desc → Desc)
    (hc : (s.desc d).CountsSound → (f (s.desc d)).CountsSound) (hs : (f (s.desc d)).state = (s.desc d).state) :
    s.KeepsCounts (s.modDesc d f) :=
  s.keepsCounts_setDesc d _ fun h => ⟨hc (h.counts d), fun hd => hs.trans (h.waiting d hd)⟩

/-- A record put in the place of one that is not WAITING. -/
theorem State.keepsCounts_setDesc_of_not_waiting (s : State) (d : DescIdx) (x : Desc) (hd : (s.desc d).state ≠ .waiting)
    (hx : (s.desc d).CountsSound → x.CountsSound) : s.KeepsCounts (s.setDesc d x) :=
  s.keepsCounts_setDesc d x fun h => ⟨hx (h.counts d), fun hq => absurd (h.waiting d hq) hd⟩

theorem Desc.countsSound_blank : Desc.blank.CountsSound := ⟨Nat.zero_le _, Nat.zero_le _⟩

/-- R34 step 2. -/
theorem State.keepsCounts_unlink (s : State) (d : DescIdx) : s.KeepsCounts (s.unlink d) := by
  refine .of_table rfl fun h => ⟨fun e => ?_, h.once, fun e he => ?_⟩
  · rw [State.desc_unlink]
    split
    · exact h.counts e
    · exact h.counts e
  · rw [State.desc_unlink]
    split
    · exact h.waiting e he
    · exact h.waiting e he

/-- R45: those that stay keep the ASAP order. -/
theorem AsapQueues.order_remove (q : AsapQueues) (keep : DescIdx → Bool) :
    (q.remove keep).order = q.order.filter keep := by
  simp [AsapQueues.remove, AsapQueues.order]

theorem State.keepsCounts_keepScheduled (s : State) (keep : DescIdx → Bool) : s.KeepsCounts (s.keepScheduled keep) := by
  refine .of_table rfl fun h => ⟨h.counts, ?_, fun d hd => ?_⟩
  · rw [State.keepScheduled_asap, AsapQueues.order_remove]
    exact h.once.filter _
  · rw [State.keepScheduled_asap, AsapQueues.order_remove] at hd
    exact h.waiting d (List.mem_of_mem_filter hd)

/-- R34 step 4: what a departure leaves of the schedule. -/
theorem State.leave_sched (s : State) (d : DescIdx) :
    (s.leave d).sched = (s.keepScheduled fun e => decide (e ≠ d)).sched := by
  simp only [State.leave]
  split <;> rfl

theorem State.keepsCounts_leave (s : State) (d : DescIdx) : s.KeepsCounts (s.leave d) := by
  refine (s.keepsCounts_keepScheduled fun e => decide (e ≠ d)).trans ?_
  simp only [State.leave]
  split
  · exact .of_eq rfl
  · exact .refl _

/-- A descriptor that has left is in no queue. -/
theorem State.not_mem_order_leave (s : State) (d : DescIdx) : d ∉ (s.leave d).sched.asap.order := by
  rw [State.leave_sched, State.keepScheduled_asap, AsapQueues.order_remove]
  simp

/-- R45: d joins one queue at its tail. -/
theorem AsapQueues.order_join_perm (q : AsapQueues) (pri : Fin 4) (d : DescIdx) :
    (q.join pri d).order.Perm (d :: q.order) := by
  have tail (a b : List DescIdx) : (a ++ [d] ++ b).Perm (d :: (a ++ b)) := by
    rw [List.append_assoc, List.singleton_append]
    exact List.perm_middle
  fin_cases pri
  · simp [AsapQueues.join, AsapQueues.order]
  · simpa [AsapQueues.join, AsapQueues.order] using tail (q.q0 ++ q.q1) (q.q2 ++ q.q3)
  · simpa [AsapQueues.join, AsapQueues.order] using tail (q.q0 ++ (q.q1 ++ q.q2)) q.q3
  · simpa [AsapQueues.join, AsapQueues.order] using tail (q.q0 ++ (q.q1 ++ (q.q2 ++ q.q3))) []

/-- R53, R62: a descriptor that was not WAITING becomes so and joins a queue. -/
theorem State.TableSound.enqueue {s t : State} (h : s.TableSound) {d : DescIdx} {x : Desc} {pri : Fin 4}
    (hd : (s.desc d).state ≠ .waiting) (hx : x.CountsSound) (hw : x.state = .waiting)
    (hdesc : ∀ e, t.desc e = if e = d then x else s.desc e) (hasap : t.sched.asap = s.sched.asap.join pri d) :
    t.TableSound := by
  have hnot : d ∉ s.sched.asap.order := fun hq => hd (h.waiting d hq)
  have hperm := s.sched.asap.order_join_perm pri d
  rw [← hasap] at hperm
  refine ⟨fun e => ?_, hperm.nodup_iff.2 (List.nodup_cons.2 ⟨hnot, h.once⟩), fun e he => ?_⟩
  · rw [hdesc]
    split
    · exact hx
    · exact h.counts e
  · rw [hdesc]
    split
    · exact hw
    · next hne => exact h.waiting e ((List.mem_cons.1 (hperm.mem_iff.1 he)).resolve_left hne)

/-- R62: the release of a HELD successor. -/
theorem State.keepsCounts_release (s : State) (c : DescIdx) (stop : Time) (hc : (s.desc c).state = .held) :
    s.KeepsCounts (s.release c stop) :=
  .of_table rfl fun h => h.enqueue (x := (s.desc c).released stop s.now s.sched.counter) (by simp [hc])
    ⟨Nat.zero_le _, (h.counts c).2⟩ rfl (fun e => s.desc_release c e stop) rfl

/-! ### Retirement -/

/-- R34: a retirement, with the chain that follows it. -/
theorem State.keepsCounts_retire (fuel : Nat) (d : DescIdx) (o : FrameOutcome) (stop : Time) (defer : Option Port)
    (s : State) : s.KeepsCounts (State.retire fuel d o stop defer s) := by
  induction fuel generalizing d o s with
  | zero => exact .refl s
  | succ fuel ih =>
    have placed : ∀ owner : Option Port, s.KeepsCounts (match owner with
        | some p => s.place p (frameDone (s.desc d) o stop)
        | none => s) := fun owner => by
      cases owner
      · exact .refl s
      · exact s.keepsCounts_place _ _
    have chained : ∀ t : State, t.KeepsCounts (match (t.desc d).successor with
        | none => t
        | some c =>
          if (t.desc c).state = .held then
            if o.releases then
              if (t.desc c).expiry.open_ t.now then t.release c stop
              else State.retire fuel c (.expired .window) stop defer
                (t.modDesc c fun y => { y with notBefore := some (plus stop (y.offset.getD 0)) })
            else State.retire fuel c o.passOn stop defer t
          else t) := fun t => by
      split
      · exact .refl t
      · next c _ =>
        split
        · next hheld =>
          split
          · split
            · exact t.keepsCounts_release c stop hheld
            · exact (t.keepsCounts_modDesc c _ id rfl).trans (ih _ _ _)
          · exact ih _ _ _
        · exact .refl t
    have freed : ∀ t : State, t.KeepsCounts ((t.leave d).setDesc d Desc.blank) := fun t =>
      (t.keepsCounts_leave d).trans (State.keepsCounts_setDesc _ _ _ fun _ =>
        ⟨Desc.countsSound_blank, fun hd => absurd hd (t.not_mem_order_leave d)⟩)
    have completed : ∀ (owner : Option Port) (t : State), t.KeepsCounts (match owner with
        | some p => if defer = some p then t else t.complete p
        | none => t) := fun owner t => by
      cases owner
      · exact .refl t
      · dsimp only
        split
        · exact .refl t
        · exact t.keepsCounts_complete _
    simp only [State.retire]
    split
    · exact ((((placed _).trans (State.keepsCounts_unlink _ d)).trans (chained _)).trans (freed _)).trans (completed _ _)
    · exact .refl s

theorem State.keepsCounts_retireNow (s : State) (d : DescIdx) (o : FrameOutcome) (stop : Time) (defer : Option Port) :
    s.KeepsCounts (s.retireNow d o stop defer) :=
  State.keepsCounts_retire chainFuel d o stop defer s

theorem State.keepsCounts_releaseClaim (s : State) (p : Port) : s.KeepsCounts (s.releaseClaim p) := by
  rw [State.releaseClaim_eq]
  exact .of_eq rfl

/-- R18: the truncate mark reaches no count. -/
theorem State.keepsCounts_markOnLine (s : State) (p : Port) : s.KeepsCounts (s.markOnLine p) := by
  unfold State.markOnLine
  split
  · split
    · exact s.keepsCounts_modDesc _ _ id rfl
    · exact .refl s
  · exact .refl s

/-- R159: the purge walk. -/
theorem State.keepsCounts_purgeWalk (s : State) (p : Port) : s.KeepsCounts (s.purgeWalk p) := by
  have one : ∀ (t : State) (d : DescIdx), t.KeepsCounts (State.purgeOne p t d) := fun t d => by
    unfold State.purgeOne
    split
    · exact t.keepsCounts_retireNow _ _ _ _
    · exact .refl t
  unfold State.purgeWalk
  generalize s.admittedOf p ++ s.unadmittedOf p = l
  induction l generalizing s with
  | nil => exact .refl s
  | cons d l ih => exact (one s d).trans (ih _)

/-- R184 steps 2 and 3. -/
theorem State.keepsCounts_discardAll (s : State) (p : Port) : s.KeepsCounts (s.discardAll p) := by
  refine .of_table rfl fun h => ⟨fun d => ?_, ?_, fun d hd => ?_⟩
  · rw [State.desc_discardAll]
    unfold Desc.afterReset
    split
    · split
      · exact h.counts d
      · exact Desc.countsSound_blank
    · exact h.counts d
  · exact ((s.keepsCounts_keepScheduled _).table h).once
  · have hmem : d ∈ s.sched.asap.order.filter fun d => !(s.desc d).ownedBy p := by
      rw [← AsapQueues.order_remove]; exact hd
    obtain ⟨hq, hp⟩ := List.mem_filter.1 hmem
    rw [State.desc_discardAll, Desc.afterReset, if_neg (by simpa using hp)]
    exact h.waiting d hq

/-! ### The line -/

/-- R71: the flag of a condition change reaches no count. -/
theorem PortState.countsSound_lineFlagged {q : PortState} (h : q.CountsSound) : q.lineFlagged.CountsSound := by
  unfold PortState.lineFlagged
  split
  · exact h
  · exact h

theorem State.keepsCounts_moveLine (s : State) (l : LineState) (cause : Cause) : s.KeepsCounts (s.moveLine l cause) := by
  rcases s.moveLine_cases l cause with ⟨-, e⟩ | ⟨-, e⟩ <;> rw [e]
  · exact .of_eq rfl
  · refine ⟨id, id, fun h => ⟨h.counts, h.once, h.waiting⟩, fun q h => ?_, id⟩
    rw [State.port, Ports.get_map]
    exact PortState.countsSound_lineFlagged h

/-- R89: the streak is cleared. -/
theorem State.keepsCounts_enterDisabled (s : State) (cause : Cause) : s.KeepsCounts (s.enterDisabled cause) :=
  (s.keepsCounts_moveLine .disabled cause).trans (.of_echo rfl fun h => ⟨h.1, Nat.zero_le _⟩)

/-- R121: the streak rises below its limit only. -/
theorem State.keepsCounts_faultEntry (s : State) (cause : Cause) : s.KeepsCounts (s.faultEntry cause) := by
  unfold State.faultEntry
  split
  · exact s.keepsCounts_enterDisabled cause
  · split
    · next hs =>
      have hstreak : (s.moveLine .fault cause).echo.streak < 3 := by rw [State.moveLine_echo]; exact hs
      exact (s.keepsCounts_moveLine .fault cause).trans (.of_echo rfl fun h => ⟨h.1, hstreak⟩)
    · exact s.keepsCounts_enterDisabled .faultLimit

theorem State.keepsCounts_strobeFor (s : State) (owner : Option Port) (asked : Bool) :
    s.KeepsCounts (s.strobeFor owner asked) := by
  unfold State.strobeFor
  split
  · split
    · exact s.keepsCounts_modPort _ _ id
    · exact .refl s
  · exact .refl s

theorem State.keepsCounts_beginRepetition (s : State) : s.KeepsCounts s.beginRepetition := .of_eq rfl

theorem State.keepsCounts_restEncoder (s : State) : s.KeepsCounts s.restEncoder := .of_eq rfl

/-! ### Start decisions -/

/-- R82: a frame that goes on the line has left its queue. -/
theorem State.keepsCounts_goOnLine (s : State) (d : DescIdx) : s.KeepsCounts (s.goOnLine d) := by
  have left : d ∉ (s.keepScheduled fun e => decide (e ≠ d)).sched.asap.order := by
    rw [State.keepScheduled_asap, AsapQueues.order_remove]
    simp
  have set := State.keepsCounts_setDesc (s.keepScheduled fun e => decide (e ≠ d)) d
    { s.desc d with state := .onLine, actualStart := some s.now, repsSent := 0, mismatches := 0 }
    fun h => ⟨⟨(h.counts d).1, Nat.zero_le _⟩, fun hd => absurd hd left⟩
  unfold State.goOnLine
  refine State.KeepsCounts.trans ?_ (State.keepsCounts_strobeFor _ _ _)
  refine State.KeepsCounts.trans ?_ (State.keepsCounts_beginRepetition _)
  exact (((s.keepsCounts_keepScheduled _).trans set).trans (State.keepsCounts_moveLine _ .busy _)).trans (.of_eq rfl)

/-- R81: a walk counts a descriptor at most once, and none at the limit. -/
theorem State.TableSound.bump {s : State} (h : s.TableSound) (l : List DescIdx) (once : l.Nodup)
    (below : ∀ d ∈ l, (s.desc d).bypass < 8) : (s.bump l).TableSound := by
  unfold State.bump
  induction l generalizing s with
  | nil => exact h
  | cons d l ih =>
    obtain ⟨hd, once⟩ := List.nodup_cons.1 once
    have hset := (s.keepsCounts_modDesc d (fun x => { x with bypass := x.bypass + 1 })
      (fun hc => ⟨below d List.mem_cons_self, hc.2⟩) rfl).table
    refine ih (hset h) once fun e he => ?_
    have hne : e ≠ d := fun hed => hd (hed ▸ he)
    rw [State.desc_modDesc, if_neg hne]
    exact below e (List.mem_cons_of_mem _ he)

/-- R81: bypass counts reach the table only. -/
theorem State.bump_frame (s : State) (l : List DescIdx) :
    (s.bump l).clock = s.clock ∧ (s.bump l).echo = s.echo ∧ (s.bump l).store.pool = s.store.pool ∧
      (s.bump l).ports = s.ports := by
  unfold State.bump
  induction l generalizing s with
  | nil => exact ⟨rfl, rfl, rfl, rfl⟩
  | cons d l ih => exact ih (s.modDesc d _)

theorem State.keepsCounts_bump (s : State) (l : List DescIdx)
    (hl : s.TableSound → l.Nodup ∧ ∀ d ∈ l, (s.desc d).bypass < 8) : s.KeepsCounts (s.bump l) := by
  obtain ⟨hclock, hecho, hpool, hports⟩ := s.bump_frame l
  exact .of_table (by rw [hclock, hecho, hpool, hports]) fun h => h.bump l (hl h).1 (hl h).2

theorem State.keepsCounts_attempt (s : State) (d : DescIdx) (l : List DescIdx)
    (hl : s.TableSound → l.Nodup ∧ ∀ d ∈ l, (s.desc d).bypass < 8) : s.KeepsCounts (s.attempt d l) := by
  unfold State.attempt
  split
  · exact (s.keepsCounts_bump l hl).trans (State.keepsCounts_goOnLine _ d)
  · exact s.keepsCounts_faultEntry .blocked

/-- R80, R81: the walk of the ASAP order counts each descriptor it passes once, and only below the limit. -/
theorem State.asapWalk_counted (s : State) (l counted : List DescIdx) {d : DescIdx} {res : List DescIdx}
    (hw : s.asapWalk l counted = some (d, res)) (once : (counted ++ l).Nodup)
    (below : ∀ e ∈ counted, (s.desc e).bypass < 8) : res.Nodup ∧ ∀ e ∈ res, (s.desc e).bypass < 8 := by
  induction l generalizing counted with
  | nil => simp [State.asapWalk] at hw
  | cons c l ih =>
    simp only [State.asapWalk] at hw
    split at hw
    · exact ih counted hw (once.sublist (List.Sublist.append_left (List.sublist_cons_self c l) counted)) below
    · split at hw
      · obtain ⟨-, rfl⟩ := Prod.mk.inj (Option.some.inj hw)
        exact ⟨once.sublist (List.sublist_append_left _ _), below⟩
      · split at hw
        · next hlt =>
          refine ih (counted ++ [c]) hw (by simpa using once) fun e he => ?_
          rcases List.mem_append.1 he with he | he
          · exact below e he
          · rw [List.mem_singleton.1 he]; exact hlt
        · simp at hw

theorem State.keepsCounts_asapFirstFit (s : State) : s.KeepsCounts s.asapFirstFit := by
  unfold State.asapFirstFit
  split
  · next hw =>
    exact s.keepsCounts_attempt _ _ fun h => s.asapWalk_counted _ [] hw (by simpa using h.once) (by simp)
  · exact .refl s

theorem State.keepsCounts_decideLoop (fuel : Nat) (s : State) : s.KeepsCounts (State.decideLoop fuel s) := by
  have timed : ∀ (t : State) (d : DescIdx), t.KeepsCounts (t.attempt d []) := fun t d =>
    t.keepsCounts_attempt d [] fun _ => ⟨List.nodup_nil, by simp⟩
  induction fuel generalizing s with
  | zero => exact .refl s
  | succ fuel ih =>
    simp only [State.decideLoop]
    split
    · exact s.keepsCounts_asapFirstFit
    · split
      · exact s.keepsCounts_asapFirstFit
      · split
        · exact timed s _
        · split
          · split
            · exact timed s _
            · exact (s.keepsCounts_retireNow _ _ _ _).trans (ih _)
          · exact s.keepsCounts_asapFirstFit

/-- R77, R78: a dispatch decision event. -/
theorem State.keepsCounts_startDecision (s : State) : s.KeepsCounts s.startDecision := by
  unfold State.startDecision
  split
  · exact State.keepsCounts_decideLoop _ s
  · exact .refl s

/-- An event or a command that ends with a start decision. -/
theorem State.KeepsCounts.decide {s t : State} (h : s.KeepsCounts t) : s.KeepsCounts t.startDecision :=
  h.trans t.keepsCounts_startDecision

theorem State.KeepsCounts.decideIfLeft {s t : State} (h : s.KeepsCounts t) (u : State) :
    s.KeepsCounts (t.decideIfLeft u) := by
  unfold State.decideIfLeft
  split
  · exact h.decide
  · exact h

theorem State.KeepsCounts.decideIfPurged {s t : State} (h : s.KeepsCounts t) (u : State) :
    s.KeepsCounts (t.decideIfPurged u) := by
  unfold State.decideIfPurged
  split
  · exact h.decide
  · exact h

/-! ### Frame ends -/

theorem State.keepsCounts_frameEnd (s : State) (d : DescIdx) : s.KeepsCounts (s.frameEnd d) := by
  have streak : ∀ (t : State) (o : FrameOutcome), t.KeepsCounts (t.clearStreak o) := fun t o => by
    unfold State.clearStreak
    split
    · exact .of_echo rfl fun h => ⟨h.1, Nat.zero_le _⟩
    · exact .refl t
  unfold State.frameEnd
  refine State.KeepsCounts.trans ?_ (State.keepsCounts_strobeFor _ _ _)
  refine State.KeepsCounts.trans ?_ (streak _ _)
  refine State.KeepsCounts.trans ?_ (State.keepsCounts_retireNow _ _ _ _ _)
  exact .of_eq rfl

theorem State.keepsCounts_echoAbort (s : State) (d : DescIdx) (why : AbortDetail) (cause : Cause) :
    s.KeepsCounts (s.echoAbort d why cause) := by
  have marks : ∀ t : State, t.KeepsCounts { t with
      disp := { t.disp with phase := none, slot := none }
      echo := if why = .echo then { t.echo with abortPending := false, counted := false } else t.echo } := fun t => by
    cases why
    · exact .of_eq rfl
    · exact .of_eq rfl
  unfold State.echoAbort
  refine State.KeepsCounts.trans ?_ (State.keepsCounts_faultEntry _ cause)
  refine State.KeepsCounts.trans ?_ (marks _)
  refine State.KeepsCounts.trans ?_ (State.keepsCounts_strobeFor _ _ _)
  exact s.keepsCounts_restEncoder.trans (State.keepsCounts_retireNow _ _ _ _ _)

theorem State.keepsCounts_laterRepetition (s : State) (d : DescIdx) : s.KeepsCounts (s.laterRepetition d) := by
  unfold State.laterRepetition
  split
  · exact .of_eq rfl
  · exact s.keepsCounts_echoAbort d .blocked .blocked

theorem State.keepsCounts_endBody (s : State) (d : DescIdx) : s.KeepsCounts (s.endBody d) := by
  unfold State.endBody
  refine (s.keepsCounts_modDesc d (fun x => { x with repsSent := x.repsSent + 1 }) id rfl).trans ?_
  dsimp only
  split
  · split
    · exact State.keepsCounts_laterRepetition _ d
    · exact .of_eq rfl
  · exact State.keepsCounts_frameEnd _ d

/-- R118: the mismatch count saturates. -/
theorem State.keepsCounts_countMismatch (s : State) (d : DescIdx) : s.KeepsCounts (s.countMismatch d) :=
  (s.keepsCounts_modDesc d (fun x => { x with mismatches := min Config.mismatchMax ((s.desc d).mismatches + 1) })
    (fun h => ⟨h.1, Nat.min_le_left _ _⟩) rfl).trans (.of_eq rfl)

theorem State.keepsCounts_echoStopped (s : State) (d : DescIdx) : s.KeepsCounts (s.echoStopped d) := by
  unfold State.echoStopped
  refine State.KeepsCounts.trans ?_ (State.keepsCounts_echoAbort _ d .echo .echo)
  split
  · exact s.keepsCounts_modDesc d _ id rfl
  · exact .refl s

/-! ### The clock -/

/-- R1: REFCLK cycles that stop short of the tick boundary. -/
theorem State.keepsCounts_cycles (s : State) (n : Nat)
    (hn : s.clock.CountsSound → s.clock.prescale + n < s.clock.divisor) : s.KeepsCounts (State.cycles n s) := by
  obtain ⟨hclock, -, -, hstore, hsched, -, -, hports, -⟩ := State.cycles_frame n s
  obtain ⟨hrun, -, -, hstreak, -⟩ := State.cycles_echo n s
  refine ⟨fun h => ?_, fun h => ?_, fun h => h.congr hstore (congrArg Schedule.asap hsched), fun q h => ?_, fun h => ?_⟩
  · rw [hclock]
    exact ⟨h.1, hn h⟩
  · rwa [EchoMonitor.CountsSound, hrun, hstreak]
  · rwa [State.port, hports]
  · rwa [State.PoolSound, hstore]

theorem PortState.countsSound_tick {q : PortState} (h : q.CountsSound) : q.tick.CountsSound := by
  obtain ⟨⟨hleased, hform, hlease⟩, hlink⟩ := h
  refine ⟨?_, hlink⟩
  rw [PortState.tick_session]
  split
  · exact ⟨hleased, hform, fun c hc => (Nat.sub_le _ _).trans (hlease c hc)⟩
  · exact ⟨hleased, hform, hlease⟩

/-- R1, R2, R114, R153: the cycles left of a tick and its boundary. -/
theorem State.keepsCounts_wholeTick (s : State) : s.KeepsCounts s.wholeTick := by
  obtain ⟨hclock, -, -, hstore, hsched, -, -, hports, -⟩ := State.cycles_frame s.cyclesLeft s
  obtain ⟨-, -, -, hstreak, -⟩ := State.cycles_echo s.cyclesLeft s
  refine ⟨fun h => ?_, fun h => ⟨?_, ?_⟩, fun h => h.congr hstore (congrArg Schedule.asap hsched), fun q h => ?_,
    fun h => ?_⟩
  · have hdiv : s.wholeTick.clock.divisor = s.clock.divisor := by rw [State.wholeTick, State.boundary_divisor, hclock]
    obtain ⟨hd, -⟩ := h
    refine ⟨hdiv ▸ hd, ?_⟩
    rw [hdiv, State.wholeTick, State.boundary_prescale]
    omega
  · show EchoMonitor.quietRun (State.cycles s.cyclesLeft s).echo.tickRun ≤ 255
    unfold EchoMonitor.tickRun
    dsimp only
    split
    · exact Nat.min_le_left _ _
    · exact Nat.zero_le _
  · exact hstreak ▸ h.2
  · rw [State.wholeTick, State.port_boundary, State.port, hports]
    exact PortState.countsSound_tick h
  · rwa [State.PoolSound, State.wholeTick, State.boundary_store, hstore]

end Sys2Proof.Machine
end

section
/-! The counts in their ranges, continued: links, requests and the rows of the table (O59). -/

namespace Sys2Proof.Machine

/-! ### Links -/

/-- R175, R180: the bounds that hold in every state of a link. -/
def Link.Bounded (l : Link) : Prop := l.buffer.length ≤ 41 ∧ l.crcErrors ≤ 255 ∧ l.framingErrors ≤ 255

theorem Link.CountsSound.bounded {l : Link} (h : l.CountsSound) : l.Bounded := ⟨h.1.1, h.2⟩

/-- R175: outside KIND and REQUEST nothing else counts. -/
theorem Link.Bounded.apart {l : Link} (h : l.Bounded) (hs : l.state ≠ .kind ∧ l.state ≠ .request) :
    l.CountsSound :=
  ⟨⟨h.1, fun e => absurd e hs.1, fun e => absurd e hs.2⟩, h.2⟩

theorem Link.CountsSound.framingError {l : Link} (h : l.CountsSound) : l.framingError.CountsSound :=
  ⟨h.1, h.2.1, raise_le _⟩

theorem Link.CountsSound.crcError {l : Link} (h : l.CountsSound) : l.crcError.CountsSound :=
  ⟨h.1, raise_le _, h.2.2⟩

theorem Link.Bounded.fall {l : Link} (h : l.Bounded) (summary : List Byte) : (l.fall summary).CountsSound :=
  ⟨⟨h.1, fun _ => rfl, fun hr => by simp at hr⟩, h.2⟩

theorem Link.Bounded.rise {l : Link} (h : l.Bounded) : l.rise.CountsSound := by
  have rest : Link.CountsSound { l with state := .resting, out := [], pad := 0 } := Link.Bounded.apart h (by simp)
  unfold Link.rise
  dsimp only
  split
  · exact rest.framingError
  · exact rest.framingError
  all_goals exact rest

/-- R177: a link enters REQUEST with one byte received. -/
theorem Link.Bounded.readKind {l : Link} (h : l.Bounded) (hc : l.byteCount = 1) (b : Byte) :
    (l.readKind b).CountsSound := by
  unfold Link.readKind
  split
  · refine ⟨⟨h.1, fun hk => by simp at hk, fun _ => ⟨hc.ge, fun h2 => ?_⟩⟩, h.2⟩
    simp only [hc] at h2
    omega
  · split
    · exact Link.Bounded.apart h (by simp)
    · split
      · exact Link.Bounded.apart h (by simp)
      · split
        · exact Link.Bounded.apart h (by simp)
        · exact Link.CountsSound.framingError (Link.Bounded.apart h (by simp))

/-- R178: the length byte of a REQUEST. -/
theorem Link.Bounded.readLength {l : Link} (h : l.Bounded) (hs : l.state = .request) (hc : l.byteCount = 2) (n : Byte) :
    (l.readLength n).CountsSound := by
  unfold Link.readLength
  split
  · exact Link.CountsSound.framingError (Link.Bounded.apart h (by simp))
  · next hn =>
    simp only [Config.headBytes, Config.maxMessage, not_or, Nat.not_lt] at hn
    refine ⟨⟨Nat.zero_le _, fun hk => by simp [hs] at hk, fun _ => ⟨?_, fun _ => ⟨?_, Nat.zero_le _, hn⟩⟩⟩, h.2⟩
    · simp only [hc]; omega
    · simp [hc]

/-- R178: a byte of the message that leaves room for the CRC byte. -/
theorem Link.CountsSound.readMessage {l : Link} (h : l.CountsSound) (hs : l.state = .request) (hc : l.byteCount ≠ 1)
    (hd : l.byteCount ≠ l.length + 2) (b : Byte) :
    Link.CountsSound { l.drive 1 with buffer := l.buffer ++ [b], crc := crcByte l.crc b } := by
  obtain ⟨⟨hb, -, hreq⟩, herr⟩ := h
  obtain ⟨h1, hlong⟩ := hreq hs
  obtain ⟨hcount, hle, h3, h40⟩ := hlong (by omega)
  have hlen : (l.buffer ++ [b]).length = l.buffer.length + 1 := by simp
  refine ⟨⟨?_, fun hk => ?_, fun _ => ⟨?_, fun _ => ⟨?_, ?_, h3, h40⟩⟩⟩, herr⟩
  · simp only [hlen]; omega
  · simp [hs] at hk
  · simp
  · simp only [hlen, Link.drive_byteCount]; omega
  · simp only [hlen, Link.drive_length]; omega

/-- R175: a byte keeps the link sound, but for the CRC byte of a REQUEST, which decides. -/
theorem Link.CountsSound.byte {l : Link} (h : l.CountsSound) (hd : l.state = .request → l.decisive = false) (b : Byte)
    (head : Option Entry) : (l.byte b head).CountsSound := by
  have hm : (l.drive 1).Bounded := h.bounded
  unfold Link.byte
  dsimp only
  split
  · next hs => exact hm.readKind (by rw [Link.drive_byteCount, h.1.2.1 hs]) b
  · next hs =>
    split
    · next hc => exact hm.readLength hs (by rw [Link.drive_byteCount, hc]) b
    · next hc => exact h.readMessage hs hc (by simpa [Link.decisive, hs] using hd hs) b
  · next hs =>
    split
    · exact Link.Bounded.apart hm (by simp [hs])
    · split
      · exact Link.Bounded.apart hm (by simp)
      · exact Link.Bounded.apart hm (by simp [hs])
  all_goals
    next hs => exact Link.Bounded.apart hm (by simp [hs])

/-- R175, R177: bytes that decide nothing. -/
theorem Link.CountsSound.clock {l m : Link} (h : l.CountsSound) (head : Option Entry) (bs : List Byte)
    (hm : Link.clock head bs l = some m) : m.CountsSound := by
  induction bs generalizing l with
  | nil => exact Option.some.inj hm ▸ h
  | cons b bs ih =>
    simp only [Link.clock] at hm
    split at hm
    · simp at hm
    · next hd => exact ih (h.byte (fun _ => by simpa using hd) b head) hm

/-- R175 to R178: a stretch of a transaction that comes to nothing. -/
theorem Link.CountsSound.void {l m : Link} (h : l.CountsSound) (summary : List Byte) (head : Option Entry)
    (stretch : Stretch) (hm : l.void summary head stretch = some m) : m.CountsSound := by
  have begun : Link.CountsSound (if stretch.falls then l.rise.fall summary else l) := by
    split
    · exact h.bounded.rise.bounded.fall summary
    · exact h
  unfold Link.void at hm
  split at hm
  · next k hk =>
    have := begun.clock head _ hk
    split at hm
    · split at hm
      · simp at hm
      · exact Option.some.inj hm ▸ this.bounded.rise
    · exact Option.some.inj hm ▸ this
  · simp at hm

/-- R179: the link when the CRC byte of a REQUEST has completed. -/
theorem Link.CountsSound.answered {l : Link} (h : l.CountsSound) (msg : List Byte) (crc : Byte) (a : Acceptance)
    (hl : msg.length ≤ 40) : (l.answered msg crc a).CountsSound :=
  Link.Bounded.apart ⟨by simpa [Link.answered] using Nat.lt_succ_of_le hl, h.2⟩
    (by simp [Link.answered])

theorem Link.CountsSound.confirmRead {l : Link} (h : l.CountsSound) : l.confirmRead.CountsSound :=
  Link.Bounded.apart h.bounded (by simp [Link.confirmRead])

theorem Link.CountsSound.confirmFailed {l : Link} (h : l.CountsSound) (confirm : Option Byte) :
    (l.confirmFailed confirm).CountsSound := by
  cases confirm with
  | some b => exact h.confirmRead.framingError
  | none => exact Link.Bounded.rise h.bounded

/-- R178: an undelimited REQUEST is ignored from its length byte on. -/
theorem Link.CountsSound.tooLong {l : Link} (h : l.CountsSound) (hk : l.state = .kind) (msg : List Byte) (crc : Byte)
    (hl : 40 < msg.length) : ((requestBytes msg crc).foldl (fun m b => m.byte b none) l).CountsSound := by
  have ignored : ∀ (bs : List Byte) (m : Link), m.CountsSound → m.state = .ignore →
      (bs.foldl (fun m b => m.byte b none) m).CountsSound := by
    intro bs
    induction bs with
    | nil => exact fun m hm _ => hm
    | cons b bs ih =>
      exact fun m hm hs => ih _ (hm.byte (by simp [hs]) b none) (by simp [Link.byte, hs])
  have hc := h.1.2.1 hk
  have hlen : Config.maxMessage < (byteOf (min 255 msg.length)).toNat := by
    simp only [byteOf, BitVec.toNat_ofNat, Config.maxMessage]
    omega
  have first : (l.byte Config.kindRequest none).CountsSound := h.byte (by simp [hk]) _ none
  have hs : (l.byte Config.kindRequest none).state = .request := by simp [Link.byte, hk, Link.readKind]
  have hb : (l.byte Config.kindRequest none).byteCount = 1 := by simp [Link.byte, hk, Link.readKind, hc]
  have hd : (l.byte Config.kindRequest none).decisive = false := by simp [Link.decisive, hs, hb]
  have second : ((l.byte Config.kindRequest none).byte (byteOf (min 255 msg.length)) none).state = .ignore := by
    rw [Link.byte, hs]
    simp [hb, Link.readLength, hlen]
  exact ignored (msg ++ [crc]) _ (first.byte (fun _ => hd) _ none) second

/-- R182: the link of a port at a byte of a POLL. -/
theorem PortState.pollByte_link (q : PortState) (b : Byte) :
    (q.pollByte b).link = q.link.byte b q.queue.entries.head? ∧ (q.pollByte b).session = q.session := by
  unfold PortState.pollByte
  dsimp only
  split <;> exact ⟨rfl, rfl⟩

/-- R177: a link enters REQUEST only by the byte that names it. -/
theorem Link.byte_state_ne_request {l : Link} (hs : l.state ≠ .request) {b : Byte} (hb : b ≠ Config.kindRequest)
    (head : Option Entry) : (l.byte b head).state ≠ .request := by
  unfold Link.byte
  dsimp only
  split
  · unfold Link.readKind
    rw [if_neg hb]
    split
    · simp
    · split
      · simp
      · split <;> simp
  · next h => exact absurd h hs
  · split
    · exact hs
    · split
      · simp
      · exact hs
  all_goals exact hs

/-- R182: the bytes of a POLL name no REQUEST, so none of them is received as a message. -/
theorem PortState.CountsSound.pollBytes {q : PortState} (h : q.CountsSound) (hs : q.link.state ≠ .request) (bs : List Byte)
    (hb : ∀ b ∈ bs, b ≠ Config.kindRequest) : (bs.foldl PortState.pollByte q).CountsSound := by
  induction bs generalizing q with
  | nil => exact h
  | cons b bs ih =>
    obtain ⟨hlink, hsession⟩ := q.pollByte_link b
    refine ih ⟨hsession ▸ h.1, hlink ▸ h.2.byte (fun e => absurd e hs) b _⟩ ?_
      fun c hc => hb c (List.mem_cons_of_mem _ hc)
    rw [hlink]
    exact Link.byte_state_ne_request hs (hb b List.mem_cons_self) _

/-! ### Transactions -/

/-- R175: a link that goes on, or that PCSn's fall has put into KIND. -/
theorem State.keepsCounts_begun (s : State) (p : Port) (goesOn : Bool) : s.KeepsCounts (s.begun p goesOn) := by
  rw [State.begun_cases]
  refine s.keepsCounts_modLink p _ fun h => ?_
  cases goesOn
  · exact h.bounded.rise.bounded.fall _
  · exact h

theorem State.keepsCounts_answered (s : State) (p : Port) (msg : List Byte) (crc : Byte) (a : Acceptance)
    (hl : msg.length ≤ 40) : s.KeepsCounts (s.answered p msg crc a) :=
  (s.keepsCounts_begun p _).trans (State.keepsCounts_modLink _ p _ fun h => h.answered msg crc a hl)

/-- R179: a REQUEST that is refused raises an error count at most. -/
theorem State.keepsCounts_refuse (s : State) (p : Port) (msg : List Byte) (crc : Byte) (a : Acceptance)
    (hl : msg.length ≤ 40) : s.KeepsCounts (s.refuse p msg crc a) := by
  have k := s.keepsCounts_answered p msg crc a hl
  cases a
  · exact k
  · exact k
  · exact k.trans (State.keepsCounts_modLink _ p _ Link.CountsSound.crcError)
  · exact k.trans (State.keepsCounts_modLink _ p _ Link.CountsSound.framingError)

theorem State.keepsCounts_tooLong (s : State) (p : Port) (msg : List Byte) (hl : 40 < msg.length) :
    s.KeepsCounts (s.tooLong p msg) := by
  refine (s.keepsCounts_begun p _).trans (State.keepsCounts_modLink _ p _ fun h => h.tooLong ?_ msg _ hl)
  rw [State.port_begun, if_pos rfl]
  split
  · next hk => exact of_decide_eq_true hk
  · rfl

/-- R179: a REQUEST keeps the counts where its command does. -/
theorem State.keepsCounts_request (s : State) (p : Port) (code tag : Byte) (fields : List Byte) (act : State → State)
    (hact : ∀ t : State, t.KeepsCounts (act t)) : s.KeepsCounts (s.request p code tag fields act) := by
  unfold State.request
  split
  · exact .refl s
  · dsimp only
    split
    · next hl => exact s.keepsCounts_tooLong p _ hl
    · next hl =>
      have hl : (message code tag fields).length ≤ 40 := Nat.le_of_not_lt hl
      split
      · exact ((s.keepsCounts_answered p _ _ _ hl).trans (State.keepsCounts_renew _ p)).trans (hact _)
      · exact s.keepsCounts_refuse p _ _ _ hl

/-- R182: a POLL. -/
theorem State.keepsCounts_pollLink (s : State) (p : Port) (bytes : Nat) : s.KeepsCounts (s.pollLink p bytes) := by
  refine (s.keepsCounts_begun p _).trans (State.keepsCounts_modPort _ p _ fun h => h.pollBytes ?_ _ fun b hb => ?_)
  · rw [State.port_begun, if_pos rfl]
    dsimp only
    split
    · next hk => rcases of_decide_eq_true hk with hk | hk <;> simp [hk]
    · simp
  · rcases List.mem_cons.1 (List.mem_of_mem_take (List.mem_of_mem_drop hb)) with rfl | hz
    · decide
    · rw [List.eq_of_mem_replicate hz]
      decide

/-- R184: a LINK_RESET of a link in IGNORE. -/
theorem State.keepsCounts_resetLink (s : State) (p : Port) : s.KeepsCounts (s.resetLink p) :=
  ((s.keepsCounts_releaseClaim p).trans (State.keepsCounts_discardAll _ p)).trans
    (State.keepsCounts_modPort _ p _ fun h =>
      ⟨Session.countsSound_of_over (.inl rfl) rfl rfl, h.2.1, Nat.zero_le _, Nat.zero_le _⟩)

/-! ### Sessions -/

/-- R160: a lapse. -/
theorem State.keepsCounts_lapse (s : State) (p : Port) : s.KeepsCounts (s.lapse p) :=
  ((((s.keepsCounts_releaseClaim p).trans (State.keepsCounts_purgeWalk _ p)).trans
    (State.keepsCounts_markOnLine _ p)).trans (State.keepsCounts_place _ p _)).trans
    (State.keepsCounts_modPort _ p _ fun h => ⟨Session.countsSound_of_over (.inr rfl) rfl rfl, h.2⟩)

/-- R150: a fresh lease. -/
theorem State.keepsCounts_startLease (s : State) (p : Port) (c : LeaseClass) : s.KeepsCounts (s.startLease p c) := by
  refine s.keepsCounts_modPort p _ fun h => ⟨⟨rfl, rfl, fun c' hc => ?_⟩, h.2⟩
  rw [← Option.some.inj hc]

/-- R156: a session that closes keeps its lease. -/
theorem State.keepsCounts_startClosing (s : State) (p : Port) (form : CloseForm) (hs : s.noSession p = false) :
    s.KeepsCounts (s.startClosing p form) := by
  refine (s.keepsCounts_releaseClaim p).trans (State.keepsCounts_modPort _ p _ fun h => ?_)
  obtain ⟨⟨hleased, -, hlease⟩, hlink⟩ := h
  have hactive : (s.port p).session.active = true := by simpa [State.noSession, State.hasSession] using hs
  rw [State.releaseClaim_eq] at hleased hlease hlink ⊢
  exact ⟨⟨hleased.trans hactive, rfl, hlease⟩, hlink⟩

/-! ### Commands -/

theorem State.keepsCounts_doOpen (p : Port) (tag : Byte) (fields : List Byte) (s : State) :
    s.KeepsCounts (State.doOpen p tag fields s) := by
  unfold State.doOpen
  dsimp only
  split
  · exact s.keepsCounts_reply
  · exact .check fun _ => .check fun _ => (s.keepsCounts_startLease p _).reply

theorem State.keepsCounts_doRenew (p : Port) (tag : Byte) (fields : List Byte) (n : Nat) (s : State) :
    s.KeepsCounts (State.doRenew p tag fields n s) :=
  .check fun _ => .check fun _ => s.keepsCounts_reply

theorem State.keepsCounts_doClose (p : Port) (tag : Byte) (fields : List Byte) (s : State) :
    s.KeepsCounts (State.doClose p tag fields s) := by
  refine .check fun hs => ?_
  have hs : s.noSession p = false := by simpa using hs
  split
  · exact s.keepsCounts_reply
  · have purged := ((s.keepsCounts_startClosing p .purge hs).trans (State.keepsCounts_purgeWalk _ p)).trans
      (State.keepsCounts_markOnLine _ p)
    exact (purged.reply.trans (State.keepsCounts_complete _ p)).decideIfLeft _
  · exact .check fun _ => (s.keepsCounts_startClosing p .drain hs).reply.trans (State.keepsCounts_complete _ p)

/-- R25: a descriptor allocated was FREE. -/
theorem State.not_live_of_firstFree {s : State} {d : DescIdx} (h : s.firstFree = some d) : (s.desc d).live = false := by
  simpa using List.find?_some h

theorem State.keepsCounts_doLoadBegin (p : Port) (tag : Byte) (fields : List Byte) (s : State) :
    s.KeepsCounts (State.doLoadBegin p tag fields s) := by
  refine .check fun _ => .check fun _ => ?_
  split
  · exact s.keepsCounts_reply
  · split
    · next d _ hfree =>
      have hd : (s.desc d).state ≠ .waiting := fun hw => by
        have := State.not_live_of_firstFree hfree
        simp [Desc.live, hw] at this
      exact (s.keepsCounts_setDesc_of_not_waiting d _ hd fun _ => ⟨Nat.zero_le _, Nat.zero_le _⟩).reply
    · exact s.keepsCounts_reply
    · exact s.keepsCounts_reply

/-- R29: the payload written keeps the pool's form. -/
theorem State.keepsCounts_loadPayload (s : State) (d : DescIdx) (offset : Nat) (payload : List Byte) :
    s.KeepsCounts (s.loadPayload d offset payload) := by
  have written : s.KeepsCounts
      { s with store := { s.store with pool := writePayload (s.desc d).segs offset payload s.store.pool } } :=
    ⟨id, id, fun h => ⟨h.counts, h.once, h.waiting⟩, fun _ => id, fun h => writePayload_wf _ _ _ _ h⟩
  exact written.trans (State.keepsCounts_modDesc _ d (fun x => { x with fill := offset + payload.length }) id rfl)

theorem State.keepsCounts_doLoadData (p : Port) (tag : Byte) (fields : List Byte) (s : State) :
    s.KeepsCounts (State.doLoadData p tag fields s) := by
  refine .check fun _ => ?_
  split
  · exact s.keepsCounts_reply
  · split
    · exact s.keepsCounts_reply
    · exact .check fun _ => .check fun _ => .check fun _ => (s.keepsCounts_loadPayload _ _ _).reply

theorem State.keepsCounts_doQueryFrame (p : Port) (tag : Byte) (fields : List Byte) (s : State) :
    s.KeepsCounts (State.doQueryFrame p tag fields s) := by
  refine .check fun _ => ?_
  split
  · exact s.keepsCounts_reply
  · split
    · exact s.keepsCounts_reply
    · split
      · exact s.keepsCounts_reply
      · exact s.keepsCounts_reply

/-- R51: a TIMED frame becomes WAITING in the timed list, and in no queue. -/
theorem State.keepsCounts_admitTimed (s : State) (d : DescIdx) (start : Time) (slip : Nat) :
    s.KeepsCounts (s.admitTimed d start slip) :=
  (s.keepsCounts_setDesc d ((s.desc d).admitTimed start slip s.prof.active s.sched.counter) fun h =>
    ⟨h.counts d, fun _ => rfl⟩).trans (.of_eq rfl)

theorem State.keepsCounts_submitTimed (s : State) (p : Port) (tag : Byte) (d : DescIdx) (t : Timing) (start : Time) :
    s.KeepsCounts (s.submitTimed p tag d t start) := by
  unfold State.submitTimed
  dsimp only
  split
  · exact s.keepsCounts_reply
  · exact s.keepsCounts_reply
  · exact s.keepsCounts_reply
  · split
    · exact s.keepsCounts_reply
    · exact (s.keepsCounts_admitTimed d start _).reply.decide

/-- R53: an ASAP frame that was LOADING joins its queue. -/
theorem State.keepsCounts_admitAsap (s : State) (d : DescIdx) (t : Timing) (hd : (s.desc d).state ≠ .waiting) :
    s.KeepsCounts (s.admitAsap d t) :=
  .of_table rfl fun h => h.enqueue (x := (s.desc d).admitAsap t s.now s.sched.counter) hd
    ⟨Nat.zero_le _, (h.counts d).2⟩ rfl (fun e => s.desc_setDesc d e _) rfl

theorem State.keepsCounts_submitAsap (s : State) (p : Port) (tag : Byte) (d : DescIdx) (t : Timing)
    (hd : (s.desc d).state ≠ .waiting) : s.KeepsCounts (s.submitAsap p tag d t) := by
  unfold State.submitAsap
  split
  · exact s.keepsCounts_reply
  · exact (s.keepsCounts_admitAsap d t hd).reply.decide

/-- R56: a CHAINED frame that was LOADING becomes HELD behind its predecessor. -/
theorem State.keepsCounts_admitChained (s : State) (d e : DescIdx) (t : Timing) (pred : Byte)
    (hd : (s.desc d).state ≠ .waiting) : s.KeepsCounts (s.admitChained d e t pred) :=
  (s.keepsCounts_setDesc_of_not_waiting d ((s.desc d).admitChained t pred) hd id).trans
    (State.keepsCounts_modDesc _ e _ id rfl)

theorem State.keepsCounts_submitChained (s : State) (p : Port) (tag : Byte) (d : DescIdx) (t : Timing) (pred : Byte)
    (hd : (s.desc d).state ≠ .waiting) : s.KeepsCounts (s.submitChained p tag d t pred) := by
  unfold State.submitChained
  split
  · exact s.keepsCounts_reply
  · next e _ =>
    refine .check fun _ => ?_
    split
    · exact s.keepsCounts_reply
    · split
      · exact s.keepsCounts_reply
      · exact s.keepsCounts_reply
      · exact (s.keepsCounts_admitChained d e t pred hd).reply

theorem State.keepsCounts_doSubmit (p : Port) (tag : Byte) (fields : List Byte) (s : State) :
    s.KeepsCounts (State.doSubmit p tag fields s) := by
  refine .check fun _ => .check fun _ => ?_
  split
  · exact s.keepsCounts_reply
  · split
    · exact s.keepsCounts_reply
    · next d _ =>
      refine .check fun hloading => .check fun _ => .check fun _ => ?_
      have hd : (s.desc d).state ≠ .waiting := by
        rw [not_not.1 hloading]
        simp
      split
      · exact s.keepsCounts_submitTimed p tag d _ _
      · exact s.keepsCounts_submitAsap p tag d _ hd
      · exact s.keepsCounts_submitChained p tag d _ _ hd

theorem State.keepsCounts_cancelOnLine (s : State) (p : Port) (tag : Byte) (d : DescIdx) :
    s.KeepsCounts (s.cancelOnLine p tag d) := by
  unfold State.cancelOnLine
  dsimp only
  split
  · exact (s.keepsCounts_modDesc d (fun y => { y with truncate := true }) id rfl).reply
  · exact s.keepsCounts_reply

theorem State.keepsCounts_cancelWaiting (s : State) (p : Port) (tag : Byte) (d : DescIdx) :
    s.KeepsCounts (s.cancelWaiting p tag d) :=
  ((s.keepsCounts_retireNow d _ _ _).reply.trans (State.keepsCounts_complete _ p)).decideIfLeft _

theorem State.keepsCounts_doCancel (p : Port) (tag : Byte) (fields : List Byte) (s : State) :
    s.KeepsCounts (State.doCancel p tag fields s) := by
  refine .check fun _ => ?_
  split
  · exact s.keepsCounts_reply
  · split
    · exact s.keepsCounts_reply
    · split
      · exact s.keepsCounts_cancelOnLine p tag _
      · exact s.keepsCounts_cancelWaiting p tag _

theorem State.keepsCounts_doQueryFree (p : Port) (tag : Byte) (fields : List Byte) (s : State) :
    s.KeepsCounts (State.doQueryFree p tag fields s) := by
  refine .check fun _ => ?_
  split
  · exact s.keepsCounts_reply
  · refine .check fun _ => ?_
    split
    · exact s.keepsCounts_reply
    · exact s.keepsCounts_reply

theorem State.keepsCounts_enableLine (s : State) : s.KeepsCounts s.enableLine := by
  unfold State.enableLine
  split
  · exact (s.keepsCounts_moveLine _ _).decide
  · exact s.keepsCounts_moveLine _ _
  all_goals exact .refl s

theorem State.keepsCounts_doLineEnable (p : Port) (tag : Byte) (fields : List Byte) (s : State) :
    s.KeepsCounts (State.doLineEnable p tag fields s) := by
  unfold State.doLineEnable
  split
  · exact s.keepsCounts_reply
  · exact .check fun _ => s.keepsCounts_enableLine.reply

theorem State.keepsCounts_disableLine (s : State) : s.KeepsCounts s.disableLine := by
  unfold State.disableLine
  split
  · exact s.keepsCounts_enterDisabled _
  · exact s.keepsCounts_enterDisabled _
  · exact s.keepsCounts_moveLine _ _
  all_goals exact .refl s

theorem State.keepsCounts_doLineDisable (p : Port) (tag : Byte) (fields : List Byte) (s : State) :
    s.KeepsCounts (State.doLineDisable p tag fields s) := by
  unfold State.doLineDisable
  split
  · exact s.keepsCounts_reply
  · exact s.keepsCounts_disableLine.reply

theorem State.keepsCounts_doQueryLine (p : Port) (tag : Byte) (fields : List Byte) (s : State) :
    s.KeepsCounts (State.doQueryLine p tag fields s) :=
  .check fun _ => (s.keepsCounts_modQueue p _).reply

theorem State.keepsCounts_doRecover (p : Port) (tag : Byte) (fields : List Byte) (s : State) :
    s.KeepsCounts (State.doRecover p tag fields s) := by
  unfold State.doRecover
  split
  · exact s.keepsCounts_reply
  · exact .check fun _ => .check fun _ => (s.keepsCounts_moveLine _ _).decide.reply

theorem State.keepsCounts_doClaim (p : Port) (tag : Byte) (fields : List Byte) (s : State) :
    s.KeepsCounts (State.doClaim p tag fields s) :=
  have granted : s.KeepsCounts (s.grant p) := .of_eq rfl
  .check fun _ => .check fun _ => .check fun _ => .check fun _ => granted.reply

theorem State.keepsCounts_doRelease (p : Port) (tag : Byte) (fields : List Byte) (s : State) :
    s.KeepsCounts (State.doRelease p tag fields s) := by
  unfold State.doRelease
  split
  · exact s.keepsCounts_reply
  · exact (s.keepsCounts_releaseClaim p).reply

theorem State.keepsCounts_doStage (p : Port) (tag : Byte) (fields : List Byte) (s : State) :
    s.KeepsCounts (State.doStage p tag fields s) := by
  have staged : ∀ w, s.KeepsCounts { s with prof := { s.prof with staged := some w } } := fun _ => .of_eq rfl
  refine .check fun _ => ?_
  split
  · exact s.keepsCounts_reply
  · refine .check fun _ => ?_
    split
    · exact s.keepsCounts_reply
    · exact (staged _).reply

/-- R140: the revalidation walk. -/
theorem State.keepsCounts_revalidate (s : State) : s.KeepsCounts s.revalidate.state := by
  have one : ∀ (w : Walk) (d : DescIdx), w.state.KeepsCounts (w.judge d).state := fun w d => by
    unfold Walk.judge
    dsimp only
    split
    · exact State.keepsCounts_retireNow _ _ _ _ _
    · exact State.keepsCounts_modDesc _ d (fun x => { x with resEnd := some _ }) id rfl
  have walk : ∀ (l : List DescIdx) (w : Walk), w.state.KeepsCounts (l.foldl Walk.judge w).state := fun l => by
    induction l with
    | nil => exact fun w => .refl _
    | cons d l ih => exact fun w => (one w d).trans (ih _)
  exact walk s.sched.timed { state := s, lastEnd := none, rescheduled := 0, broken := 0 }

theorem State.keepsCounts_doCommit (p : Port) (tag : Byte) (fields : List Byte) (s : State) :
    s.KeepsCounts (State.doCommit p tag fields s) := by
  have activated : s.KeepsCounts s.activate := .of_eq rfl
  unfold State.doCommit
  split
  · exact s.keepsCounts_reply
  · exact .check fun _ => (activated.trans (State.keepsCounts_revalidate _)).reply

theorem State.keepsCounts_doQueryProfile (p : Port) (tag : Byte) (fields : List Byte) (s : State) :
    s.KeepsCounts (State.doQueryProfile p tag fields s) := by
  unfold State.doQueryProfile
  dsimp only
  split
  · exact s.keepsCounts_reply
  · exact s.keepsCounts_reply
  · exact .check fun _ => s.keepsCounts_reply

theorem State.keepsCounts_doQueryTime (p : Port) (tag : Byte) (fields : List Byte) (s : State) :
    s.KeepsCounts (State.doQueryTime p tag fields s) :=
  .check fun _ => s.keepsCounts_reply

theorem State.keepsCounts_doReadCapture (p : Port) (tag : Byte) (fields : List Byte) (s : State) :
    s.KeepsCounts (State.doReadCapture p tag fields s) := by
  refine .check fun _ => ?_
  split
  · exact (s.keepsCounts_modPort p PortState.emptySlot id).reply
  · exact s.keepsCounts_reply

/-- R11: the prescale count restarts. -/
theorem State.keepsCounts_setTime (s : State) (t : Time) :
    s.KeepsCounts { s with clock := { s.clock with time := t, prescale := 0 } } :=
  ⟨fun h => ⟨h.1, (Nat.zero_le _).trans_lt h.2⟩, id, fun h => ⟨h.counts, h.once, h.waiting⟩, fun _ => id, id⟩

theorem State.keepsCounts_doSetTime (p : Port) (tag : Byte) (fields : List Byte) (s : State) :
    s.KeepsCounts (State.doSetTime p tag fields s) := by
  refine .check fun _ => ?_
  split
  · exact s.keepsCounts_reply
  · exact .check fun _ => .check fun _ => .check fun _ => (s.keepsCounts_setTime _).reply

theorem State.keepsCounts_doQueryLink (p : Port) (tag : Byte) (fields : List Byte) (s : State) :
    s.KeepsCounts (State.doQueryLink p tag fields s) :=
  .check fun _ => s.keepsCounts_reply

/-! ### Rows of the table -/

/-- A row's outcome keeps the counts. -/
def State.KeptBy (s : State) (o : Host.Outcome State Fault Refusal) : Prop := ∀ t, o = .next t → s.KeepsCounts t

theorem State.KeepsCounts.next {s t : State} (h : s.KeepsCounts t) : s.KeptBy (.next t) := fun u hu => by
  obtain rfl := Host.Outcome.next.inj hu
  exact h

/-- An event that is due, or that leaves the state as it is (log 1). -/
theorem State.KeepsCounts.due {s t : State} {c : Prop} [Decidable c] (h : c → s.KeepsCounts t) :
    s.KeptBy (if c then .next t else .next s) := by
  split
  · next hc => exact (h hc).next
  · exact (State.KeepsCounts.refl s).next

/-- While RESETn is low the row has no effect. -/
theorem State.KeepsCounts.running {s t : State} {c : Prop} [Decidable c] (h : ¬ c → s.KeepsCounts t) :
    s.KeptBy (if c then .next s else .next t) := by
  split
  · exact (State.KeepsCounts.refl s).next
  · next hc => exact (h hc).next

/-- R185: the blocks after reset, with the divisor and the links as given. -/
theorem State.keepsCounts_of_reset {s t : State} (clock : s.clock.CountsSound → t.clock.CountsSound)
    (echo : t.echo = State.reset.echo) (sched : t.sched = State.reset.sched) (store : t.store = State.reset.store)
    (ports : ∀ q, (t.port q).CountsSound) : s.KeepsCounts t := by
  have table : State.reset.TableSound :=
    ⟨fun d => by rw [State.desc_reset]; exact Desc.countsSound_blank, List.nodup_nil, fun d hd => by cases hd⟩
  refine ⟨clock, fun _ => ?_, fun _ => table.congr store (congrArg Schedule.asap sched), fun q _ => ports q, fun _ => ?_⟩
  · rw [echo]
    exact ⟨Nat.zero_le _, Nat.zero_le _⟩
  · rw [State.PoolSound, store]
    exact State.reset_poolSound

/-- R185: a port after reset, and after a release that finds PCSn low or high. -/
theorem PortState.countsSound_reset (q : PortState) (hs : q.session = {}) (hb : q.link.Bounded)
    (hk : q.link.state = .resting ∨ q.link.state = .ignore) : q.CountsSound := by
  refine ⟨hs ▸ Session.countsSound_of_over (.inl rfl) rfl rfl, hb.apart ?_⟩
  rcases hk with hk | hk <;> simp [hk]

theorem execChipReset_kept (s : State) : s.KeptBy (execChipReset s) := by
  refine State.KeepsCounts.next (State.keepsCounts_of_reset (fun h => ⟨h.1, ?_⟩) rfl rfl rfl fun q => ?_)
  · obtain ⟨hd, -⟩ := h
    show 0 < s.clock.divisor
    omega
  · cases q
    all_goals exact PortState.countsSound_reset _ rfl ⟨Nat.zero_le _, Nat.zero_le _, Nat.zero_le _⟩ (.inl rfl)

theorem execResetRelease_kept (tbsel : BitVec 2) (pcsLow : BitVec 4) (s : State) :
    s.KeptBy (execResetRelease tbsel pcsLow s) := by
  have released : ∀ b : Bool, (PortState.released {} b).CountsSound := fun b =>
    PortState.countsSound_reset _ rfl ⟨Nat.zero_le _, Nat.zero_le _, Nat.zero_le _⟩
      (by cases b <;> simp [PortState.released])
  refine State.KeepsCounts.due fun _ => State.keepsCounts_of_reset (fun _ => ?_) rfl rfl rfl fun q => ?_
  · have := tbsel.isLt
    simp only [TimeBase.CountsSound, tickDivisor, State.blocksReset, State.reset]
    omega
  · cases q
    all_goals exact released _

/-- R6, R7: samples of PCAPT reach neither the session nor the link. -/
theorem PortState.CountsSound.samples {q : PortState} (h : q.CountsSound) (now : Time) (l : List Level) :
    (l.foldl (fun r x => r.sampleCapture now x) q).CountsSound := by
  have one : ∀ (r : PortState) (x : Level),
      (r.sampleCapture now x).session = r.session ∧ (r.sampleCapture now x).link = r.link := fun r x => by
    unfold PortState.sampleCapture PortState.captureEdge
    dsimp only
    split
    · split <;> exact ⟨rfl, rfl⟩
    · exact ⟨rfl, rfl⟩
  induction l generalizing q with
  | nil => exact h
  | cons x l ih =>
    obtain ⟨hsession, hlink⟩ := one q x
    exact ih ⟨hsession ▸ h.1, hlink ▸ h.2⟩

theorem execLsenseChange_kept (cycles : Nat) (level : Level) (s : State) : s.KeptBy (execLsenseChange cycles level s) := by
  unfold execLsenseChange
  split
  · exact State.KeepsCounts.next (.of_eq rfl)
  · refine State.KeepsCounts.next ((s.keepsCounts_cycles (min cycles (s.cyclesLeft - 1)) fun h => ?_).trans (.of_eq rfl))
    have := h.2
    simp only [State.cyclesLeft]
    omega

theorem execCarrierBurstEnd_kept (s : State) : s.KeptBy (execCarrierBurstEnd s) := by
  unfold execCarrierBurstEnd
  split
  · exact (State.KeepsCounts.refl s).next
  · split
    · next n hn =>
      refine (s.keepsCounts_cycles n fun h => ?_).next
      unfold State.burstLeft at hn
      dsimp only at hn
      split at hn
      · next hin =>
        obtain ⟨-, -, hlt⟩ := hin
        rw [← Option.some.inj hn]
        simp only [State.cyclesLeft] at hlt
        omega
      · simp at hn
    · exact (State.KeepsCounts.refl s).next

theorem execBodyEnd_kept (s : State) : s.KeptBy (execBodyEnd s) := by
  unfold execBodyEnd
  split
  · exact (s.keepsCounts_endBody _).next
  · exact (State.KeepsCounts.refl s).next

theorem execPreambleEnd_kept (s : State) : s.KeptBy (execPreambleEnd s) := by
  unfold execPreambleEnd
  split
  · exact State.KeepsCounts.next (.of_eq rfl)
  · exact (State.KeepsCounts.refl s).next

theorem execGapEnd_kept (s : State) : s.KeptBy (execGapEnd s) := by
  unfold execGapEnd
  split
  · split
    · exact (s.keepsCounts_frameEnd _).next
    · exact (s.keepsCounts_laterRepetition _).next
  · exact (State.KeepsCounts.refl s).next

theorem execGuardEnd_kept (s : State) : s.KeptBy (execGuardEnd s) := by
  have ended : s.KeepsCounts { s with disp := { s.disp with phase := none } } := .of_eq rfl
  unfold execGuardEnd
  split
  · split
    · exact (ended.trans (State.keepsCounts_moveLine _ .idle _)).decide.next
    · exact (s.keepsCounts_enterDisabled .drainEnd).next
    all_goals exact (State.KeepsCounts.refl s).next
  · exact (State.KeepsCounts.refl s).next

theorem execComparisonEvent_kept (s : State) : s.KeptBy (execComparisonEvent s) := by
  unfold execComparisonEvent
  split
  · exact .due fun _ => s.keepsCounts_countMismatch _
  · exact (State.KeepsCounts.refl s).next

theorem execEchoStop_kept (s : State) : s.KeptBy (execEchoStop s) := by
  unfold execEchoStop
  split
  · exact (s.keepsCounts_echoStopped _).next
  · exact (State.KeepsCounts.refl s).next

theorem execHoldEnd_kept (s : State) : s.KeptBy (execHoldEnd s) := by
  unfold execHoldEnd
  split
  · split
    · exact (s.keepsCounts_moveLine .idle .holdEnd).decide.next
    · exact State.KeepsCounts.next (.of_eq rfl)
  · exact (State.KeepsCounts.refl s).next

theorem execUnknownCommand_kept (p : Port) (code tag : Byte) (fields : List Byte) (s : State) :
    s.KeptBy (execUnknownCommand p code tag fields s) :=
  .running fun _ => s.keepsCounts_request p code tag fields _ fun t => t.keepsCounts_reply

theorem execVoidTransaction_kept (p : Port) (stretch : Stretch) (s : State) :
    s.KeptBy (execVoidTransaction p stretch s) := by
  unfold execVoidTransaction
  dsimp only
  split
  · exact (State.KeepsCounts.refl s).next
  · split
    · next l hl => exact (s.keepsCounts_modLink p (fun _ => l) fun h => h.void _ _ stretch hl).next
    · exact (State.KeepsCounts.refl s).next

theorem execLinkReset_kept (p : Port) (s : State) : s.KeptBy (execLinkReset p s) :=
  .running fun _ => (((s.keepsCounts_begun p _).trans (State.keepsCounts_modLink _ p _ Link.CountsSound.confirmRead)).trans
    (State.keepsCounts_resetLink _ p)).decideIfLeft s

theorem execRequestNotTaken_kept (p : Port) (msg : List Byte) (crc : Byte) (s : State) :
    s.KeptBy (execRequestNotTaken p msg crc s) := by
  unfold execRequestNotTaken
  split
  · exact (State.KeepsCounts.refl s).next
  · next hl =>
    have hl : msg.length ≤ 40 := Nat.le_of_not_lt fun h => hl (.inr (.inr h))
    split
    · exact (State.KeepsCounts.refl s).next
    · exact (s.keepsCounts_refuse p msg crc _ hl).next

/-- A row that is a REQUEST keeps the counts where its command does. -/
theorem State.keptBy_request (s : State) {p : Port} {code tag : Byte} {fields : List Byte} {act : State → State}
    (hact : ∀ t : State, t.KeepsCounts (act t)) : s.KeptBy (.next (s.request p code tag fields act)) :=
  (s.keepsCounts_request p code tag fields act hact).next

/-- Every row of the table keeps the counts and the pool's form. -/
theorem exec_kept (i : Instr) (s : State) : s.KeptBy (exec i s) := by
  cases i with
  | chipReset => exact execChipReset_kept s
  | resetRelease tbsel pcsLow => exact execResetRelease_kept tbsel pcsLow s
  | tick => exact .running fun _ => s.keepsCounts_wholeTick
  | leaseLow p => exact .due fun _ => s.keepsCounts_modQueue p _
  | lapse p => exact .due fun _ => (s.keepsCounts_lapse p).decideIfPurged s
  | captureEdge pin => exact .running fun _ => s.keepsCounts_modPort pin.port _ fun h => h.samples s.now pin.samples
  | timedStartReached => exact .due fun _ => s.keepsCounts_startDecision
  | notBeforeReached d =>
    exact .due fun _ => (s.keepsCounts_modDesc d (fun x => { x with eligible := true }) id rfl).decide
  | windowExpiry d => exact .due fun _ => (s.keepsCounts_retireNow d _ _ _).decide
  | asapExpiry d => exact .due fun _ => s.keepsCounts_retireNow d _ _ _
  | heldExpiryPassed d => exact .due fun _ => s.keepsCounts_modDesc d (fun x => { x with expiry := .passed }) id rfl
  | preambleEnd => exact execPreambleEnd_kept s
  | bodyEnd => exact execBodyEnd_kept s
  | gapEnd => exact execGapEnd_kept s
  | guardEnd => exact execGuardEnd_kept s
  | comparisonEvent => exact execComparisonEvent_kept s
  | echoStop => exact execEchoStop_kept s
  | holdEnd => exact execHoldEnd_kept s
  | strobePulseEnd p => exact .due fun _ => s.keepsCounts_modPort p (fun q => { q with strobe := .low }) id
  | openSession p tag fields => exact s.keptBy_request (State.keepsCounts_doOpen p tag fields)
  | renew p tag fields => exact s.keptBy_request (State.keepsCounts_doRenew p tag fields _)
  | close p tag fields => exact s.keptBy_request (State.keepsCounts_doClose p tag fields)
  | loadBegin p tag fields => exact s.keptBy_request (State.keepsCounts_doLoadBegin p tag fields)
  | loadData p tag fields => exact s.keptBy_request (State.keepsCounts_doLoadData p tag fields)
  | queryFrame p tag fields => exact s.keptBy_request (State.keepsCounts_doQueryFrame p tag fields)
  | submit p tag fields => exact s.keptBy_request (State.keepsCounts_doSubmit p tag fields)
  | cancel p tag fields => exact s.keptBy_request (State.keepsCounts_doCancel p tag fields)
  | queryFree p tag fields => exact s.keptBy_request (State.keepsCounts_doQueryFree p tag fields)
  | lineEnable p tag fields => exact s.keptBy_request (State.keepsCounts_doLineEnable p tag fields)
  | lineDisable p tag fields => exact s.keptBy_request (State.keepsCounts_doLineDisable p tag fields)
  | queryLine p tag fields => exact s.keptBy_request (State.keepsCounts_doQueryLine p tag fields)
  | recover p tag fields => exact s.keptBy_request (State.keepsCounts_doRecover p tag fields)
  | claim p tag fields => exact s.keptBy_request (State.keepsCounts_doClaim p tag fields)
  | release p tag fields => exact s.keptBy_request (State.keepsCounts_doRelease p tag fields)
  | stage p tag fields => exact s.keptBy_request (State.keepsCounts_doStage p tag fields)
  | commit p tag fields => exact s.keptBy_request (State.keepsCounts_doCommit p tag fields)
  | queryProfile p tag fields => exact s.keptBy_request (State.keepsCounts_doQueryProfile p tag fields)
  | queryTime p tag fields => exact s.keptBy_request (State.keepsCounts_doQueryTime p tag fields)
  | readCapture p tag fields => exact s.keptBy_request (State.keepsCounts_doReadCapture p tag fields)
  | setTime p tag fields => exact s.keptBy_request (State.keepsCounts_doSetTime p tag fields)
  | queryLink p tag fields => exact s.keptBy_request (State.keepsCounts_doQueryLink p tag fields)
  | unknownCommand p code tag fields => exact execUnknownCommand_kept p code tag fields s
  | poll p bytes => exact .running fun _ => s.keepsCounts_pollLink p bytes
  | voidTransaction p stretch => exact execVoidTransaction_kept p stretch s
  | linkReset p => exact execLinkReset_kept p s
  | failedConfirm p confirm =>
    exact .running fun _ => (s.keepsCounts_begun p _).trans
      (State.keepsCounts_modLink _ p _ fun h => h.confirmFailed confirm)
  | requestNotTaken p msg crc => exact execRequestNotTaken_kept p msg crc s
  | lsenseChange cycles level => exact execLsenseChange_kept cycles level s
  | carrierBurstEnd => exact execCarrierBurstEnd_kept s

/-- A step keeps the counts and the pool's form: the command at the front, or none (log 3). -/
theorem step_kept (s : State) : s.KeptBy (step s) := by
  unfold step
  split
  · exact (State.KeepsCounts.refl s).next
  · next c rest _ =>
    have taken : s.KeepsCounts { s with pending := rest } := .of_eq rfl
    exact fun t ht => taken.trans (exec_kept c _ t ht)

/-- Settles O59: every row keeps each block sound, the table with what the ASAP walk rests on in a sound schedule, and the
pool in canonical form. -/
theorem countsStaySound : Obligations.CountsStaySound := by
  refine ⟨fun s t hsched _ h hstep => ?_, fun s t h hstep => (step_kept s t hstep).pool h⟩
  obtain ⟨hclock, hecho, hdescs, hports⟩ := h.blocks
  have k := step_kept s t hstep
  exact .of_blocks (k.clock hclock) (k.echo hecho) (k.table (hsched.tableSound hdescs)) fun p => k.ports p (hports p)

end Sys2Proof.Machine
end

section
/-! The lapse that follows a command of the holder's (O46). -/

namespace Sys2Proof.Machine

/-- A CLOSING port that still holds the claim, the line DISABLED, and in the list one frame of its own, the last it has
live, whose window has passed. No invariant that O46 asks for excludes it; `State.ProfileSound`, which O46 does not ask for,
would: a CLOSE releases the claim (R134). -/
def closingHolder : State :=
  { State.reset with
    clock := { time := 100 }
    store := { State.reset.store with descs := State.reset.store.descs.set 0 { Desc.blank with
      state := .waiting, owner := some .hp0, cls := .timed, start := some 0, slip := some 0 } }
    sched := { timed := [0] }
    prof := { staged := some {}, holder := some .hp0 }
    ports := { hp0 := { session := {
      state := .closing, lease := some .l0, remaining := 10000, form := some .drain } } } }

theorem closingHolder_takes : closingHolder.Takes .hp0 [] :=
  ⟨rfl, .inl rfl, by decide, by decide +kernel⟩

/-- Every count of `closingHolder` is in its range. -/
theorem closingHolder_countsSound : closingHolder.CountsSound := by
  have link : Link.CountsSound {} := Link.Bounded.apart ⟨Nat.zero_le _, Nat.zero_le _, Nat.zero_le _⟩ (by decide)
  have closed : Session.CountsSound {} := Session.countsSound_of_over (.inl rfl) rfl rfl
  have counts : ∀ d, (closingHolder.desc d).bypass ≤ 8 ∧ (closingHolder.desc d).mismatches ≤ 65535 := by decide +kernel
  have table : closingHolder.TableSound :=
    ⟨counts, List.nodup_nil, fun d hd => by cases hd⟩
  refine .of_blocks ⟨.inr (.inr (.inl rfl)), by decide⟩ ⟨Nat.zero_le _, Nat.zero_le _⟩ table fun p => ?_
  cases p with
  | hp0 => exact ⟨⟨rfl, rfl, fun c hc => Option.some.inj hc ▸ le_rfl⟩, link⟩
  | hp1 | hp2 | hp3 => exact ⟨closed, link⟩

/-- R87, R84, R158: the LINE_ENABLE raises a start decision in which the frame retires EXPIRED, and with nothing live left
the CLOSING session completes: no session is left to lapse. -/
theorem closingHolder_lineEnable_completes :
    ((closingHolder.request .hp0 Config.codeLineEnable 0 [] (State.doLineEnable .hp0 0 [])).port .hp0).session.state =
      .closed := by
  decide +kernel

/-- A port without a session does not lapse, whatever its lease remaining (R153). -/
theorem execLapse_of_closed (s : State) (p : Port) (h : (s.port p).session.state = .closed) :
    exec (.lapse p) s = .next s := by
  show execLapse p s = _
  simp [execLapse, State.lapseDue, State.hasSession, Session.active, h]

/-- Refutes O46 by its last clause: in `closingHolder` the holder's LINE_ENABLE completes the CLOSING session, so the LAPSE
that should release the claim finds no session and leaves the Profile Unit as it is. -/
theorem not_lapseEndsSession : ¬ Obligations.LapseEndsSession := by
  rintro ⟨-, -, h⟩
  obtain ⟨t, v, ht, -, hholder, hv, hprof⟩ := h .hp0 0 [] closingHolder (.lineEnable .hp0 0 []) closingHolder_takes
    closingHolder_countsSound (.inr rfl) rfl List.mem_cons_self
  have hclosed : (t.port .hp0).session.state = .closed := by
    rw [← Host.Outcome.next.inj ht]
    exact closingHolder_lineEnable_completes
  rw [execLapse_of_closed _ _ (by simp [hclosed])] at hv
  have hkept : v.prof = t.prof := by rw [← Host.Outcome.next.inj hv, State.modSession_prof]
  have hnone : (t.profReleased .hp0).holder = none := by simp [State.profReleased, hholder]
  rw [← hprof, hkept, hholder] at hnone
  simp at hnone

end Sys2Proof.Machine
end

section
/-! The schedule, the line and the frame store stay sound (O52, O53, O56): one rule for each update of the table and the
schedule, and what a retirement leaves of them. -/

namespace Sys2Proof.Machine

/-! ### Records -/

/-- What every step but a LOAD_BEGIN makes of a live record: its body, tag and segments stay, and so does its owner unless a
LINK_RESET makes it an orphan (R39). -/
structure Desc.SameBody (x y : Desc) : Prop where
  live : y.live = x.live
  tag : y.tag = x.tag
  bodyBits : y.bodyBits = x.bodyBits
  preBits : y.preBits = x.preBits
  reps : y.reps = x.reps
  gap : y.gap = x.gap
  segs : y.segs = x.segs
  owner : y.owner = x.owner ∨ y.owner = none

/-- A record keeps its body, or is freed and holds no segment (R13). -/
def Desc.KeptOrFreed (x y : Desc) : Prop := x.SameBody y ∨ (y.live = false ∧ y.segs = [])

theorem Desc.SameBody.of_eq {x y : Desc}
    (h : (y.live, y.tag, y.bodyBits, y.preBits, y.reps, y.gap, y.segs, y.owner) =
      (x.live, x.tag, x.bodyBits, x.preBits, x.reps, x.gap, x.segs, x.owner)) : x.SameBody y := by
  simp only [Prod.mk.injEq] at h
  obtain ⟨live, tag, bodyBits, preBits, reps, gap, segs, owner⟩ := h
  exact ⟨live, tag, bodyBits, preBits, reps, gap, segs, .inl owner⟩

theorem Desc.SameBody.trans {x y z : Desc} (h : x.SameBody y) (k : y.SameBody z) : x.SameBody z :=
  ⟨k.1.trans h.1, k.2.trans h.2, k.3.trans h.3, k.4.trans h.4, k.5.trans h.5, k.6.trans h.6, k.7.trans h.7,
    k.owner.elim (fun e => e ▸ h.owner) .inr⟩

theorem Desc.keptOrFreed_blank (x : Desc) : x.KeptOrFreed Desc.blank := .inr ⟨rfl, rfl⟩

theorem Desc.KeptOrFreed.trans {x y z : Desc} (h : x.KeptOrFreed y) (k : y.KeptOrFreed z) : x.KeptOrFreed z := by
  rcases h with h | ⟨hlive, hsegs⟩
  · exact k.imp_left h.trans
  · rcases k with k | k
    · exact .inr ⟨k.live.trans hlive, k.segs.trans hsegs⟩
    · exact .inr k

/-- A descriptor live after the step has kept its body. -/
theorem Desc.KeptOrFreed.sameBody {x y : Desc} (h : x.KeptOrFreed y) (hy : y.live = true) : x.SameBody y :=
  h.resolve_right fun hfree => by simp [hfree.1] at hy

theorem Desc.KeptOrFreed.segs {x y : Desc} (h : x.KeptOrFreed y) : y.segs = x.segs ∨ y.segs = [] :=
  h.imp Desc.SameBody.segs And.right

/-- A descriptor owned after the step was owned before it. -/
theorem Desc.KeptOrFreed.ownedBy {x y : Desc} (h : x.KeptOrFreed y) {p : Port} (hy : y.ownedBy p = true) :
    x.ownedBy p = true := by
  simp only [Desc.ownedBy, Bool.and_eq_true, decide_eq_true_eq] at hy ⊢
  obtain ⟨hlive, howner⟩ := hy
  have k := h.sameBody hlive
  refine ⟨k.live ▸ hlive, ?_⟩
  rcases k.owner with e | e
  · exact e ▸ howner
  · simp [e] at howner

/-- Every record of the table keeps its body or is freed. -/
def State.KeepsBodies (s t : State) : Prop := ∀ d, (s.desc d).KeptOrFreed (t.desc d)

theorem State.KeepsBodies.refl (s : State) : s.KeepsBodies s := fun _ => .inl (.of_eq rfl)

theorem State.KeepsBodies.trans {s t u : State} (h : s.KeepsBodies t) (k : t.KeepsBodies u) : s.KeepsBodies u :=
  fun d => (h d).trans (k d)

/-! ### The store -/

/-- R19: no segment is held twice, record by record. -/
theorem State.segments_nodup_iff (s : State) : (s.store.descs.toList.flatMap fun x => x.segs).Nodup ↔
    (∀ d, (s.desc d).segs.Nodup) ∧ ∀ d e, d ≠ e → List.Disjoint (s.desc d).segs (s.desc e).segs := by
  have pairs : (List.finRange 48).Pairwise (Function.onFun List.Disjoint fun d => (s.desc d).segs) ↔
      ∀ d e, d ≠ e → List.Disjoint (s.desc d).segs (s.desc e).segs := by
    have : Std.Symm (Function.onFun List.Disjoint fun d => (s.desc d).segs) := ⟨fun _ _ h => List.Disjoint.symm h⟩
    exact ⟨fun h d e => h.forall (List.mem_finRange d) (List.mem_finRange e),
      fun h => (List.nodup_finRange 48).pairwise_of_forall_ne fun d _ e _ => h d e⟩
  rw [s.descs_toList, List.flatMap_map, List.nodup_flatMap, pairs]
  simp

/-- A sum over the table, as a list of records or place by place. -/
theorem State.sum_descs (s : State) (f : Desc → Nat) :
    (s.store.descs.toList.map f).sum = ∑ d, f (s.desc d) := by
  rw [s.descs_toList, List.map_map, ← List.ofFn_eq_map, List.sum_ofFn]
  rfl

/-- R20: the live count, place by place. -/
theorem State.liveCount_eq (s : State) (p : Port) :
    s.liveCount p = ∑ d, if (s.desc d).ownedBy p then 1 else 0 := by
  have counted (l : List Desc) : l.countP (Desc.ownedBy p) = (l.map fun x => if x.ownedBy p then 1 else 0).sum := by
    induction l with
    | nil => rfl
    | cons x l ih => by_cases h : x.ownedBy p = true <;> simp [h, ih, Nat.add_comm]
  rw [State.liveCount, counted, s.sum_descs]

/-- R20: the held count, place by place. -/
theorem State.heldCount_eq (s : State) (p : Port) :
    s.heldCount p = ∑ d, if (s.desc d).ownedBy p then (s.desc d).segs.length else 0 := by
  have summed (l : List Desc) : ((l.filter (Desc.ownedBy p)).map fun x => x.segs.length).sum =
      (l.map fun x => if x.ownedBy p then x.segs.length else 0).sum := by
    induction l with
    | nil => rfl
    | cons x l ih => by_cases h : x.ownedBy p = true <;> simp [h, ih]
  rw [State.heldCount, summed, s.sum_descs]

/-- A sum over the table after one record is set. -/
theorem State.sum_setDesc (s : State) (d : DescIdx) (x : Desc) (f : Desc → Nat) :
    (∑ e, f ((s.setDesc d x).desc e)) + f (s.desc d) = (∑ e, f (s.desc e)) + f x := by
  have rest : ∑ e ∈ {d}ᶜ, f ((s.setDesc d x).desc e) = ∑ e ∈ {d}ᶜ, f (s.desc e) :=
    Finset.sum_congr rfl fun e he => by
      rw [State.desc_setDesc, if_neg (by simpa using he)]
  rw [Fintype.sum_eq_add_sum_compl d, Fintype.sum_eq_add_sum_compl d fun e => f (s.desc e), rest,
    State.desc_setDesc, if_pos rfl]
  omega

/-- R20: the live count after one record is set. -/
theorem State.liveCount_setDesc (s : State) (d : DescIdx) (x : Desc) (p : Port) :
    (s.setDesc d x).liveCount p + (if (s.desc d).ownedBy p then 1 else 0) =
      s.liveCount p + if x.ownedBy p then 1 else 0 := by
  rw [State.liveCount_eq, State.liveCount_eq]
  exact s.sum_setDesc d x fun x => if x.ownedBy p then 1 else 0

/-- R20: the held count after one record is set. -/
theorem State.heldCount_setDesc (s : State) (d : DescIdx) (x : Desc) (p : Port) :
    (s.setDesc d x).heldCount p + (if (s.desc d).ownedBy p then (s.desc d).segs.length else 0) =
      s.heldCount p + if x.ownedBy p then x.segs.length else 0 := by
  rw [State.heldCount_eq, State.heldCount_eq]
  exact s.sum_setDesc d x fun x => if x.ownedBy p then x.segs.length else 0

/-- R15, R19, R20, R21: a store whose records keep their bodies or are freed stays sound. -/
theorem State.StoreSound.of_bodies {s t : State} (h : s.StoreSound) (k : s.KeepsBodies t) : t.StoreSound := by
  obtain ⟨nodup, disjoint⟩ := s.segments_nodup_iff.1 h.segments
  have segs (d : DescIdx) : (t.desc d).segs.Sublist (s.desc d).segs := by
    rcases (k d).segs with e | e <;> simp [e]
  refine ⟨fun d hd => ?_, fun d hd => ?_, t.segments_nodup_iff.2 ⟨fun d => (nodup d).sublist (segs d), fun d e hne => ?_⟩,
    fun p => ?_, fun p => ?_, fun p d e hd he htag => ?_⟩
  · have b := (k d).sameBody hd
    rw [b.bodyBits, b.preBits, b.reps, b.gap]
    exact h.shape d (b.live ▸ hd)
  · have b := (k d).sameBody hd
    rw [b.segs, b.bodyBits]
    exact h.whole d (b.live ▸ hd)
  · exact fun g hd he => disjoint d e hne ((segs d).subset hd) ((segs e).subset he)
  · refine le_trans ?_ (h.live p)
    rw [State.liveCount_eq, State.liveCount_eq]
    refine Finset.sum_le_sum fun d _ => ?_
    by_cases hd : (t.desc d).ownedBy p = true
    · simp [hd, (k d).ownedBy hd]
    · simp [hd]
  · refine le_trans ?_ (h.held p)
    rw [State.heldCount_eq, State.heldCount_eq]
    refine Finset.sum_le_sum fun d _ => ?_
    by_cases hd : (t.desc d).ownedBy p = true
    · simp [hd, (k d).ownedBy hd, (segs d).length_le]
    · simp [hd]
  · have live {d : DescIdx} (hd : (t.desc d).ownedBy p = true) : (t.desc d).live = true := by
      simp only [Desc.ownedBy, Bool.and_eq_true] at hd
      exact hd.1
    refine h.tags p d e ((k d).ownedBy hd) ((k e).ownedBy he) ?_
    rw [← ((k d).sameBody (live hd)).tag, htag, ((k e).sameBody (live he)).tag]

/-! ### The schedule -/

/-- What the schedule rests on of a record. -/
structure Desc.SameStanding (x y : Desc) : Prop where
  state : y.state = x.state
  cls : y.cls = x.cls
  start : y.start = x.start
  resStart : y.resStart = x.resStart
  resEnd : x.resEnd.isSome → y.resEnd.isSome
  owner : y.owner = x.owner

theorem Desc.SameStanding.of_eq {x y : Desc}
    (h : (y.state, y.cls, y.start, y.resStart, y.resEnd, y.owner) =
      (x.state, x.cls, x.start, x.resStart, x.resEnd, x.owner)) : x.SameStanding y := by
  simp only [Prod.mk.injEq] at h
  obtain ⟨state, cls, start, resStart, resEnd, owner⟩ := h
  exact ⟨state, cls, start, resStart, fun e => resEnd ▸ e, owner⟩

theorem Desc.SameStanding.trans {x y z : Desc} (h : x.SameStanding y) (k : y.SameStanding z) : x.SameStanding z :=
  ⟨k.1.trans h.1, k.2.trans h.2, k.3.trans h.3, k.4.trans h.4, k.5 ∘ h.5, k.6.trans h.6⟩

/-- A change of one record relates every record to what it was, where it does the one. -/
theorem State.modDesc_relates {R : Desc → Desc → Prop} (refl : ∀ x, R x x) (s : State) (d : DescIdx) (f : Desc → Desc)
    (h : R (s.desc d) (f (s.desc d))) (e : DescIdx) : R (s.desc e) ((s.modDesc d f).desc e) := by
  rw [State.desc_modDesc]
  split
  · next he => exact he ▸ h
  · exact refl _

theorem Desc.live_iff (x : Desc) : x.live = true ↔ x.state ≠ .free := by simp [Desc.live]

/-- R40: descriptors leave the structures in which they stand, and are then FREE or ON_LINE; the others keep their
standing. -/
theorem State.ScheduleSound.drop {s t : State} (h : s.ScheduleSound) (keep : DescIdx → Bool)
    (timed : t.sched.timed = s.sched.timed.filter keep) (asap : t.sched.asap = s.sched.asap.remove keep)
    (kept : ∀ d, keep d = true → (s.desc d).SameStanding (t.desc d))
    (dropped : ∀ d, keep d = false → (t.desc d).state = .free ∨ (t.desc d).state = .onLine) : t.ScheduleSound := by
  have order : t.sched.asap.order = s.sched.asap.order.filter keep := by rw [asap, AsapQueues.order_remove]
  have listed (P : FrameClass → Prop) {l : List DescIdx}
      (hl : ∀ d, d ∈ l ↔ (s.desc d).state = .waiting ∧ P (s.desc d).cls) (d : DescIdx) :
      d ∈ l.filter keep ↔ (t.desc d).state = .waiting ∧ P (t.desc d).cls := by
    rw [List.mem_filter, hl]
    cases hk : keep d with
    | true => rw [(kept d hk).state, (kept d hk).cls]; simp
    | false => rcases dropped d hk with e | e <;> simp [e]
  refine ⟨fun d => ?_, fun d => ?_, ?_, ?_, fun d hd => ?_, fun d hd => ?_, fun d hl ho => ?_⟩
  · rw [timed]
    exact listed (· = .timed) h.timed d
  · rw [order]
    exact listed (· ≠ .timed) h.queued d
  · rw [timed]
    exact h.timedOnce.filter _
  · rw [order]
    exact h.queuedOnce.filter _
  · cases hk : keep d with
    | true =>
      rw [(kept d hk).cls]
      exact h.held d ((kept d hk).state ▸ hd)
    | false => rcases dropped d hk with e | e <;> simp [e] at hd
  · rw [timed, List.mem_filter] at hd
    obtain ⟨hmem, hk⟩ := hd
    obtain ⟨a, b, hstart, hres, hend⟩ := h.starts d hmem
    obtain ⟨b', hb'⟩ := Option.isSome_iff_exists.1 ((kept d hk).resEnd (by rw [hend]; rfl))
    exact ⟨a, b', (kept d hk).start.trans hstart, (kept d hk).resStart.trans hres, hb'⟩
  · cases hk : keep d with
    | true =>
      rw [Desc.live_iff, (kept d hk).state, ← Desc.live_iff] at hl
      rw [(kept d hk).owner] at ho
      rw [(kept d hk).state]
      exact h.owned d hl ho
    | false => exact (dropped d hk).resolve_left ((Desc.live_iff _).1 hl)

/-- Records change, and keep their standing. -/
theorem State.ScheduleSound.of_standing {s t : State} (h : s.ScheduleSound) (sched : t.sched = s.sched)
    (k : ∀ d, (s.desc d).SameStanding (t.desc d)) : t.ScheduleSound :=
  h.drop (fun _ => true) (by rw [sched, List.filter_true]) (by simp [sched, AsapQueues.remove]) (fun d _ => k d)
    fun d hd => by cases hd

/-- R25, R51, R53, R56, R62: a record that was not WAITING changes its state; one that becomes WAITING joins the structure of
its class. -/
theorem State.ScheduleSound.enter {s t : State} (h : s.ScheduleSound) {d : DescIdx} {x : Desc}
    (hd : (s.desc d).state ≠ .waiting) (desc : ∀ e, t.desc e = if e = d then x else s.desc e)
    (timed : t.sched.timed.Perm (if x.state = .waiting ∧ x.cls = .timed then d :: s.sched.timed else s.sched.timed))
    (queued : t.sched.asap.order.Perm
      (if x.state = .waiting ∧ x.cls ≠ .timed then d :: s.sched.asap.order else s.sched.asap.order))
    (held : x.state = .held → x.cls = .chained)
    (starts : x.state = .waiting → x.cls = .timed → ∃ a b, x.start = some a ∧ x.resStart = some a ∧ x.resEnd = some b)
    (owned : x.owner = none → x.state = .onLine) : t.ScheduleSound := by
  have joined (P : FrameClass → Prop) [Decidable (x.state = .waiting ∧ P x.cls)] {l m : List DescIdx}
      (hl : ∀ e, e ∈ l ↔ (s.desc e).state = .waiting ∧ P (s.desc e).cls) (once : l.Nodup)
      (hm : m.Perm (if x.state = .waiting ∧ P x.cls then d :: l else l)) :
      m.Nodup ∧ ∀ e, e ∈ m ↔ (t.desc e).state = .waiting ∧ P (t.desc e).cls := by
    have hnot : d ∉ l := fun hmem => hd ((hl d).1 hmem).1
    constructor
    · rw [hm.nodup_iff]
      split
      · exact List.nodup_cons.2 ⟨hnot, once⟩
      · exact once
    · intro e
      rw [hm.mem_iff, desc]
      by_cases he : e = d
      · subst he
        by_cases hx : x.state = .waiting ∧ P x.cls <;> simp [hx, hnot]
      · by_cases hx : x.state = .waiting ∧ P x.cls <;> simp [hx, he, hl]
  obtain ⟨timedOnce, timedMem⟩ := joined (· = .timed) h.timed h.timedOnce timed
  obtain ⟨queuedOnce, queuedMem⟩ := joined (· ≠ .timed) h.queued h.queuedOnce queued
  refine ⟨timedMem, queuedMem, timedOnce, queuedOnce, fun e he => ?_, fun e he => ?_, fun e hl ho => ?_⟩
  · rw [desc] at he ⊢
    split at he
    · next hed => simpa [hed] using held he
    · next hed => simpa [hed] using h.held e he
  · obtain ⟨hw, hc⟩ := (timedMem e).1 he
    rw [desc] at hw hc ⊢
    by_cases hed : e = d
    · simp only [hed, if_true] at hw hc ⊢
      exact starts hw hc
    · simp only [hed, if_false] at hw hc ⊢
      exact h.starts e ((h.timed e).2 ⟨hw, hc⟩)
  · rw [desc] at hl ho ⊢
    by_cases hed : e = d
    · simp only [hed, if_true] at ho ⊢
      exact owned ho
    · simp only [hed, if_false] at hl ho ⊢
      exact h.owned e hl ho

/-- R42: the place in the timed list. -/
theorem insertByStart_perm (s : State) (d : DescIdx) (t : Time) (l : List DescIdx) :
    (insertByStart s d t l).Perm (d :: l) := by
  induction l with
  | nil => exact .refl _
  | cons e l ih =>
    have further : (e :: insertByStart s d t l).Perm (d :: e :: l) := (ih.cons e).trans (.swap d e l)
    unfold insertByStart
    split
    · split
      · exact .refl _
      · exact further
    · exact further

/-! ### Retirement -/

/-- R34 step 1: the FRAME_DONE of d, placed for its owner. -/
def State.announce (s : State) (d : DescIdx) (o : FrameOutcome) (stop : Time) : State :=
  match (s.desc d).owner with
  | some p => s.place p (frameDone (s.desc d) o stop)
  | none => s

/-- R34 step 3, R61, R62: the chain behind d, the links to d cleared. -/
def State.followChain (fuel : Nat) (d : DescIdx) (o : FrameOutcome) (stop : Time) (defer : Option Port) (u : State) :
    State :=
  match (u.desc d).successor with
  | none => u
  | some c =>
    if (u.desc c).state = .held then
      if o.releases then
        if (u.desc c).expiry.open_ u.now then u.release c stop
        else State.retire fuel c (.expired .window) stop defer
          (u.modDesc c fun y => { y with notBefore := some (plus stop (y.offset.getD 0)) })
      else State.retire fuel c o.passOn stop defer u
    else u

/-- R34 steps 4 and 5: d leaves its structure or the slot and is freed. -/
def State.vacate (t : State) (d : DescIdx) : State := (t.leave d).setDesc d Desc.blank

/-- R34 step 7: the completion of the owner's session, unless its command carries it out itself. -/
def State.conclude (t : State) (owner defer : Option Port) : State :=
  match owner with
  | some p => if defer = some p then t else t.complete p
  | none => t

/-- R34 in its steps. -/
theorem State.retire_succ (s : State) (fuel : Nat) (d : DescIdx) (o : FrameOutcome) (stop : Time) (defer : Option Port)
    (h : (s.desc d).live = true) : State.retire (fuel + 1) d o stop defer s =
      ((State.followChain fuel d o stop defer ((s.announce d o stop).unlink d)).vacate d).conclude
        (s.desc d).owner defer := by
  simp only [State.retire, h, if_true]
  rfl

/-- A FREE descriptor does not retire (log 25). -/
theorem State.retire_of_not_live (s : State) (fuel : Nat) (d : DescIdx) (o : FrameOutcome) (stop : Time)
    (defer : Option Port) (h : (s.desc d).live = false) : State.retire fuel d o stop defer s = s := by
  cases fuel <;> simp [State.retire, h]

/-- R61, R62: what becomes of the chain behind d, whose links have been cleared in u: nothing, the release of a HELD
successor, or its retirement, which `P` relates. -/
inductive State.ChainStep (P : DescIdx → State → State → Prop) (stop : Time) (u : State) : State → Prop
  | stands : ChainStep P stop u u
  | released (c : DescIdx) (held : (u.desc c).state = .held) : ChainStep P stop u (u.release c stop)
  | retired (c : DescIdx) (held : (u.desc c).state = .held) {t : State} (h : P c u t) : ChainStep P stop u t
  | expired (c : DescIdx) (held : (u.desc c).state = .held) {t : State}
      (h : P c (u.modDesc c fun y => { y with notBefore := some (plus stop (y.offset.getD 0)) }) t) :
      ChainStep P stop u t

theorem State.announce_ports (s : State) (d : DescIdx) (o : FrameOutcome) (stop : Time) :
    ∃ ps, s.announce d o stop = { s with ports := ps } := by
  unfold State.announce
  split
  · exact ⟨_, rfl⟩
  · exact ⟨s.ports, rfl⟩

theorem State.conclude_ports (t : State) (owner defer : Option Port) :
    ∃ ps, t.conclude owner defer = { t with ports := ps } := by
  unfold State.conclude
  split
  · next p =>
    split
    · exact ⟨t.ports, rfl⟩
    · rcases t.complete_cases p with ⟨-, e⟩ | ⟨-, -, e⟩
      · exact ⟨t.ports, e⟩
      · exact ⟨_, e⟩
  · exact ⟨t.ports, rfl⟩

/-- R34, ports aside: a relation holds between the states before and after a retirement where it holds of a descriptor that
stays, and of one whose links are cleared, whose chain follows, and which leaves its structure and is freed. -/
theorem State.retire_induction {P : DescIdx → State → State → Prop} {stop : Time} (skip : ∀ d s, P d s s)
    (freed : ∀ d s ps ps' t, State.ChainStep P stop (State.unlink { s with ports := ps } d) t →
      P d s { t.vacate d with ports := ps' })
    (fuel : Nat) (d : DescIdx) (o : FrameOutcome) (defer : Option Port) (s : State) :
    P d s (State.retire fuel d o stop defer s) := by
  induction fuel generalizing d o s with
  | zero => exact skip d s
  | succ fuel ih =>
    have chained (u : State) : State.ChainStep P stop u (State.followChain fuel d o stop defer u) := by
      unfold State.followChain
      split
      · exact .stands
      · next c _ =>
        split
        · next held =>
          split
          · split
            · exact .released c held
            · exact .expired c held (ih _ _ _)
          · exact .retired c held (ih _ _ _)
        · exact .stands
    cases hl : (s.desc d).live with
    | false => rw [s.retire_of_not_live _ d o stop defer hl]; exact skip d s
    | true =>
      obtain ⟨ps, hps⟩ := s.announce_ports d o stop
      obtain ⟨ps', hps'⟩ := State.conclude_ports
        ((State.followChain fuel d o stop defer ((s.announce d o stop).unlink d)).vacate d) (s.desc d).owner defer
      rw [s.retire_succ fuel d o stop defer hl, hps', hps]
      exact freed d s ps ps' _ (chained _)

/-- What an update of the table and the schedule keeps: a sound schedule, the bodies of the records, the frames on the line
among those that were on it, and the slot while its frame is on the line. -/
structure State.KeepsTable (s t : State) : Prop where
  sched : s.ScheduleSound → t.ScheduleSound
  bodies : s.KeepsBodies t
  off : ∀ e, (t.desc e).state = .onLine → (s.desc e).state = .onLine
  slot : (∀ e, s.disp.slot = some e → (s.desc e).state = .onLine) →
    ∀ e, t.disp.slot = some e ↔ s.disp.slot = some e ∧ (t.desc e).state = .onLine

theorem State.KeepsTable.trans {s t u : State} (h : s.KeepsTable t) (k : t.KeepsTable u) : s.KeepsTable u where
  sched := k.sched ∘ h.sched
  bodies := h.bodies.trans k.bodies
  off e := h.off e ∘ k.off e
  slot hs e := by
    have ht := h.slot hs
    rw [k.slot (fun e he => ((ht e).1 he).2) e, ht]
    exact ⟨fun ⟨⟨a, _⟩, c⟩ => ⟨a, c⟩, fun ⟨a, c⟩ => ⟨⟨a, k.off e c⟩, c⟩⟩

/-- A change of the records that keeps their bodies and their standing. -/
theorem State.KeepsTable.of_records {s t : State} (sched : t.sched = s.sched) (disp : t.disp = s.disp)
    (body : ∀ d, (s.desc d).SameBody (t.desc d)) (standing : ∀ d, (s.desc d).SameStanding (t.desc d)) :
    s.KeepsTable t where
  sched h := h.of_standing sched standing
  bodies d := .inl (body d)
  off e := by rw [(standing e).state]; exact id
  slot hs e := by rw [disp, (standing e).state]; exact ⟨fun h => ⟨h, hs e h⟩, And.left⟩

theorem State.KeepsTable.of_eq {s t : State} (store : t.store.descs = s.store.descs) (sched : t.sched = s.sched)
    (disp : t.disp = s.disp) : s.KeepsTable t := by
  have desc (d : DescIdx) : t.desc d = s.desc d := by rw [State.desc, store, State.desc]
  exact .of_records sched disp (fun d => desc d ▸ .of_eq rfl) fun d => desc d ▸ .of_eq rfl

theorem State.KeepsTable.refl (s : State) : s.KeepsTable s := .of_eq rfl rfl rfl

theorem State.keepsTable_modDesc (s : State) (d : DescIdx) (f : Desc → Desc)
    (body : (s.desc d).SameBody (f (s.desc d))) (standing : (s.desc d).SameStanding (f (s.desc d))) :
    s.KeepsTable (s.modDesc d f) :=
  .of_records rfl rfl (s.modDesc_relates (fun _ => .of_eq rfl) d f body)
    (s.modDesc_relates (fun _ => .of_eq rfl) d f standing)

theorem State.keepsTable_unlink (s : State) (d : DescIdx) : s.KeepsTable (s.unlink d) := by
  refine .of_records rfl rfl (fun e => ?_) fun e => ?_
  · rw [State.desc_unlink]
    split <;> exact .of_eq rfl
  · rw [State.desc_unlink]
    split <;> exact .of_eq rfl

/-- R62: a HELD descriptor is released into its queue. -/
theorem State.keepsTable_release (s : State) (c : DescIdx) (stop : Time) (held : (s.desc c).state = .held) :
    s.KeepsTable (s.release c stop) where
  sched h := by
    have hcls : (s.desc c).cls = .chained := h.held c held
    refine h.enter (d := c) (x := (s.desc c).released stop s.now s.sched.counter) (by simp [held])
      (fun e => s.desc_release c e stop) (by simp [Desc.released, hcls]) ?_ (fun _ => hcls)
      (fun _ e => by simp [Desc.released, hcls] at e) fun ho => ?_
    · rw [if_pos ⟨rfl, by simp [Desc.released, hcls]⟩]
      exact s.sched.asap.order_join_perm _ c
    · have := h.owned c (by simp [Desc.live, held]) ho
      simp [held] at this
  bodies e := by
    rw [State.desc_release]
    split
    · next he => exact .inl (.of_eq (by simp [Desc.released, Desc.live, he, held]))
    · exact .inl (.of_eq rfl)
  off e := by
    rw [State.desc_release]
    split
    · simp [Desc.released]
    · exact id
  slot hs e := by
    rw [State.release_disp, State.desc_release]
    split
    · next he =>
      have : s.disp.slot ≠ some c := fun h => absurd (hs c h) (by simp [held])
      simp [he, this]
    · exact ⟨fun h => ⟨h, hs e h⟩, And.left⟩

theorem State.desc_vacate (s : State) (d e : DescIdx) :
    (s.vacate d).desc e = if e = d then Desc.blank else s.desc e := by
  rw [State.vacate, State.desc_setDesc]
  split
  · rfl
  · rw [State.leave]
    split <;> rfl

theorem State.slot_vacate (s : State) (d e : DescIdx) :
    (s.vacate d).disp.slot = some e ↔ s.disp.slot = some e ∧ e ≠ d := by
  rw [State.vacate, State.setDesc_disp, State.leave]
  split
  · next h =>
    rw [State.keepScheduled_disp] at h
    simp [h, eq_comm]
  · next h =>
    rw [State.keepScheduled_disp] at h ⊢
    exact ⟨fun he => ⟨he, fun hed => h (hed ▸ he)⟩, And.left⟩

/-- R34 steps 4 and 5. -/
theorem State.keepsTable_vacate (s : State) (d : DescIdx) : s.KeepsTable (s.vacate d) := by
  refine ⟨fun h => ?_, fun e => ?_, fun e => ?_, fun hs e => ?_⟩
  · refine h.drop (fun e => decide (e ≠ d)) ?_ ?_ (fun e he => ?_) fun e he => ?_
    · rw [State.vacate, State.setDesc_sched, State.leave_sched]; rfl
    · rw [State.vacate, State.setDesc_sched, State.leave_sched]; rfl
    · rw [State.desc_vacate, if_neg (by simpa using he)]; exact .of_eq rfl
    · rw [State.desc_vacate, if_pos (by simpa using he)]; exact .inl rfl
  · rw [State.desc_vacate]
    split
    · exact Desc.keptOrFreed_blank _
    · exact .inl (.of_eq rfl)
  · rw [State.desc_vacate]
    split
    · simp [Desc.blank]
    · exact id
  · rw [State.slot_vacate, State.desc_vacate]
    split
    · next he => simp [he, Desc.blank]
    · next he => exact ⟨fun h => ⟨h.1, hs e h.1⟩, fun h => ⟨h.1, he⟩⟩

/-- R34: a retirement keeps the table, and leaves on the line every frame but its own. -/
theorem State.keepsTable_retire (fuel : Nat) (d : DescIdx) (o : FrameOutcome) (stop : Time) (defer : Option Port)
    (s : State) : s.KeepsTable (State.retire fuel d o stop defer s) ∧
      ∀ e, e ≠ d → (s.desc e).state = .onLine → ((State.retire fuel d o stop defer s).desc e).state = .onLine := by
  refine State.retire_induction (P := fun d s t => s.KeepsTable t ∧
    ∀ e, e ≠ d → (s.desc e).state = .onLine → (t.desc e).state = .onLine) (fun d s => ⟨.refl s, fun _ _ => id⟩)
    (fun d s ps ps' t step => ?_) fuel d o defer s
  have ported : s.KeepsTable { s with ports := ps } := .of_eq rfl rfl rfl
  have cleared := ported.trans (State.keepsTable_unlink _ d)
  have onLine (e : DescIdx) (h : (s.desc e).state = .onLine) :
      ((State.unlink { s with ports := ps } d).desc e).state = .onLine := by
    rw [State.desc_unlink]
    split <;> exact h
  generalize State.unlink { s with ports := ps } d = u at step cleared onLine
  have chained : u.KeepsTable t ∧ ∀ e, (u.desc e).state = .onLine → (t.desc e).state = .onLine := by
    have ne {c e : DescIdx} (held : (u.desc c).state = .held) (he : (u.desc e).state = .onLine) : e ≠ c := by
      rintro rfl
      simp [held] at he
    cases step with
    | stands => exact ⟨.refl _, fun _ => id⟩
    | released c held =>
      refine ⟨u.keepsTable_release c stop held, fun e he => ?_⟩
      rwa [State.desc_release, if_neg (ne held he)]
    | retired c held h => exact ⟨h.1, fun e he => h.2 e (ne held he) he⟩
    | expired c held h =>
      refine ⟨(u.keepsTable_modDesc c _ (.of_eq rfl) (.of_eq rfl)).trans h.1, fun e he => h.2 e (ne held he) ?_⟩
      rwa [State.desc_modDesc, if_neg (ne held he)]
  refine ⟨(cleared.trans chained.1).trans ((t.keepsTable_vacate d).trans (.of_eq rfl rfl rfl)), fun e he h => ?_⟩
  show ((t.vacate d).desc e).state = .onLine
  rw [State.desc_vacate, if_neg he]
  exact chained.2 e (onLine e h)

/-- R34 step 5: a descriptor that retires is FREE. -/
theorem State.retireNow_desc (s : State) (d : DescIdx) (o : FrameOutcome) (stop : Time) (defer : Option Port) :
    ((s.retireNow d o stop defer).desc d).live = false := by
  cases hl : (s.desc d).live with
  | false =>
    show ((State.retire chainFuel d o stop defer s).desc d).live = false
    rwa [s.retire_of_not_live _ d o stop defer hl]
  | true =>
    show ((State.retire (48 + 1) d o stop defer s).desc d).live = false
    obtain ⟨ps, hps⟩ := State.conclude_ports
      ((State.followChain 48 d o stop defer ((s.announce d o stop).unlink d)).vacate d) (s.desc d).owner defer
    rw [s.retire_succ 48 d o stop defer hl, hps]
    show (State.desc (State.vacate _ d) d).live = false
    rw [State.desc_vacate, if_pos rfl]
    rfl
end Sys2Proof.Machine
end

section
/-! The schedule, the line and the frame store stay sound, continued: the line, start decisions, frame ends. -/

namespace Sys2Proof.Machine

/-! ### Soundness that a step keeps -/

/-- R40, R70: the schedule and the line agree with the descriptor states. -/
structure State.Sound (s : State) : Prop where
  sched : s.ScheduleSound
  line : s.LineSound

/-- What every step does: schedule and line stay sound, and then the store does. -/
def State.KeepsSound (s t : State) : Prop := s.Sound → t.Sound ∧ (s.StoreSound → t.StoreSound)

theorem State.KeepsSound.refl (s : State) : s.KeepsSound s := fun h => ⟨h, id⟩

theorem State.KeepsSound.trans {s t u : State} (h : s.KeepsSound t) (k : t.KeepsSound u) : s.KeepsSound u := fun hs =>
  have ht := h hs
  have hu := k ht.1
  ⟨hu.1, hu.2 ∘ ht.2⟩

/-- A step that keeps each record's body or frees it. -/
theorem State.KeepsSound.of_bodies {s t : State} (sched : s.Sound → t.ScheduleSound) (line : s.Sound → t.LineSound)
    (bodies : s.Sound → s.KeepsBodies t) : s.KeepsSound t := fun h =>
  ⟨⟨sched h, line h⟩, fun hstore => hstore.of_bodies (bodies h)⟩

/-- R70: the lines that carry a frame or its guard. -/
def LineState.Carries (l : LineState) : Prop := l = .busy ∨ l = .draining

/-- The line's soundness is about its state, phase and slot, the encoder's activity and the frames on it. -/
theorem State.LineSound.congr {s t : State} (h : s.LineSound) (line : t.disp.line.Carries ↔ s.disp.line.Carries)
    (phase : t.disp.phase = s.disp.phase) (slot : t.disp.slot = s.disp.slot) (activity : t.enc.activity = s.enc.activity)
    (onLine : ∀ d, (t.desc d).state = .onLine ↔ (s.desc d).state = .onLine) : t.LineSound where
  phase := by rw [phase]; exact h.phase.trans line.symm
  slot := by rw [phase, slot]; exact h.slot
  onLine d := by rw [slot]; exact (onLine d).trans (h.onLine d)
  resting := by rw [activity, slot]; exact h.resting
  gap := by rw [activity, phase]; exact h.gap

/-- R70: what a line without frame and guard is like. -/
theorem State.LineSound.rest {s : State} (h : s.LineSound) (hl : ¬ s.disp.line.Carries) :
    s.disp.phase = none ∧ s.disp.slot = none ∧ s.enc.activity = .resting ∧ ∀ d, (s.desc d).state ≠ .onLine := by
  have phase : s.disp.phase = none := by
    have := mt h.phase.1 hl
    simpa using this
  have slot : s.disp.slot = none := by
    have := mt h.slot.1 (by simp [phase])
    simpa using this
  exact ⟨phase, slot, h.resting.2 slot, fun d hd => by simpa [slot] using (h.onLine d).1 hd⟩

/-- R70: a line at rest. -/
theorem State.LineSound.of_rest {t : State} (line : ¬ t.disp.line.Carries) (phase : t.disp.phase = none)
    (slot : t.disp.slot = none) (activity : t.enc.activity = .resting) (off : ∀ d, (t.desc d).state ≠ .onLine) :
    t.LineSound :=
  ⟨by simpa [phase, LineState.Carries] using line, by simp [phase, slot], fun d => by simp [slot, off],
    by simp [activity, slot],
    by simp [activity, phase]⟩

/-- R70, R76: a line in the guard of a frame that has ended. -/
theorem State.LineSound.of_guard {t : State} (line : t.disp.line.Carries) (phase : t.disp.phase = some .guard)
    (slot : t.disp.slot = none) (activity : t.enc.activity = .resting) (off : ∀ d, (t.desc d).state ≠ .onLine) :
    t.LineSound :=
  ⟨by simpa [phase, LineState.Carries] using line, by simp [phase, slot], fun d => by simp [slot, off],
    by simp [activity, slot],
    by simp [activity, phase]⟩

/-- R70, R82: a line with the frame d on it. -/
theorem State.LineSound.of_frame {t : State} {d : DescIdx} (line : t.disp.line.Carries) (slot : t.disp.slot = some d)
    (phase : (t.enc.activity = .sending ∧ (t.disp.phase = some .preamble ∨ t.disp.phase = some .body)) ∨
      (t.enc.activity = .gap ∧ t.disp.phase = some .gap))
    (onLine : ∀ e, (t.desc e).state = .onLine ↔ e = d) : t.LineSound := by
  have on (e : DescIdx) : (t.desc e).state = .onLine ↔ t.disp.slot = some e := by
    rw [onLine, slot, Option.some_inj, eq_comm]
  unfold LineState.Carries at line
  rcases phase with ⟨act, ph | ph⟩ | ⟨act, ph⟩
  all_goals exact ⟨by simpa [ph] using line, by simp [ph, slot], on, by simp [act, slot], by simp [act, ph]⟩

/-- R82: the frame in the slot is the only one on the line, and the line carries it. -/
theorem State.LineSound.frame {s : State} (h : s.LineSound) {d : DescIdx} (hd : s.disp.slot = some d) :
    s.disp.line.Carries ∧ ∀ e, (s.desc e).state = .onLine ↔ e = d := by
  refine ⟨h.phase.1 ?_, fun e => by rw [h.onLine, hd, Option.some_inj, eq_comm]⟩
  rcases h.slot.1 (by simp [hd]) with e | e | e <;> simp [e]

/-- A change that reaches neither the table nor the schedule. -/
theorem State.KeepsSound.of_line {s t : State} (store : t.store.descs = s.store.descs) (sched : t.sched = s.sched)
    (line : s.Sound → t.LineSound) : s.KeepsSound t := by
  have desc (d : DescIdx) : t.desc d = s.desc d := by rw [State.desc, store, State.desc]
  exact .of_bodies (fun h => h.sched.of_standing sched fun d => desc d ▸ .of_eq rfl) line
    fun _ d => desc d ▸ .inl (.of_eq rfl)

/-- A change that reaches none of what is to stay sound. -/
theorem State.KeepsSound.of_eq {s t : State} (h : (t.store.descs, t.sched, t.disp, t.enc.activity) =
    (s.store.descs, s.sched, s.disp, s.enc.activity)) : s.KeepsSound t := by
  simp only [Prod.mk.injEq] at h
  obtain ⟨store, sched, disp, activity⟩ := h
  refine .of_line store sched fun h => h.line.congr (by rw [disp]) (by rw [disp]) (by rw [disp]) activity fun d => ?_
  rw [State.desc, store, State.desc]

/-- A change of the records that keeps their bodies and their standing. -/
theorem State.KeepsSound.of_records {s t : State} (h : (t.sched, t.disp, t.enc.activity) = (s.sched, s.disp, s.enc.activity))
    (body : ∀ d, (s.desc d).SameBody (t.desc d)) (standing : ∀ d, (s.desc d).SameStanding (t.desc d)) :
    s.KeepsSound t := by
  simp only [Prod.mk.injEq] at h
  obtain ⟨sched, disp, activity⟩ := h
  exact .of_bodies (fun h => h.sched.of_standing sched standing)
    (fun h => h.line.congr (by rw [disp]) (by rw [disp]) (by rw [disp]) activity fun d => by rw [(standing d).state])
    fun _ d => .inl (body d)

theorem State.keepsSound_modDesc (s : State) (d : DescIdx) (f : Desc → Desc)
    (body : (s.desc d).SameBody (f (s.desc d))) (standing : (s.desc d).SameStanding (f (s.desc d))) :
    s.KeepsSound (s.modDesc d f) :=
  .of_records rfl (s.modDesc_relates (fun _ => .of_eq rfl) d f body)
    (s.modDesc_relates (fun _ => .of_eq rfl) d f standing)

theorem State.keepsSound_modPort (s : State) (p : Port) (f : PortState → PortState) : s.KeepsSound (s.modPort p f) :=
  .of_eq rfl

theorem State.keepsSound_place (s : State) (p : Port) (e : Entry) : s.KeepsSound (s.place p e) := .of_eq rfl

theorem State.keepsSound_reply (s : State) {p : Port} {code tag : Byte} {r : ResultCode} {data : ReplyData} :
    s.KeepsSound (s.reply p code tag r data) :=
  .of_eq rfl

/-- A command that acts and then answers. -/
theorem State.KeepsSound.reply {s t : State} (h : s.KeepsSound t) {p : Port} {code tag : Byte} {r : ResultCode}
    {data : ReplyData} : s.KeepsSound (t.reply p code tag r data) :=
  h.trans t.keepsSound_reply

/-- A check of a command: the REPLY that refuses it, or what follows where the check passes. -/
theorem State.KeepsSound.check {s t : State} {c : Prop} [Decidable c] {p : Port} {code tag : Byte} {r : ResultCode}
    {data : ReplyData} (h : ¬ c → s.KeepsSound t) : s.KeepsSound (if c then s.reply p code tag r data else t) := by
  split
  · exact s.keepsSound_reply
  · next hc => exact h hc

theorem State.keepsSound_complete (s : State) (p : Port) : s.KeepsSound (s.complete p) := by
  rcases s.complete_cases p with ⟨-, e⟩ | ⟨-, -, e⟩ <;> rw [e]
  · exact .refl s
  · exact .of_eq rfl

theorem State.keepsSound_renew (s : State) (p : Port) : s.KeepsSound (s.renew p) := by
  rw [State.renew_eq]
  exact .of_eq rfl

theorem State.keepsSound_releaseClaim (s : State) (p : Port) : s.KeepsSound (s.releaseClaim p) := by
  rw [State.releaseClaim_eq]
  exact .of_eq rfl

theorem State.keepsSound_markOnLine (s : State) (p : Port) : s.KeepsSound (s.markOnLine p) := by
  unfold State.markOnLine
  split
  · split
    · exact s.keepsSound_modDesc _ _ (.of_eq rfl) (.of_eq rfl)
    · exact .refl s
  · exact .refl s

/-- R34: the retirement of a frame off the line. -/
theorem State.keepsSound_retireNow (s : State) (d : DescIdx) (o : FrameOutcome) (stop : Time) (defer : Option Port)
    (hd : s.Sound → (s.desc d).state ≠ .onLine) : s.KeepsSound (s.retireNow d o stop defer) := by
  obtain ⟨table, stay⟩ := s.keepsTable_retire chainFuel d o stop defer
  have frame := s.keepsLine_retireNow d o stop defer
  refine .of_bodies (fun h => table.sched h.sched) (fun h => ?_) fun _ => table.bodies
  have onLine (e : DescIdx) : ((s.retireNow d o stop defer).desc e).state = .onLine ↔ (s.desc e).state = .onLine :=
    ⟨table.off e, fun he => stay e (fun hed => hd h (hed ▸ he)) he⟩
  have slot : (s.retireNow d o stop defer).disp.slot = s.disp.slot := Option.ext fun e =>
    (table.slot (fun e he => (h.line.onLine e).2 he) e).trans
      ⟨And.left, fun he => ⟨he, (onLine e).2 ((h.line.onLine e).2 he)⟩⟩
  exact h.line.congr (by rw [frame.line]) frame.phase slot (by rw [frame.enc]) onLine

/-- R159: the purge walk takes frames off the line only. -/
theorem State.keepsSound_purgeWalk (s : State) (p : Port) : s.KeepsSound (s.purgeWalk p) := by
  have one (t : State) (d : DescIdx) : t.KeepsSound (State.purgeOne p t d) := by
    unfold State.purgeOne
    split
    · next h =>
      refine t.keepsSound_retireNow d _ _ _ fun _ hon => ?_
      simp [Desc.offLine, hon] at h
    · exact .refl t
  unfold State.purgeWalk
  generalize s.admittedOf p ++ s.unadmittedOf p = l
  induction l generalizing s with
  | nil => exact .refl s
  | cons d l ih => exact (one s d).trans (ih _)

/-- R184 steps 2 and 3: the frame on the line stays there as an orphan, and the others are freed. -/
theorem State.keepsSound_discardAll (s : State) (p : Port) : s.KeepsSound (s.discardAll p) := by
  have keep (d : DescIdx) (h : (!(s.desc d).ownedBy p) = true) : (s.discardAll p).desc d = s.desc d := by
    rw [State.desc_discardAll, Desc.afterReset, if_neg (by simpa using h)]
  refine .of_bodies (fun h => ?_) (fun h => h.line.congr .rfl rfl rfl rfl fun d => ?_) fun _ d => ?_
  · refine h.sched.drop (fun d => !(s.desc d).ownedBy p) rfl rfl (fun d hd => keep d hd ▸ .of_eq rfl) fun d hd => ?_
    rw [State.desc_discardAll, Desc.afterReset, if_pos (by simpa using hd)]
    split
    · next he => exact .inr he
    · exact .inl rfl
  · rw [State.desc_discardAll, Desc.afterReset]
    split
    · split
      · exact .rfl
      · next hd => simp [hd, Desc.blank]
    · exact .rfl
  · rw [State.desc_discardAll, Desc.afterReset]
    split
    · split
      · exact .inl ⟨rfl, rfl, rfl, rfl, rfl, rfl, rfl, .inr rfl⟩
      · exact Desc.keptOrFreed_blank _
    · exact .inl (.of_eq rfl)

/-! ### The line -/

theorem State.strobeFor_ports (s : State) (owner : Option Port) (asked : Bool) :
    ∃ ps, s.strobeFor owner asked = { s with ports := ps } := by
  unfold State.strobeFor
  split
  · split
    · exact ⟨_, rfl⟩
    · exact ⟨s.ports, rfl⟩
  · exact ⟨s.ports, rfl⟩

theorem State.keepsSound_strobeFor (s : State) (owner : Option Port) (asked : Bool) :
    s.KeepsSound (s.strobeFor owner asked) := by
  obtain ⟨ps, e⟩ := s.strobeFor_ports owner asked
  rw [e]
  exact .of_eq rfl

/-- R71: a move between lines that both carry a frame, or both do not. -/
theorem State.keepsSound_moveLine (s : State) (l : LineState) (cause : Cause)
    (hl : l.Carries ↔ s.disp.line.Carries) : s.KeepsSound (s.moveLine l cause) :=
  .of_line (by rw [State.moveLine_store]) (s.moveLine_sched l cause) fun h =>
    h.line.congr (by rw [State.moveLine_line, hl]) (s.moveLine_phase l cause) (s.moveLine_slot l cause)
      (by rw [State.moveLine_enc]) fun d => by rw [State.moveLine_desc]

/-- R89: an entry to DISABLED with no frame left on the line. -/
theorem State.lineSound_enterDisabled (s : State) (cause : Cause) (off : ∀ d, (s.desc d).state ≠ .onLine) :
    (s.enterDisabled cause).LineSound :=
  .of_rest (by simp [State.enterDisabled, LineState.Carries]) rfl rfl rfl fun d => by
    show ((s.moveLine .disabled cause).desc d).state ≠ .onLine
    rw [State.moveLine_desc]
    exact off d

theorem State.enterDisabled_table (s : State) (cause : Cause) :
    (s.enterDisabled cause).store = s.store ∧ (s.enterDisabled cause).sched = s.sched :=
  ⟨s.moveLine_store .disabled cause, s.moveLine_sched .disabled cause⟩

/-- R121: a fault entry with no frame left on the line. -/
theorem State.lineSound_faultEntry (s : State) (cause : Cause) (slot : s.disp.slot = none)
    (activity : s.enc.activity = .resting) (off : ∀ d, (s.desc d).state ≠ .onLine) : (s.faultEntry cause).LineSound := by
  rcases s.faultEntry_cases cause with ⟨-, e⟩ | ⟨-, -, e⟩ | ⟨-, -, line, phase, hslot, enc, store, -⟩
  · exact e ▸ s.lineSound_enterDisabled _ off
  · exact e ▸ s.lineSound_enterDisabled _ off
  · refine .of_rest (by simp [line, LineState.Carries]) phase (hslot.trans slot) (by rw [enc, activity]) fun d => ?_
    rw [State.desc, store]
    exact off d

theorem State.faultEntry_table (s : State) (cause : Cause) :
    (s.faultEntry cause).store = s.store ∧ (s.faultEntry cause).sched = s.sched := by
  rcases s.faultEntry_cases cause with ⟨-, e⟩ | ⟨-, -, e⟩ | ⟨-, -, -, -, -, -, store, sched, -⟩
  · exact e ▸ s.enterDisabled_table _
  · exact e ▸ s.enterDisabled_table _
  · exact ⟨store, sched⟩

/-- R88: an entry to DISABLED from a line at rest. -/
theorem State.keepsSound_enterDisabled (s : State) (cause : Cause) (off : s.Sound → s.disp.slot = none) :
    s.KeepsSound (s.enterDisabled cause) :=
  .of_line (by rw [(s.enterDisabled_table cause).1]) (s.enterDisabled_table cause).2 fun h =>
    s.lineSound_enterDisabled cause fun d hd => by simpa [off h] using (h.line.onLine d).1 hd

/-- R83: a fault entry from IDLE. -/
theorem State.keepsSound_faultEntry (s : State) (cause : Cause) (hidle : s.disp.line = .idle) :
    s.KeepsSound (s.faultEntry cause) :=
  .of_line (by rw [(s.faultEntry_table cause).1]) (s.faultEntry_table cause).2 fun h => by
    obtain ⟨-, slot, activity, off⟩ := h.line.rest (by simp [hidle, LineState.Carries])
    exact s.lineSound_faultEntry cause slot activity off

/-! ### Start decisions -/

/-- R82: what the start of a frame does to the table, the schedule and the line. -/
theorem State.goOnLine_spec (s : State) (d : DescIdx) :
    (∀ e, (s.goOnLine d).desc e =
      if e = d then { s.desc d with state := .onLine, actualStart := some s.now, repsSent := 0, mismatches := 0 }
      else s.desc e) ∧
    (s.goOnLine d).sched = (s.keepScheduled fun e => decide (e ≠ d)).sched ∧ (s.goOnLine d).disp.line = .busy ∧
    (s.goOnLine d).disp.phase = some (s.desc d).firstPhase ∧ (s.goOnLine d).disp.slot = some d ∧
    (s.goOnLine d).enc.activity = .sending := by
  unfold State.goOnLine
  obtain ⟨ps, hps⟩ := State.strobeFor_ports _ (s.desc d).owner (s.desc d).strobeStart
  rw [hps]
  refine ⟨fun e => ?_, ?_, ?_, rfl, rfl, rfl⟩
  · show State.desc (State.moveLine _ _ _) e = _
    rw [State.moveLine_desc, State.desc_setDesc, State.keepScheduled_desc]
  · exact State.moveLine_sched _ _ _
  · exact State.moveLine_line _ _ _

/-- R70, R73: a repetition begins in PREAMBLE or in BODY. -/
theorem Desc.firstPhase_cases (x : Desc) : x.firstPhase = .preamble ∨ x.firstPhase = .body := by
  unfold Desc.firstPhase
  split
  · exact .inr rfl
  · exact .inl rfl

/-- R82: a WAITING frame starts from IDLE. -/
theorem State.keepsSound_goOnLine (s : State) (d : DescIdx) (hidle : s.disp.line = .idle)
    (hd : s.Sound → (s.desc d).state = .waiting) : s.KeepsSound (s.goOnLine d) := by
  obtain ⟨desc, sched, line, phase, slot, activity⟩ := s.goOnLine_spec d
  refine .of_bodies (fun h => ?_) (fun h => ?_) fun h e => ?_
  · refine h.sched.drop (fun e => decide (e ≠ d)) (by rw [sched]; rfl) (by rw [sched]; rfl) (fun e he => ?_) fun e he => ?_
    · rw [desc, if_neg (by simpa using he)]
      exact .of_eq rfl
    · rw [desc, if_pos (by simpa using he)]
      exact .inr rfl
  · obtain ⟨-, -, -, off⟩ := h.line.rest (by simp [hidle, LineState.Carries])
    refine .of_frame (.inl line) slot (.inl ⟨activity, ?_⟩) fun e => ?_
    · simpa [phase] using (s.desc d).firstPhase_cases
    · rw [desc]
      split
      · next he => simp [he]
      · next he => simp [he, off]
  · rw [desc]
    split
    · next he => exact .inl (.of_eq (by simp [Desc.live, he, hd h]))
    · exact .inl (.of_eq rfl)

/-- R81: bypass counts reach neither body nor standing of a record, and nothing outside the table. -/
theorem State.bump_spec (s : State) (l : List DescIdx) :
    (∀ e, (s.desc e).SameBody ((s.bump l).desc e) ∧ (s.desc e).SameStanding ((s.bump l).desc e)) ∧
      (s.bump l).sched = s.sched ∧ (s.bump l).disp = s.disp ∧ (s.bump l).enc = s.enc := by
  unfold State.bump
  induction l generalizing s with
  | nil => exact ⟨fun e => ⟨.of_eq rfl, .of_eq rfl⟩, rfl, rfl, rfl⟩
  | cons d l ih =>
    obtain ⟨records, sched, disp, enc⟩ := ih (s.modDesc d fun x => { x with bypass := x.bypass + 1 })
    refine ⟨fun e => ?_, sched, disp, enc⟩
    have one := s.modDesc_relates (R := fun x y => x.SameBody y ∧ x.SameStanding y)
      (fun _ => ⟨.of_eq rfl, .of_eq rfl⟩) d (fun x => { x with bypass := x.bypass + 1 }) ⟨.of_eq rfl, .of_eq rfl⟩ e
    exact ⟨one.1.trans (records e).1, one.2.trans (records e).2⟩

theorem State.keepsSound_bump (s : State) (l : List DescIdx) : s.KeepsSound (s.bump l) := by
  obtain ⟨records, sched, disp, enc⟩ := s.bump_spec l
  exact .of_records (by rw [sched, disp, enc]) (fun e => (records e).1) fun e => (records e).2

/-- R82, R83: a WAITING frame attempted from IDLE. -/
theorem State.keepsSound_attempt (s : State) (d : DescIdx) (l : List DescIdx) (hidle : s.disp.line = .idle)
    (hd : s.Sound → (s.desc d).state = .waiting) : s.KeepsSound (s.attempt d l) := by
  unfold State.attempt
  split
  · obtain ⟨records, -, disp, -⟩ := s.bump_spec l
    refine fun h => ((s.keepsSound_bump l).trans (State.keepsSound_goOnLine _ d (by rw [disp, hidle]) fun _ => ?_)) h
    rw [(records d).2.state]
    exact hd h
  · exact s.keepsSound_faultEntry .blocked hidle

/-- R80: the ASAP walk starts a descriptor of the order it walks. -/
theorem State.asapWalk_mem (s : State) (l counted : List DescIdx) {d : DescIdx} {res : List DescIdx}
    (hw : s.asapWalk l counted = some (d, res)) : d ∈ l := by
  induction l generalizing counted with
  | nil => simp [State.asapWalk] at hw
  | cons c l ih =>
    simp only [State.asapWalk] at hw
    split at hw
    · exact List.mem_cons_of_mem _ (ih _ hw)
    · split at hw
      · obtain ⟨rfl, -⟩ := Prod.mk.inj (Option.some.inj hw)
        exact List.mem_cons_self
      · split at hw
        · exact List.mem_cons_of_mem _ (ih _ hw)
        · simp at hw

theorem State.keepsSound_asapFirstFit (s : State) (hidle : s.disp.line = .idle) : s.KeepsSound s.asapFirstFit := by
  unfold State.asapFirstFit
  split
  · next d _ hw =>
    exact s.keepsSound_attempt d _ hidle fun h => ((h.sched.queued d).1 (s.asapWalk_mem _ _ hw)).1
  · exact .refl s

theorem State.keepsSound_decideLoop (fuel : Nat) (s : State) (hidle : s.disp.line = .idle) :
    s.KeepsSound (State.decideLoop fuel s) := by
  induction fuel generalizing s with
  | zero => exact .refl s
  | succ fuel ih =>
    simp only [State.decideLoop]
    split
    · exact s.keepsSound_asapFirstFit hidle
    · next d rest hlist =>
      have waiting (h : s.Sound) : (s.desc d).state = .waiting := ((h.sched.timed d).1 (hlist ▸ List.mem_cons_self)).1
      split
      · exact s.keepsSound_asapFirstFit hidle
      · next t _ =>
        split
        · exact s.keepsSound_attempt d [] hidle waiting
        · split
          · split
            · exact s.keepsSound_attempt d [] hidle waiting
            · exact (s.keepsSound_retireNow d _ _ _ fun h => by simp [waiting h]).trans
                (ih _ ((s.keepsLine_retireNow d _ _ _).line.trans hidle))
          · exact s.keepsSound_asapFirstFit hidle

/-- R77, R78: a dispatch decision event. -/
theorem State.keepsSound_startDecision (s : State) : s.KeepsSound s.startDecision := by
  unfold State.startDecision
  split
  · next hidle => exact State.keepsSound_decideLoop _ s hidle
  · exact .refl s

/-- An event or a command that ends with a start decision. -/
theorem State.KeepsSound.decide {s t : State} (h : s.KeepsSound t) : s.KeepsSound t.startDecision :=
  h.trans t.keepsSound_startDecision

theorem State.KeepsSound.decideIfLeft {s t : State} (h : s.KeepsSound t) (u : State) :
    s.KeepsSound (t.decideIfLeft u) := by
  unfold State.decideIfLeft
  split
  · exact h.decide
  · exact h

theorem State.KeepsSound.decideIfPurged {s t : State} (h : s.KeepsSound t) (u : State) :
    s.KeepsSound (t.decideIfPurged u) := by
  unfold State.decideIfPurged
  split
  · exact h.decide
  · exact h

/-! ### Frame ends -/

/-- R34: the frame in the slot retires, with the slot held or already given up, and no frame is left on the line. -/
theorem State.retireNow_off (s u : State) (d : DescIdx) (o : FrameOutcome) (stop : Time) (h : s.LineSound)
    (hd : s.disp.slot = some d) (desc : u.desc = s.desc) (e : DescIdx) :
    ((u.retireNow d o stop none).desc e).state ≠ .onLine := by
  intro he
  have hon : (u.desc e).state = .onLine := (u.keepsTable_retire chainFuel d o stop none).1.off e he
  obtain rfl : e = d := ((h.frame hd).2 e).1 (desc ▸ hon)
  have := u.retireNow_desc e o stop none
  simp [Desc.live, he] at this

/-- A retirement between updates of the line, which reach neither the table nor the schedule. -/
theorem State.KeepsTable.keepsSound {s u v t : State} (k : u.KeepsTable v)
    (before : (u.store.descs, u.sched) = (s.store.descs, s.sched))
    (after : (t.store.descs, t.sched) = (v.store.descs, v.sched))
    (line : s.Sound → t.LineSound) : s.KeepsSound t := by
  simp only [Prod.mk.injEq] at before after
  have descU (d : DescIdx) : u.desc d = s.desc d := by rw [State.desc, before.1, State.desc]
  have descT (d : DescIdx) : t.desc d = v.desc d := by rw [State.desc, after.1, State.desc]
  refine .of_bodies (fun h => ?_) line fun _ d => ?_
  · have hu : u.ScheduleSound := h.sched.of_standing before.2 fun d => descU d ▸ .of_eq rfl
    exact (k.sched hu).of_standing after.2 fun d => descT d ▸ .of_eq rfl
  · rw [descT, ← descU]
    exact k.bodies d

/-- R75: the frame in the slot ends, and the guard follows. -/
theorem State.keepsSound_frameEnd (s : State) (d : DescIdx) (hd : s.disp.slot = some d) :
    s.KeepsSound (s.frameEnd d) := by
  have cleared (t : State) (o : FrameOutcome) : t.KeepsSound (t.clearStreak o) := by
    unfold State.clearStreak
    split
    · exact .of_eq rfl
    · exact .refl t
  unfold State.frameEnd
  dsimp only
  refine State.KeepsSound.trans ?_ (State.keepsSound_strobeFor _ _ _)
  refine State.KeepsSound.trans ?_ (cleared _ _)
  generalize hu : State.restEncoder { s with disp := { s.disp with
    phase := some .guard, slot := none, guardEnd := plus s.now s.prof.active.guard } } = u
  have frame := u.keepsLine_retireNow d (s.desc d).endOutcome s.enc.lastEnd none
  obtain ⟨table, -⟩ := u.keepsTable_retire chainFuel d (s.desc d).endOutcome s.enc.lastEnd none
  refine table.keepsSound (by rw [← hu]; rfl) rfl fun h => ?_
  have slot (e : DescIdx) : (u.retireNow d (s.desc d).endOutcome s.enc.lastEnd none).disp.slot ≠ some e := fun he => by
    have := (table.slot (fun e he => by simp [← hu] at he) e).1 he
    simp [← hu] at this
  refine .of_guard ?_ (by rw [frame.phase, ← hu]; rfl) (Option.eq_none_iff_forall_ne_some.2 slot)
    (by rw [frame.enc, ← hu]; rfl) (s.retireNow_off u d _ _ h.line hd (by rw [← hu]; rfl))
  rw [frame.line, ← hu]
  exact (h.line.frame hd).1

/-- R117, R120: the frame in the slot is stopped, and a fault entry follows. -/
theorem State.keepsSound_echoAbort (s : State) (d : DescIdx) (why : AbortDetail) (cause : Cause)
    (hd : s.disp.slot = some d) : s.KeepsSound (s.echoAbort d why cause) := by
  unfold State.echoAbort
  dsimp only
  obtain ⟨ps, hps⟩ := State.strobeFor_ports (s.restEncoder.retireNow d (.aborted why) s.enc.lastEnd none) (s.desc d).owner
    (s.desc d).strobeEnd
  rw [hps]
  have frame := s.restEncoder.keepsLine_retireNow d (.aborted why) s.enc.lastEnd none
  obtain ⟨table, -⟩ := s.restEncoder.keepsTable_retire chainFuel d (.aborted why) s.enc.lastEnd none
  refine table.keepsSound (s := s) rfl ?_ fun h => ?_
  · rw [(State.faultEntry_table _ cause).1, (State.faultEntry_table _ cause).2]
    rfl
  · exact State.lineSound_faultEntry _ cause rfl (congrArg Encoder.activity frame.enc)
      (s.retireNow_off s.restEncoder d _ _ h.line hd rfl)

/-- R74, R117: the frame in the slot goes on with its next repetition, or is stopped. -/
theorem State.keepsSound_laterRepetition (s : State) (d : DescIdx) (hd : s.disp.slot = some d) :
    s.KeepsSound (s.laterRepetition d) := by
  unfold State.laterRepetition
  split
  · refine .of_line rfl rfl fun h => ?_
    obtain ⟨line, onLine⟩ := h.line.frame hd
    exact .of_frame line hd (.inl ⟨rfl, by simpa using (s.desc d).firstPhase_cases⟩) onLine
  · exact s.keepsSound_echoAbort d .blocked .blocked hd

theorem State.keepsSound_endBody (s : State) (d : DescIdx) (hd : s.disp.slot = some d) : s.KeepsSound (s.endBody d) := by
  unfold State.endBody
  refine (s.keepsSound_modDesc d (fun x => { x with repsSent := x.repsSent + 1 }) (.of_eq rfl) (.of_eq rfl)).trans ?_
  dsimp only
  split
  · split
    · exact State.keepsSound_laterRepetition _ d hd
    · refine .of_line rfl rfl fun h => ?_
      obtain ⟨line, onLine⟩ := h.line.frame hd
      exact .of_frame line hd (.inr ⟨rfl, rfl⟩) onLine
  · exact State.keepsSound_frameEnd _ d hd

theorem State.keepsSound_countMismatch (s : State) (d : DescIdx) : s.KeepsSound (s.countMismatch d) :=
  (s.keepsSound_modDesc d (fun x => { x with mismatches := min Config.mismatchMax ((s.desc d).mismatches + 1) })
    (.of_eq rfl) (.of_eq rfl)).trans (.of_eq rfl)

theorem State.keepsSound_echoStopped (s : State) (d : DescIdx) (hd : s.disp.slot = some d) :
    s.KeepsSound (s.echoStopped d) := by
  unfold State.echoStopped
  dsimp only
  split
  · exact (s.keepsSound_modDesc d (fun x => { x with repsSent := x.repsSent + 1 }) (.of_eq rfl) (.of_eq rfl)).trans
      (State.keepsSound_echoAbort _ d .echo .echo hd)
  · exact s.keepsSound_echoAbort d .echo .echo hd

/-! ### The clock -/

/-- R104: REFCLK cycles leave what the encoder is doing. -/
theorem State.cycles_activity (n : Nat) (s : State) : (State.cycles n s).enc.activity = s.enc.activity := by
  induction n generalizing s with
  | zero => rfl
  | succ n ih =>
    refine (ih s.cycle).trans ?_
    show Encoder.activity (if s.carrierOn then _ else _) = _
    split <;> rfl

theorem State.keepsSound_cycles (s : State) (n : Nat) : s.KeepsSound (State.cycles n s) := by
  obtain ⟨-, -, -, store, sched, disp, -⟩ := State.cycles_frame n s
  exact .of_eq (by rw [store, sched, disp, State.cycles_activity])

/-- R98, R106: a tick boundary leaves what the encoder is doing. -/
theorem State.tickEncoder_activity (s : State) (now : Time) : (s.tickEncoder now).activity = s.enc.activity := by
  unfold State.tickEncoder
  split
  · unfold Encoder.tickSending Encoder.nextHalf
    dsimp only
    split
    · rfl
    · split
      · split
        · rfl
        · split <;> split <;> rfl
      · rfl
  · rfl
  · rfl

theorem State.keepsSound_wholeTick (s : State) : s.KeepsSound s.wholeTick :=
  (s.keepsSound_cycles s.cyclesLeft).trans (.of_eq (congrArg (_, _, _, ·) (State.tickEncoder_activity _ _)))

end Sys2Proof.Machine
end

section
/-! The schedule, the line and the frame store stay sound, continued: requests and the rows of the table (O52, O53, O56). -/

namespace Sys2Proof.Machine

/-! ### Lookups in the frame store -/

/-- R21: no descriptor of p carries the tag. -/
theorem State.findTag_eq_none_iff (s : State) (p : Port) (tag : Byte) : s.findTag p tag = none ↔ s.NamesNone p tag := by
  simp [State.findTag, State.NamesNone, allDescs, List.find?_eq_none]

/-- R21: what a tag names is p's and carries it. -/
theorem State.owned_of_findTag {s : State} {p : Port} {tag : Byte} {d : DescIdx} (h : s.findTag p tag = some d) :
    (s.desc d).ownedBy p = true ∧ (s.desc d).tag = tag := by
  simpa using List.find?_some h

/-- R21: the one descriptor of p that carries a tag is what it names. -/
theorem State.Names.findTag {s : State} {p : Port} {tag : Byte} {d : DescIdx} (h : s.Names p tag d) :
    s.findTag p tag = some d := by
  obtain ⟨owned, htag, one⟩ := h
  cases hf : s.findTag p tag with
  | none => exact absurd htag ((s.findTag_eq_none_iff p tag).1 hf d owned)
  | some e =>
    obtain ⟨he, het⟩ := State.owned_of_findTag hf
    rw [one e he het]

theorem Desc.ownedBy_iff (x : Desc) (p : Port) : x.ownedBy p = true ↔ x.live = true ∧ x.owner = some p := by
  simp [Desc.ownedBy]

/-- R19: a segment is free where no record holds it. -/
theorem State.mem_freeSegs (s : State) (g : SegIdx) : g ∈ s.freeSegs ↔ ∀ d, g ∉ (s.desc d).segs := by
  simp [State.freeSegs, s.descs_toList]

theorem State.freeSegs_nodup (s : State) : s.freeSegs.Nodup := (List.nodup_finRange 192).filter _

/-- R24 orders 4 to 8: what the checks of a LOAD_BEGIN that is not refused have found. -/
theorem State.loadRefusal_eq_none {s : State} {p : Port} {x : Shape} (h : s.loadRefusal p x = none) :
    s.NamesNone p x.tag ∧ s.liveCount p < 16 ∧ s.heldCount p + segmentsFor x.bodyBits ≤ 96 ∧
      segmentsFor x.bodyBits ≤ s.freeSegs.length := by
  unfold State.loadRefusal at h
  dsimp only at h
  split at h
  · cases h
  · next htag =>
    split at h
    · cases h
    · next hlimit =>
      split at h
      · cases h
      · split at h
        · cases h
        · simp only [Config.portLive, Config.portHeld] at hlimit
          exact ⟨(s.findTag_eq_none_iff p x.tag).1 (by simpa using htag), by omega, by omega, by omega⟩

/-- R23, R186: a shape that is read is in its ranges. -/
theorem inRange_of_readShape {bs : List Byte} {x : Shape} (h : readShape bs = some x) : x.inRange = true := by
  unfold readShape at h
  split at h
  · split at h
    · dsimp only at h
      split at h
      · next hin =>
        rw [← Option.some.inj h]
        simp only [Bool.and_eq_true] at hin
        exact hin.1
      · cases h
    · cases h
  · cases h

/-! ### Allocation -/

/-- R25: a FREE record taken by a shape in its ranges, with free segments for its whole body. -/
theorem State.StoreSound.allocate {s : State} (h : s.StoreSound) {d : DescIdx} {p : Port} {x : Shape}
    {segs : List SegIdx} (free : (s.desc d).live = false) (range : x.inRange = true) (tag : s.NamesNone p x.tag)
    (live : s.liveCount p < 16) (held : s.heldCount p + segmentsFor x.bodyBits ≤ 96)
    (length : segs.length = segmentsFor x.bodyBits) (once : segs.Nodup) (unheld : ∀ g ∈ segs, g ∈ s.freeSegs) :
    (s.setDesc d (x.desc p segs)).StoreSound := by
  obtain ⟨nodup, disjoint⟩ := s.segments_nodup_iff.1 h.segments
  have unowned (q : Port) : (s.desc d).ownedBy q = false := by simp [Desc.ownedBy, free]
  have owned (q : Port) : (x.desc p segs).ownedBy q = decide (p = q) := by simp [Desc.ownedBy, Desc.live, Shape.desc]
  have apart (e : DescIdx) : List.Disjoint segs (s.desc e).segs := fun g hg he => (s.mem_freeSegs g).1 (unheld g hg) e he
  simp only [Shape.inRange, Bool.and_eq_true, decide_eq_true_eq] at range
  obtain ⟨⟨⟨⟨⟨body, pre⟩, reps⟩, gap⟩, -⟩, -⟩ := range
  refine ⟨fun e he => ?_, fun e he => ?_, (State.segments_nodup_iff _).2 ⟨fun e => ?_, fun e f hne => ?_⟩, fun q => ?_,
    fun q => ?_, fun q e f he hf hef => ?_⟩
  · rw [State.desc_setDesc] at he ⊢
    split
    · exact ⟨body.1, body.2, pre, reps.1, reps.2, gap⟩
    · next hed => exact h.shape e (by simpa [hed] using he)
  · rw [State.desc_setDesc] at he ⊢
    split
    · exact length
    · next hed => exact h.whole e (by simpa [hed] using he)
  · rw [State.desc_setDesc]
    split
    · exact once
    · exact nodup e
  · rw [State.desc_setDesc, State.desc_setDesc]
    split
    · next hed =>
      rw [if_neg (hed ▸ hne.symm)]
      exact apart f
    · split
      · exact (apart e).symm
      · exact disjoint e f hne
  · have := s.liveCount_setDesc d (x.desc p segs) q
    have := h.live q
    simp only [unowned, owned] at *
    by_cases hq : p = q
    · subst hq; simp at *; omega
    · simp [hq] at *; omega
  · have := s.heldCount_setDesc d (x.desc p segs) q
    have := h.held q
    have hsegs : (x.desc p segs).segs.length = segmentsFor x.bodyBits := length
    simp only [unowned, owned, hsegs] at *
    by_cases hq : p = q
    · subst hq; simp at *; omega
    · simp [hq] at *; omega
  · have other {e : DescIdx} (hed : e ≠ d) (he : ((s.setDesc d (x.desc p segs)).desc e).ownedBy q = true)
        (hdq : ((s.setDesc d (x.desc p segs)).desc d).ownedBy q = true) :
        ((s.setDesc d (x.desc p segs)).desc e).tag ≠ ((s.setDesc d (x.desc p segs)).desc d).tag := by
      rw [State.desc_setDesc, if_neg hed] at he ⊢
      rw [State.desc_setDesc, if_pos rfl] at hdq ⊢
      rw [owned] at hdq
      exact tag e (by simpa [of_decide_eq_true hdq] using he)
    by_cases hed : e = d
    · by_cases hfd : f = d
      · rw [hed, hfd]
      · subst hed
        exact absurd hef.symm (other hfd hf he)
    · by_cases hfd : f = d
      · subst hfd
        exact absurd hef (other hed he hf)
      · rw [State.desc_setDesc, if_neg hed] at he hef
        rw [State.desc_setDesc, if_neg hfd] at hf hef
        exact h.tags q e f he hf hef

theorem State.keepsSound_doLoadBegin (p : Port) (tag : Byte) (fields : List Byte) (s : State) :
    s.KeepsSound (State.doLoadBegin p tag fields s) := by
  refine .check fun _ => .check fun _ => ?_
  split
  · exact s.keepsSound_reply
  · next x hread =>
    split
    · next d hrefusal hfree =>
      obtain ⟨names, live, held, room⟩ := State.loadRefusal_eq_none hrefusal
      have free := State.not_live_of_firstFree hfree
      have state : (s.desc d).state = .free := by simpa [Desc.live] using free
      refine State.KeepsSound.reply fun h => ⟨⟨?_, ?_⟩, fun store => ?_⟩
      · refine h.sched.enter (by simp [state]) (fun e => s.desc_setDesc d e _) (by simp [Shape.desc])
          (by simp [Shape.desc]) (by simp [Shape.desc]) (by simp [Shape.desc]) (by simp [Shape.desc])
      · refine h.line.congr .rfl rfl rfl rfl fun e => ?_
        rw [State.desc_setDesc]
        split
        · next he => simp [he, state, Shape.desc]
        · exact .rfl
      · exact store.allocate free (inRange_of_readShape hread) names live held (List.length_take_of_le room)
          (s.freeSegs_nodup.sublist (List.take_sublist _ _)) fun g hg => List.mem_of_mem_take hg
    · exact s.keepsSound_reply
    · exact s.keepsSound_reply

/-! ### Admission -/

/-- R51, R53, R56: a LOADING record of p's is admitted, WAITING in the structure of its class or HELD. -/
theorem State.keepsSound_admit {s t : State} {p : Port} {d : DescIdx} {x : Desc} (loading : (s.desc d).state = .loading)
    (body : (s.desc d).SameBody x) (owner : x.owner = some p) (state : x.state ≠ .onLine)
    (desc : ∀ e, t.desc e = if e = d then x else s.desc e) (line : (t.disp, t.enc) = (s.disp, s.enc))
    (timed : t.sched.timed.Perm (if x.state = .waiting ∧ x.cls = .timed then d :: s.sched.timed else s.sched.timed))
    (queued : t.sched.asap.order.Perm
      (if x.state = .waiting ∧ x.cls ≠ .timed then d :: s.sched.asap.order else s.sched.asap.order))
    (held : x.state = .held → x.cls = .chained)
    (starts : x.state = .waiting → x.cls = .timed → ∃ a b, x.start = some a ∧ x.resStart = some a ∧ x.resEnd = some b) :
    s.KeepsSound t := by
  simp only [Prod.mk.injEq] at line
  obtain ⟨disp, enc⟩ := line
  refine .of_bodies (fun h => h.sched.enter (by simp [loading]) desc timed queued held starts (by simp [owner]))
    (fun h => h.line.congr (by rw [disp]) (by rw [disp]) (by rw [disp]) (by rw [enc]) fun e => ?_) fun _ e => ?_
  · rw [desc]
    split
    · next he => simp [he, loading, state]
    · exact .rfl
  · rw [desc]
    split
    · next he => exact .inl (he ▸ body)
    · exact .inl (.of_eq rfl)

theorem State.keepsSound_submitTimed (s : State) (p : Port) (tag : Byte) (d : DescIdx) (t : Timing) (start : Time)
    (loading : (s.desc d).state = .loading) (owner : (s.desc d).owner = some p) (cls : (s.desc d).cls = .timed) :
    s.KeepsSound (s.submitTimed p tag d t start) := by
  have admitted (slip : Nat) : s.KeepsSound (s.admitTimed d start slip) := by
    refine State.keepsSound_admit (x := (s.desc d).admitTimed start slip s.prof.active s.sched.counter) loading (.of_eq ?_)
      owner (by simp [Desc.admitTimed]) (fun e => s.desc_setDesc d e _) rfl ?_ ?_ (by simp [Desc.admitTimed])
      fun _ _ => ⟨start, _, rfl, rfl, rfl⟩
    · simp [Desc.admitTimed, Desc.live, loading]
    · rw [if_pos ⟨rfl, cls⟩]
      exact insertByStart_perm s d start s.sched.timed
    · rw [if_neg fun h => h.2 cls]
      exact .refl _
  unfold State.submitTimed
  dsimp only
  split
  · exact s.keepsSound_reply
  · exact s.keepsSound_reply
  · exact s.keepsSound_reply
  · split
    · exact s.keepsSound_reply
    · exact (admitted _).reply.decide

theorem State.keepsSound_submitAsap (s : State) (p : Port) (tag : Byte) (d : DescIdx) (t : Timing)
    (loading : (s.desc d).state = .loading) (owner : (s.desc d).owner = some p) (cls : (s.desc d).cls = .asap) :
    s.KeepsSound (s.submitAsap p tag d t) := by
  have admitted : s.KeepsSound (s.admitAsap d t) := by
    refine State.keepsSound_admit (x := (s.desc d).admitAsap t s.now s.sched.counter) loading (.of_eq ?_)
      owner (by simp [Desc.admitAsap]) (fun e => s.desc_setDesc d e _) rfl ?_ ?_ (by simp [Desc.admitAsap])
      fun _ hc => by simp [Desc.admitAsap, cls] at hc
    · simp [Desc.admitAsap, Desc.live, loading]
    · rw [if_neg (by simp [Desc.admitAsap, cls])]
      exact .refl _
    · rw [if_pos (by simp [Desc.admitAsap, cls])]
      exact s.sched.asap.order_join_perm _ d
  unfold State.submitAsap
  split
  · exact s.keepsSound_reply
  · exact admitted.reply.decide

theorem State.keepsSound_submitChained (s : State) (p : Port) (tag : Byte) (d : DescIdx) (t : Timing) (pred : Byte)
    (loading : (s.desc d).state = .loading) (owner : (s.desc d).owner = some p) (cls : (s.desc d).cls = .chained) :
    s.KeepsSound (s.submitChained p tag d t pred) := by
  have admitted (e : DescIdx) : s.KeepsSound (s.admitChained d e t pred) := by
    refine State.KeepsSound.trans (t := s.setDesc d ((s.desc d).admitChained t pred)) ?_
      (State.keepsSound_modDesc _ e _ (.of_eq rfl) (.of_eq rfl))
    refine State.keepsSound_admit (x := (s.desc d).admitChained t pred) loading (.of_eq ?_) owner
      (by simp [Desc.admitChained])
      (fun e => s.desc_setDesc d e _) rfl ?_ ?_ (fun _ => cls) (by simp [Desc.admitChained])
    · simp [Desc.admitChained, Desc.live, loading]
    · rw [if_neg (by simp [Desc.admitChained])]
      exact .refl _
    · rw [if_neg (by simp [Desc.admitChained])]
      exact .refl _
  unfold State.submitChained
  split
  · exact s.keepsSound_reply
  · refine .check fun _ => ?_
    split
    · exact s.keepsSound_reply
    · split
      · exact s.keepsSound_reply
      · exact s.keepsSound_reply
      · exact (admitted _).reply

theorem State.keepsSound_doSubmit (p : Port) (tag : Byte) (fields : List Byte) (s : State) :
    s.KeepsSound (State.doSubmit p tag fields s) := by
  refine .check fun _ => .check fun _ => ?_
  split
  · exact s.keepsSound_reply
  · split
    · exact s.keepsSound_reply
    · next d hfind =>
      refine .check fun hloading => .check fun _ => .check fun _ => ?_
      have loading : (s.desc d).state = .loading := not_not.1 hloading
      have owner := (((s.desc d).ownedBy_iff p).1 (State.owned_of_findTag hfind).1).2
      split
      · next cls => exact s.keepsSound_submitTimed p tag d _ _ loading owner cls
      · next cls => exact s.keepsSound_submitAsap p tag d _ loading owner cls
      · next cls => exact s.keepsSound_submitChained p tag d _ _ loading owner cls

/-! ### The other commands -/

theorem State.keepsSound_doLoadData (p : Port) (tag : Byte) (fields : List Byte) (s : State) :
    s.KeepsSound (State.doLoadData p tag fields s) := by
  have loaded (d : DescIdx) (off : Nat) (payload : List Byte) : s.KeepsSound (s.loadPayload d off payload) :=
    have written : s.KeepsSound
        { s with store := { s.store with pool := writePayload (s.desc d).segs off payload s.store.pool } } := .of_eq rfl
    written.trans (State.keepsSound_modDesc _ d (fun x => { x with fill := off + payload.length }) (.of_eq rfl) (.of_eq rfl))
  refine .check fun _ => ?_
  split
  · exact s.keepsSound_reply
  · split
    · exact s.keepsSound_reply
    · exact .check fun _ => .check fun _ => .check fun _ => (loaded _ _ _).reply

theorem State.keepsSound_doQueryFrame (p : Port) (tag : Byte) (fields : List Byte) (s : State) :
    s.KeepsSound (State.doQueryFrame p tag fields s) := by
  refine .check fun _ => ?_
  split
  · exact s.keepsSound_reply
  · split
    · exact s.keepsSound_reply
    · split
      · exact s.keepsSound_reply
      · exact s.keepsSound_reply

theorem State.keepsSound_doCancel (p : Port) (tag : Byte) (fields : List Byte) (s : State) :
    s.KeepsSound (State.doCancel p tag fields s) := by
  have marked (d : DescIdx) : s.KeepsSound (s.cancelOnLine p tag d) := by
    unfold State.cancelOnLine
    dsimp only
    split
    · exact (s.keepsSound_modDesc d (fun y => { y with truncate := true }) (.of_eq rfl) (.of_eq rfl)).reply
    · exact s.keepsSound_reply
  have withdrawn (d : DescIdx) (hd : (s.desc d).state ≠ .onLine) : s.KeepsSound (s.cancelWaiting p tag d) :=
    ((s.keepsSound_retireNow d _ _ _ fun _ => hd).reply.trans (State.keepsSound_complete _ p)).decideIfLeft _
  refine .check fun _ => ?_
  split
  · exact s.keepsSound_reply
  · split
    · exact s.keepsSound_reply
    · split
      · exact marked _
      · next hd => exact withdrawn _ hd

theorem State.keepsSound_doQueryFree (p : Port) (tag : Byte) (fields : List Byte) (s : State) :
    s.KeepsSound (State.doQueryFree p tag fields s) := by
  refine .check fun _ => ?_
  split
  · exact s.keepsSound_reply
  · refine .check fun _ => ?_
    split
    · exact s.keepsSound_reply
    · exact s.keepsSound_reply

theorem State.keepsSound_enableLine (s : State) : s.KeepsSound s.enableLine := by
  unfold State.enableLine
  split
  · next h => exact (s.keepsSound_moveLine _ _ (by simp [LineState.Carries, h])).decide
  · next h => exact s.keepsSound_moveLine _ _ (by simp [LineState.Carries, h])
  all_goals exact .refl s

theorem State.keepsSound_doLineEnable (p : Port) (tag : Byte) (fields : List Byte) (s : State) :
    s.KeepsSound (State.doLineEnable p tag fields s) := by
  unfold State.doLineEnable
  split
  · exact s.keepsSound_reply
  · exact .check fun _ => s.keepsSound_enableLine.reply

/-- R88: LINE_DISABLE finds no frame on an IDLE line or in FAULT, and lets the one of a BUSY line go on. -/
theorem State.keepsSound_disableLine (s : State) : s.KeepsSound s.disableLine := by
  have rested (hl : ¬ s.disp.line.Carries) : s.KeepsSound (s.enterDisabled .hostDisable) :=
    s.keepsSound_enterDisabled _ fun h => (h.line.rest hl).2.1
  unfold State.disableLine
  split
  · next h => exact rested (by simp [LineState.Carries, h])
  · next h => exact rested (by simp [LineState.Carries, h])
  · next h => exact s.keepsSound_moveLine _ _ (by simp [LineState.Carries, h])
  all_goals exact .refl s

theorem State.keepsSound_doLineDisable (p : Port) (tag : Byte) (fields : List Byte) (s : State) :
    s.KeepsSound (State.doLineDisable p tag fields s) := by
  unfold State.doLineDisable
  split
  · exact s.keepsSound_reply
  · exact s.keepsSound_disableLine.reply

theorem State.keepsSound_doQueryLine (p : Port) (tag : Byte) (fields : List Byte) (s : State) :
    s.KeepsSound (State.doQueryLine p tag fields s) :=
  .check fun _ => (s.keepsSound_modPort p _).reply

theorem State.keepsSound_doRecover (p : Port) (tag : Byte) (fields : List Byte) (s : State) :
    s.KeepsSound (State.doRecover p tag fields s) := by
  unfold State.doRecover
  split
  · exact s.keepsSound_reply
  · refine .check fun hfault => .check fun _ => ?_
    exact (s.keepsSound_moveLine _ _ (by simp [LineState.Carries, not_not.1 hfault])).decide.reply

theorem State.keepsSound_doClaim (p : Port) (tag : Byte) (fields : List Byte) (s : State) :
    s.KeepsSound (State.doClaim p tag fields s) :=
  have granted : s.KeepsSound (s.grant p) := .of_eq rfl
  .check fun _ => .check fun _ => .check fun _ => .check fun _ => granted.reply

theorem State.keepsSound_doRelease (p : Port) (tag : Byte) (fields : List Byte) (s : State) :
    s.KeepsSound (State.doRelease p tag fields s) := by
  unfold State.doRelease
  split
  · exact s.keepsSound_reply
  · exact (s.keepsSound_releaseClaim p).reply

theorem State.keepsSound_doStage (p : Port) (tag : Byte) (fields : List Byte) (s : State) :
    s.KeepsSound (State.doStage p tag fields s) := by
  have staged (w : Profile) : s.KeepsSound { s with prof := { s.prof with staged := some w } } := .of_eq rfl
  refine .check fun _ => ?_
  split
  · exact s.keepsSound_reply
  · refine .check fun _ => ?_
    split
    · exact s.keepsSound_reply
    · exact (staged _).reply

/-- R140: the revalidation walk of frames off the line, none of which it puts there. -/
theorem Walk.keepsSound_judges (l : List DescIdx) (w : Walk) (hl : ∀ d ∈ l, (w.state.desc d).state ≠ .onLine) :
    w.state.KeepsSound (l.foldl Walk.judge w).state := by
  induction l generalizing w with
  | nil => exact .refl _
  | cons d l ih =>
    have one : w.state.KeepsSound (w.judge d).state ∧ w.state.KeepsTable (w.judge d).state := by
      unfold Walk.judge
      dsimp only
      split
      · exact ⟨State.keepsSound_retireNow _ _ _ _ _ fun _ => hl d List.mem_cons_self,
          (State.keepsTable_retire _ _ _ _ _ _).1⟩
      · have body : (w.state.desc d).SameBody { w.state.desc d with
            resEnd := some (plus ((w.state.desc d).start.getD 0) ((w.state.desc d).reservation w.state.prof.active)) } :=
          .of_eq rfl
        have standing : (w.state.desc d).SameStanding { w.state.desc d with
            resEnd := some (plus ((w.state.desc d).start.getD 0) ((w.state.desc d).reservation w.state.prof.active)) } :=
          ⟨rfl, rfl, rfl, rfl, fun _ => rfl, rfl⟩
        exact ⟨State.keepsSound_modDesc _ d (fun _ => _) body standing,
          State.keepsTable_modDesc _ d (fun _ => _) body standing⟩
    exact one.1.trans (ih (w.judge d) fun e he hon => hl e (List.mem_cons_of_mem _ he) (one.2.off e hon))

theorem State.keepsSound_doCommit (p : Port) (tag : Byte) (fields : List Byte) (s : State) :
    s.KeepsSound (State.doCommit p tag fields s) := by
  have activated : s.KeepsSound s.activate := .of_eq rfl
  have walked : s.activate.KeepsSound s.activate.revalidate.state := fun h =>
    Walk.keepsSound_judges s.activate.sched.timed { state := s.activate, lastEnd := none, rescheduled := 0, broken := 0 }
      (fun d hd => by rw [((h.sched.timed d).1 hd).1]; exact nofun) h
  unfold State.doCommit
  split
  · exact s.keepsSound_reply
  · exact .check fun _ => (activated.trans walked).reply

theorem State.keepsSound_doQueryProfile (p : Port) (tag : Byte) (fields : List Byte) (s : State) :
    s.KeepsSound (State.doQueryProfile p tag fields s) := by
  unfold State.doQueryProfile
  dsimp only
  split
  · exact s.keepsSound_reply
  · exact s.keepsSound_reply
  · exact .check fun _ => s.keepsSound_reply

theorem State.keepsSound_doReadCapture (p : Port) (tag : Byte) (fields : List Byte) (s : State) :
    s.KeepsSound (State.doReadCapture p tag fields s) := by
  refine .check fun _ => ?_
  split
  · exact (s.keepsSound_modPort p PortState.emptySlot).reply
  · exact s.keepsSound_reply

theorem State.keepsSound_doSetTime (p : Port) (tag : Byte) (fields : List Byte) (s : State) :
    s.KeepsSound (State.doSetTime p tag fields s) := by
  have set (t : Time) : s.KeepsSound { s with clock := { s.clock with time := t, prescale := 0 } } := .of_eq rfl
  refine .check fun _ => ?_
  split
  · exact s.keepsSound_reply
  · exact .check fun _ => .check fun _ => .check fun _ => (set _).reply

theorem State.keepsSound_doOpen (p : Port) (tag : Byte) (fields : List Byte) (s : State) :
    s.KeepsSound (State.doOpen p tag fields s) := by
  unfold State.doOpen
  dsimp only
  split
  · exact s.keepsSound_reply
  · exact .check fun _ => .check fun _ => (s.keepsSound_modPort p _).reply

theorem State.keepsSound_doClose (p : Port) (tag : Byte) (fields : List Byte) (s : State) :
    s.KeepsSound (State.doClose p tag fields s) := by
  have closing (form : CloseForm) : s.KeepsSound (s.startClosing p form) :=
    (s.keepsSound_releaseClaim p).trans (State.keepsSound_modPort _ p _)
  refine .check fun _ => ?_
  split
  · exact s.keepsSound_reply
  · have purged := ((closing .purge).trans (State.keepsSound_purgeWalk _ p)).trans (State.keepsSound_markOnLine _ p)
    exact (purged.reply.trans (State.keepsSound_complete _ p)).decideIfLeft _
  · exact .check fun _ => (closing .drain).reply.trans (State.keepsSound_complete _ p)

/-! ### Links -/

theorem State.keepsSound_begun (s : State) (p : Port) (goesOn : Bool) : s.KeepsSound (s.begun p goesOn) := by
  rw [State.begun_cases]
  exact s.keepsSound_modPort p _

theorem State.keepsSound_answered (s : State) (p : Port) (msg : List Byte) (crc : Byte) (a : Acceptance) :
    s.KeepsSound (s.answered p msg crc a) := by
  rw [State.answered_eq]
  exact s.keepsSound_modPort p _

theorem State.keepsSound_refuse (s : State) (p : Port) (msg : List Byte) (crc : Byte) (a : Acceptance) :
    s.KeepsSound (s.refuse p msg crc a) := by
  have k := s.keepsSound_answered p msg crc a
  cases a
  · exact k
  · exact k
  · exact k.trans (State.keepsSound_modPort _ p _)
  · exact k.trans (State.keepsSound_modPort _ p _)

/-- R179: a REQUEST keeps the part sound where its command does. -/
theorem State.keepsSound_request (s : State) {p : Port} {code tag : Byte} {fields : List Byte} {act : State → State}
    (hact : ∀ t : State, t.KeepsSound (act t)) : s.KeepsSound (s.request p code tag fields act) := by
  unfold State.request
  split
  · exact .refl s
  · dsimp only
    split
    · exact (s.keepsSound_begun p _).trans (State.keepsSound_modPort _ p _)
    · split
      · exact ((s.keepsSound_answered p _ _ _).trans (State.keepsSound_renew _ p)).trans (hact _)
      · exact s.keepsSound_refuse p _ _ _

/-! ### Rows of the table -/

/-- A row's outcome keeps the part sound. -/
def State.SoundBy (s : State) (o : Host.Outcome State Fault Refusal) : Prop := ∀ t, o = .next t → s.KeepsSound t

theorem State.KeepsSound.next {s t : State} (h : s.KeepsSound t) : s.SoundBy (.next t) := fun u hu => by
  obtain rfl := Host.Outcome.next.inj hu
  exact h

/-- An event that is due, or that leaves the state as it is (log 1). -/
theorem State.KeepsSound.due {s t : State} {c : Prop} [Decidable c] (h : c → s.KeepsSound t) :
    s.SoundBy (if c then .next t else .next s) := by
  split
  · next hc => exact (h hc).next
  · exact (State.KeepsSound.refl s).next

/-- While RESETn is low the row has no effect. -/
theorem State.KeepsSound.running {s t : State} {c : Prop} [Decidable c] (h : s.KeepsSound t) :
    s.SoundBy (if c then .next s else .next t) := by
  split
  · exact (State.KeepsSound.refl s).next
  · exact h.next

/-! ### The state after reset -/

/-- R40, R70, R185: after reset nothing is scheduled and the line is at rest. -/
theorem State.reset_sound : State.reset.Sound where
  sched := by
    have none (d : DescIdx) : d ∉ State.reset.sched.timed ∧ d ∉ State.reset.sched.asap.order := by
      simp [State.reset, AsapQueues.order]
    refine ⟨fun d => ?_, fun d => ?_, List.nodup_nil, List.nodup_nil, fun d hd => ?_, fun d hd => absurd hd (none d).1,
      fun d hd => ?_⟩
    · simp [(none d).1, Desc.blank]
    · simp [(none d).2, Desc.blank]
    · simp [Desc.blank] at hd
    · simp [Desc.blank, Desc.live] at hd
  line := .of_rest (by simp [State.reset, LineState.Carries]) rfl rfl rfl fun d => by simp [Desc.blank]

/-- R20, R185: after reset no port owns a descriptor. -/
theorem State.reset_liveCount (p : Port) : State.reset.liveCount p = 0 := by
  rw [State.liveCount_eq]
  exact Finset.sum_eq_zero fun d _ => by rw [State.desc_reset]; rfl

/-- R13, R19, R185: after reset every record is FREE. -/
theorem State.reset_storeSound : State.reset.StoreSound := by
  have free (d : DescIdx) : ¬ (State.reset.desc d).live = true := by simp [Desc.blank, Desc.live]
  have unowned (p : Port) (d : DescIdx) : ¬ (State.reset.desc d).ownedBy p = true := fun h =>
    free d ((Desc.ownedBy_iff _ p).1 h).1
  refine ⟨fun d hd => absurd hd (free d), fun d hd => absurd hd (free d), (State.segments_nodup_iff _).2 ?_, fun p => ?_,
    fun p => ?_, fun p d e hd => absurd hd (unowned p d)⟩
  · simp [Desc.blank]
  · rw [State.reset_liveCount]
    exact Nat.zero_le _
  · rw [State.heldCount_eq, Finset.sum_eq_zero fun d _ => if_neg (unowned p d)]
    exact Nat.zero_le _

/-- R185: a step to the blocks' reset values. -/
theorem State.KeepsSound.of_reset {s t : State} (h : (t.store.descs, t.sched, t.disp, t.enc.activity) =
    (State.reset.store.descs, State.reset.sched, State.reset.disp, State.reset.enc.activity)) : s.KeepsSound t := fun _ =>
  have k := State.KeepsSound.of_eq h State.reset_sound
  ⟨k.1, fun _ => k.2 State.reset_storeSound⟩

/-! ### Events of the line -/

theorem State.slot_of_bodyEnded {s : State} {d : DescIdx} (h : s.bodyEnded = some d) : s.disp.slot = some d := by
  unfold State.bodyEnded at h
  split at h
  · next hslot =>
    split at h
    · exact hslot.trans h
    · cases h
  · cases h

theorem State.slot_of_gapEnded {s : State} {d : DescIdx} (h : s.gapEnded = some d) : s.disp.slot = some d := by
  unfold State.gapEnded at h
  split at h
  · next hslot =>
    split at h
    · exact hslot.trans h
    · cases h
  · cases h

theorem State.slot_of_stopDue {s : State} {d : DescIdx} (h : s.stopDue = some d) : s.disp.slot = some d := by
  unfold State.stopDue at h
  split at h
  · next hslot =>
    split at h
    · exact hslot.trans h
    · cases h
  · cases h

/-- R73: PREAMBLE_END finds the frame in its preamble. -/
theorem State.preambleEnded_spec {s : State} {d : DescIdx} (h : s.preambleEnded = some d) :
    s.disp.slot = some d ∧ s.enc.activity = .sending := by
  unfold State.preambleEnded at h
  split at h
  · next hslot =>
    split at h
    · next hin => exact ⟨hslot.trans h, hin.2.2.1⟩
    · cases h
  · cases h

theorem execPreambleEnd_sound (s : State) : s.SoundBy (execPreambleEnd s) := by
  unfold execPreambleEnd
  split
  · next d hd =>
    obtain ⟨slot, activity⟩ := State.preambleEnded_spec hd
    refine State.KeepsSound.next (.of_line rfl rfl fun h => ?_)
    obtain ⟨line, onLine⟩ := h.line.frame slot
    exact .of_frame line slot (.inl ⟨activity, .inr rfl⟩) onLine
  · exact (State.KeepsSound.refl s).next

theorem execBodyEnd_sound (s : State) : s.SoundBy (execBodyEnd s) := by
  unfold execBodyEnd
  split
  · next d hd => exact (s.keepsSound_endBody d (State.slot_of_bodyEnded hd)).next
  · exact (State.KeepsSound.refl s).next

theorem execGapEnd_sound (s : State) : s.SoundBy (execGapEnd s) := by
  unfold execGapEnd
  split
  · next d hd =>
    have slot := State.slot_of_gapEnded hd
    split
    · exact (s.keepsSound_frameEnd d slot).next
    · exact (s.keepsSound_laterRepetition d slot).next
  · exact (State.KeepsSound.refl s).next

theorem execEchoStop_sound (s : State) : s.SoundBy (execEchoStop s) := by
  unfold execEchoStop
  split
  · next d hd => exact (s.keepsSound_echoStopped d (State.slot_of_stopDue hd)).next
  · exact (State.KeepsSound.refl s).next

/-- R76: in the phase GUARD no frame is on the line. -/
theorem State.guardEnded_rest {s : State} (hg : s.guardEnded = true) (h : s.LineSound) :
    s.disp.slot = none ∧ s.enc.activity = .resting ∧ ∀ d, (s.desc d).state ≠ .onLine := by
  have phase : s.disp.phase = some .guard := by
    simp only [State.guardEnded, Bool.and_eq_true, decide_eq_true_eq] at hg
    exact hg.1.2
  have slot : s.disp.slot = none := by simpa using mt h.slot.1 (by simp [phase])
  exact ⟨slot, h.resting.2 slot, fun d hd => by simpa [slot] using (h.onLine d).1 hd⟩

theorem execGuardEnd_sound (s : State) : s.SoundBy (execGuardEnd s) := by
  unfold execGuardEnd
  split
  · next hg =>
    split
    · refine State.KeepsSound.next (State.KeepsSound.decide (.of_line ?_ (State.moveLine_sched _ _ _) fun h => ?_))
      · rw [State.moveLine_store]
      · obtain ⟨slot, activity, off⟩ := State.guardEnded_rest hg h.line
        refine .of_rest (by simp [LineState.Carries]) (State.moveLine_phase _ _ _) ((State.moveLine_slot _ _ _).trans slot)
          (by rw [State.moveLine_enc]; exact activity) fun d => ?_
        rw [State.moveLine_desc]
        exact off d
    · exact (s.keepsSound_enterDisabled .drainEnd fun h => (State.guardEnded_rest hg h.line).1).next
    all_goals exact (State.KeepsSound.refl s).next
  · exact (State.KeepsSound.refl s).next

theorem execComparisonEvent_sound (s : State) : s.SoundBy (execComparisonEvent s) := by
  unfold execComparisonEvent
  split
  · exact .due fun _ => s.keepsSound_countMismatch _
  · exact (State.KeepsSound.refl s).next

theorem execHoldEnd_sound (s : State) : s.SoundBy (execHoldEnd s) := by
  unfold execHoldEnd
  split
  · next hh =>
    have fault : s.disp.line = .fault := by
      simp only [State.holdEnded, Bool.and_eq_true, decide_eq_true_eq] at hh
      exact hh.1.2
    split
    · exact (s.keepsSound_moveLine .idle .holdEnd (by simp [LineState.Carries, fault])).decide.next
    · exact State.KeepsSound.next (.of_eq rfl)
  · exact (State.KeepsSound.refl s).next

/-! ### The other events -/

/-- R84, R85: what expires is WAITING, so off the line. -/
theorem execWindowExpiry_sound (d : DescIdx) (s : State) : s.SoundBy (execWindowExpiry d s) := by
  refine .due fun hw => (s.keepsSound_retireNow d _ _ _ fun _ hon => ?_).decide
  simp [State.windowPassed, hon] at hw

theorem execAsapExpiry_sound (d : DescIdx) (s : State) : s.SoundBy (execAsapExpiry d s) := by
  refine .due fun hw => s.keepsSound_retireNow d _ _ _ fun _ hon => ?_
  simp [State.asapExpiryDue, hon] at hw

theorem State.keepsSound_lapse (s : State) (p : Port) : s.KeepsSound (s.lapse p) :=
  ((((s.keepsSound_releaseClaim p).trans (State.keepsSound_purgeWalk _ p)).trans
    (State.keepsSound_markOnLine _ p)).trans (State.keepsSound_place _ p _)).trans (State.keepsSound_modPort _ p _)

theorem execLsenseChange_sound (cycles : Nat) (level : Level) (s : State) :
    s.SoundBy (execLsenseChange cycles level s) := by
  unfold execLsenseChange
  split
  · exact State.KeepsSound.next (.of_eq rfl)
  · exact State.KeepsSound.next ((s.keepsSound_cycles _).trans (.of_eq rfl))

theorem execCarrierBurstEnd_sound (s : State) : s.SoundBy (execCarrierBurstEnd s) := by
  unfold execCarrierBurstEnd
  split
  · exact (State.KeepsSound.refl s).next
  · split
    · exact (s.keepsSound_cycles _).next
    · exact (State.KeepsSound.refl s).next

theorem execVoidTransaction_sound (p : Port) (stretch : Stretch) (s : State) :
    s.SoundBy (execVoidTransaction p stretch s) := by
  unfold execVoidTransaction
  dsimp only
  split
  · exact (State.KeepsSound.refl s).next
  · split
    · exact (s.keepsSound_modPort p _).next
    · exact (State.KeepsSound.refl s).next

theorem execRequestNotTaken_sound (p : Port) (msg : List Byte) (crc : Byte) (s : State) :
    s.SoundBy (execRequestNotTaken p msg crc s) := by
  unfold execRequestNotTaken
  split
  · exact (State.KeepsSound.refl s).next
  · split
    · exact (State.KeepsSound.refl s).next
    · exact (s.keepsSound_refuse p msg crc _).next

theorem execLinkReset_sound (p : Port) (s : State) : s.SoundBy (execLinkReset p s) := by
  have reset (t : State) : t.KeepsSound (t.resetLink p) :=
    ((t.keepsSound_releaseClaim p).trans (State.keepsSound_discardAll _ p)).trans (State.keepsSound_modPort _ p _)
  exact .running ((((s.keepsSound_begun p _).trans (State.keepsSound_modPort _ p _)).trans (reset _)).decideIfLeft s)

/-- Every row of the table keeps schedule, line and store sound. -/
theorem exec_sound (i : Instr) (s : State) : s.SoundBy (exec i s) := by
  cases i with
  | chipReset => exact State.KeepsSound.next (.of_reset rfl)
  | resetRelease tbsel pcsLow => exact .due fun _ => .of_reset rfl
  | tick => exact .running s.keepsSound_wholeTick
  | leaseLow p => exact .due fun _ => s.keepsSound_modPort p _
  | lapse p => exact .due fun _ => (s.keepsSound_lapse p).decideIfPurged s
  | captureEdge pin => exact .running (s.keepsSound_modPort pin.port _)
  | timedStartReached => exact .due fun _ => s.keepsSound_startDecision
  | notBeforeReached d =>
    exact .due fun _ => (s.keepsSound_modDesc d (fun x => { x with eligible := true }) (.of_eq rfl) (.of_eq rfl)).decide
  | windowExpiry d => exact execWindowExpiry_sound d s
  | asapExpiry d => exact execAsapExpiry_sound d s
  | heldExpiryPassed d =>
    exact .due fun _ => s.keepsSound_modDesc d (fun x => { x with expiry := .passed }) (.of_eq rfl) (.of_eq rfl)
  | preambleEnd => exact execPreambleEnd_sound s
  | bodyEnd => exact execBodyEnd_sound s
  | gapEnd => exact execGapEnd_sound s
  | guardEnd => exact execGuardEnd_sound s
  | comparisonEvent => exact execComparisonEvent_sound s
  | echoStop => exact execEchoStop_sound s
  | holdEnd => exact execHoldEnd_sound s
  | strobePulseEnd p => exact .due fun _ => s.keepsSound_modPort p _
  | openSession p tag fields => exact (s.keepsSound_request (State.keepsSound_doOpen p tag fields)).next
  | renew p tag fields =>
    exact (s.keepsSound_request fun t => .check fun _ => .check fun _ => t.keepsSound_reply).next
  | close p tag fields => exact (s.keepsSound_request (State.keepsSound_doClose p tag fields)).next
  | loadBegin p tag fields => exact (s.keepsSound_request (State.keepsSound_doLoadBegin p tag fields)).next
  | loadData p tag fields => exact (s.keepsSound_request (State.keepsSound_doLoadData p tag fields)).next
  | queryFrame p tag fields => exact (s.keepsSound_request (State.keepsSound_doQueryFrame p tag fields)).next
  | submit p tag fields => exact (s.keepsSound_request (State.keepsSound_doSubmit p tag fields)).next
  | cancel p tag fields => exact (s.keepsSound_request (State.keepsSound_doCancel p tag fields)).next
  | queryFree p tag fields => exact (s.keepsSound_request (State.keepsSound_doQueryFree p tag fields)).next
  | lineEnable p tag fields => exact (s.keepsSound_request (State.keepsSound_doLineEnable p tag fields)).next
  | lineDisable p tag fields => exact (s.keepsSound_request (State.keepsSound_doLineDisable p tag fields)).next
  | queryLine p tag fields => exact (s.keepsSound_request (State.keepsSound_doQueryLine p tag fields)).next
  | recover p tag fields => exact (s.keepsSound_request (State.keepsSound_doRecover p tag fields)).next
  | claim p tag fields => exact (s.keepsSound_request (State.keepsSound_doClaim p tag fields)).next
  | release p tag fields => exact (s.keepsSound_request (State.keepsSound_doRelease p tag fields)).next
  | stage p tag fields => exact (s.keepsSound_request (State.keepsSound_doStage p tag fields)).next
  | commit p tag fields => exact (s.keepsSound_request (State.keepsSound_doCommit p tag fields)).next
  | queryProfile p tag fields => exact (s.keepsSound_request (State.keepsSound_doQueryProfile p tag fields)).next
  | queryTime p tag fields => exact (s.keepsSound_request fun t => .check fun _ => t.keepsSound_reply).next
  | readCapture p tag fields => exact (s.keepsSound_request (State.keepsSound_doReadCapture p tag fields)).next
  | setTime p tag fields => exact (s.keepsSound_request (State.keepsSound_doSetTime p tag fields)).next
  | queryLink p tag fields => exact (s.keepsSound_request fun t => .check fun _ => t.keepsSound_reply).next
  | unknownCommand p code tag fields => exact .running (s.keepsSound_request fun t => t.keepsSound_reply)
  | poll p bytes => exact .running ((s.keepsSound_begun p _).trans (State.keepsSound_modPort _ p _))
  | voidTransaction p stretch => exact execVoidTransaction_sound p stretch s
  | linkReset p => exact execLinkReset_sound p s
  | failedConfirm p confirm => exact .running ((s.keepsSound_begun p _).trans (State.keepsSound_modPort _ p _))
  | requestNotTaken p msg crc => exact execRequestNotTaken_sound p msg crc s
  | lsenseChange cycles level => exact execLsenseChange_sound cycles level s
  | carrierBurstEnd => exact execCarrierBurstEnd_sound s

/-- A step keeps schedule, line and store sound: the command at the front, or none (log 3). -/
theorem step_sound (s : State) : s.SoundBy (step s) := by
  unfold step
  split
  · exact (State.KeepsSound.refl s).next
  · next c rest _ =>
    have taken : s.KeepsSound { s with pending := rest } := .of_eq rfl
    exact fun t ht => taken.trans (exec_sound c _ t ht)

/-- Settles O53: every row keeps the schedule and the line sound together, each resting on the other. -/
theorem scheduleAndLineStaySound : Obligations.ScheduleAndLineStaySound := fun s t sched line hstep =>
  have h := (step_sound s t hstep ⟨sched, line⟩).1
  ⟨h.sched, h.line⟩

/-- R19: the free segments and those that records hold make up the pool. -/
theorem State.StoreSound.segments_count {s : State} (h : s.StoreSound) :
    s.freeSegs.length + (s.store.descs.toList.map fun x => x.segs.length).sum = 192 := by
  have held : ((List.finRange 192).filter fun g => s.store.descs.toList.any fun x => x.segs.contains g).Perm
      (s.store.descs.toList.flatMap fun x => x.segs) :=
    (List.perm_ext_iff_of_nodup ((List.nodup_finRange 192).filter _) h.segments).2 fun g => by
      simp only [List.mem_filter, List.mem_finRange, true_and, List.any_eq_true, List.contains_iff_mem, List.mem_flatMap]
  have split := List.length_eq_length_filter_add (l := List.finRange 192)
    fun g => s.store.descs.toList.any fun x => x.segs.contains g
  rw [held.length_eq, List.length_flatMap, List.length_finRange] at split
  rw [State.freeSegs, Nat.add_comm]
  exact split.symm

/-- Settles O56: bodies are kept or freed by every row but LOAD_BEGIN, which takes free segments under the shares' limits;
and the count of the segments. -/
theorem storeStaysSound : Obligations.StoreStaysSound :=
  ⟨fun s t sched line store hstep => (step_sound s t hstep ⟨sched, line⟩).2 store, fun _ h => h.segments_count⟩

/-- R128, R185: the profile after reset has every value in its range. -/
theorem Profile.inRange_default (f : ProfileField) : f.inRange (Profile.field {} f) = true := by
  cases f <;> decide

theorem State.reset_roomSound : State.reset.RoomSound := fun p => by
  have used : State.reset.used p = 0 := by cases p <;> rfl
  have session : State.reset.hasSession p = false := by cases p <;> rfl
  simp [used, State.reserved, State.reset_liveCount, session]

theorem State.reset_chainsSound : State.reset.ChainsSound := by
  have unlinked (d e : DescIdx) : (State.reset.desc d).successor ≠ some e := by simp [Desc.blank]
  exact ⟨fun d e h => absurd h (unlinked d e), fun d _ e h => absurd h (unlinked d e),
    fun e h => by simp [Desc.blank] at h, fun _ => 0, fun d e h => absurd h (unlinked d e)⟩

theorem State.reset_countsSound : State.reset.CountsSound := by
  have port (p : Port) : State.reset.port p = {} := by cases p <;> rfl
  refine .of_blocks ⟨.inr (.inr (.inl rfl)), by decide⟩ ⟨Nat.zero_le _, Nat.zero_le _⟩
    (State.reset_sound.sched.tableSound fun d => ?_) fun p => ?_
  · rw [State.desc_reset]
    exact Desc.countsSound_blank
  · rw [port]
    exact PortState.countsSound_reset {} rfl ⟨Nat.zero_le _, Nat.zero_le _, Nat.zero_le _⟩ (.inl rfl)

/-- Settles O52: nothing is scheduled, owned, linked or on the line, and each count and profile value is in its range. -/
theorem invariantsAtReset : Obligations.InvariantsAtReset := by
  have listed (d : DescIdx) : d ∉ State.reset.sched.timed := by simp [State.reset]
  exact ⟨State.reset_sound.sched, State.reset_sound.line,
    ⟨fun _ => nofun, rfl, Profile.inRange_default, fun _ => nofun⟩, State.reset_roomSound, State.reset_storeSound,
    State.reset_chainsSound, fun d hd => absurd hd (listed d),
    ⟨List.Pairwise.nil, fun d hd => absurd hd (listed d)⟩, fun _ _ d hd => absurd hd (listed d),
    ⟨fun d hd => absurd hd (listed d), fun _ => nofun⟩, State.reset_countsSound, State.reset_poolSound⟩

end Sys2Proof.Machine
end

section
/-! Chains: a frame that fails retires with its whole chain, one that is sent releases its successor (O15, O16, O17). -/

namespace Sys2Proof.Machine

/-! ### Chains -/

section
variable {s t : State} {p : Port} {d : DescIdx} {cs : List DescIdx}

/-- R47: the members of a chain are the port's. -/
theorem State.ChainFrom.owned (h : s.ChainFrom p d cs) : (s.desc d).ownedBy p = true := by
  cases cs with
  | nil => exact h.1
  | cons e cs => exact h.1

/-- R47: no descriptor comes twice in a chain. -/
theorem State.ChainFrom.nodup (h : s.ChainFrom p d cs) : (d :: cs).Nodup := by
  induction cs generalizing d with
  | nil => exact List.nodup_singleton d
  | cons e cs ih =>
    obtain ⟨-, -, -, hd, rest⟩ := h
    exact List.nodup_cons.2 ⟨hd, ih rest⟩

/-- R47: a chain is no longer than the table. -/
theorem State.ChainFrom.length_lt (h : s.ChainFrom p d cs) : cs.length < 48 := by
  simpa using h.nodup.length_le_card

/-- R47: a member's successor is a member behind the first. -/
theorem State.ChainFrom.successor_mem (h : s.ChainFrom p d cs) {x y : DescIdx} (hx : x ∈ d :: cs)
    (hy : (s.desc x).successor = some y) : y ∈ cs := by
  induction cs generalizing d with
  | nil =>
    obtain ⟨-, hnone⟩ := h
    rw [List.mem_singleton.1 hx, hnone] at hy
    cases hy
  | cons e cs ih =>
    obtain ⟨-, hsucc, -, -, rest⟩ := h
    rcases List.mem_cons.1 hx with rfl | hx
    · rw [hsucc] at hy
      exact Option.some.inj hy ▸ List.mem_cons_self
    · exact List.mem_cons_of_mem _ (ih rest hx)

/-- A chain stands in a state in which its members have kept their owner, their links and, behind the first, their state. -/
theorem State.ChainFrom.congr (h : s.ChainFrom p d cs)
    (owned : ∀ x ∈ d :: cs, (s.desc x).ownedBy p = true → (t.desc x).ownedBy p = true)
    (successor : ∀ x ∈ d :: cs, (t.desc x).successor = (s.desc x).successor)
    (state : ∀ x ∈ cs, (t.desc x).state = (s.desc x).state) : t.ChainFrom p d cs := by
  induction cs generalizing d with
  | nil => exact ⟨owned d List.mem_cons_self h.1, (successor d List.mem_cons_self).trans h.2⟩
  | cons e cs ih =>
    obtain ⟨own, succ, held, hd, rest⟩ := h
    exact ⟨owned d List.mem_cons_self own, (successor d List.mem_cons_self).trans succ,
      (state e List.mem_cons_self).trans held, hd,
      ih rest (fun x hx => owned x (List.mem_cons_of_mem _ hx)) (fun x hx => successor x (List.mem_cons_of_mem _ hx))
        fun x hx => state x (List.mem_cons_of_mem _ hx)⟩

end

/-! ### The parts of a retirement -/

/-- R34 step 2, for d and then for others. -/
theorem Desc.unlinked_cons (x : Desc) (d : DescIdx) (ds : List DescIdx) :
    x.unlinked (d :: ds) = Desc.unlinked (if x.successor = some d then { x with successor := none } else x) ds := by
  unfold Desc.unlinked
  cases hx : x.successor with
  | none => simp [hx]
  | some e =>
    by_cases hed : e = d
    · simp [hed]
    · simp [hx, hed]

theorem State.Retired.refl (s : State) : s.Retired s [] where
  free _ hd := by cases hd
  others e _ := by simp
  timed := by simp
  queued := by simp [AsapQueues.remove]
  counter := rfl
  slot := by simp
  bytes _ := rfl
  inReset := rfl
  lsense := rfl
  clock := rfl
  enc := rfl
  echo := rfl
  prof := rfl
  pending := rfl

/-- Retirements between changes of the ports. -/
theorem State.Retired.ports {s t : State} {ds : List DescIdx} (h : s.Retired t ds) (ps ps' : Ports) :
    State.Retired { s with ports := ps } { t with ports := ps' } ds :=
  ⟨h.1, h.2, h.3, h.4, h.5, h.6, h.7, h.8, h.9, h.10, h.11, h.12, h.13, h.14⟩

theorem AsapQueues.remove_remove (q : AsapQueues) (f g : DescIdx → Bool) :
    (q.remove f).remove g = q.remove fun d => f d && g d := by
  simp [AsapQueues.remove, List.filter_filter, Bool.and_comm]

theorem State.disp_vacate (s : State) (d : DescIdx) :
    (s.vacate d).disp = if s.disp.slot = some d then { s.disp with slot := none } else s.disp := by
  rw [State.vacate, State.setDesc_disp, State.leave, State.keepScheduled_disp]
  split <;> rfl

theorem State.sched_vacate (s : State) (d : DescIdx) :
    (s.vacate d).sched = (s.keepScheduled fun e => decide (e ≠ d)).sched := by
  rw [State.vacate, State.setDesc_sched, State.leave_sched]

/-- R34 steps 2 to 5: d retires around the chain behind it. -/
theorem State.Retired.cons {s v : State} {d : DescIdx} {ds : List DescIdx} (h : (s.unlink d).Retired v ds) :
    s.Retired (v.vacate d) (d :: ds) := by
  have frame : v.KeepsLine (v.vacate d) := (v.keepsLine_leave d).trans (State.keepsLine_setDesc _ d _)
  have both : (fun e => decide (e ∉ d :: ds)) = fun e => decide (e ∉ ds) && decide (e ≠ d) := by
    funext e
    simp [Bool.and_comm]
  refine ⟨fun e he => ?_, fun e he => ?_, ?_, ?_, ?_, ?_, fun a => ?_, ?_, ?_, ?_, ?_, ?_, ?_, ?_⟩
  · rw [State.desc_vacate]
    split
    · rfl
    · next hed => exact h.free e ((List.mem_cons.1 he).resolve_left hed)
  · obtain ⟨hed, hmem⟩ := not_or.1 (mt List.mem_cons.2 he)
    rw [State.desc_vacate, if_neg hed, h.others e hmem, Desc.unlinked_cons, State.desc_unlink]
  · rw [State.sched_vacate, State.keepScheduled_timed, h.timed, both, List.filter_filter]
    simp [Bool.and_comm]
  · rw [State.sched_vacate, State.keepScheduled_asap, h.queued, AsapQueues.remove_remove, both]
    rfl
  · rw [State.sched_vacate, State.keepScheduled_counter, h.counter]
    rfl
  · rw [State.disp_vacate, h.slot, State.unlink_disp]
    simp only [List.exists_mem_cons_iff]
    by_cases hds : ∃ e ∈ ds, s.disp.slot = some e
    · rw [if_pos hds, if_neg nofun, if_pos (.inr hds)]
    · rw [if_neg hds]
      by_cases hd : s.disp.slot = some d
      · rw [if_pos hd, if_pos (.inl hd)]
      · rw [if_neg hd, if_neg (not_or.2 ⟨hd, hds⟩)]
  · rw [frame.pool]
    exact h.bytes a
  · exact frame.inReset.trans h.inReset
  · exact frame.lsense.trans h.lsense
  · exact frame.clock.trans h.clock
  · exact frame.enc.trans h.enc
  · exact frame.echo.trans h.echo
  · exact frame.prof.trans h.prof
  · exact frame.pending.trans h.pending

/-- R34 step 7: completion in Safety's terms. -/
theorem State.port_complete (s : State) (p : Port) :
    (s.complete p).port p = (s.port p).afterRetirements (s.liveCount p) := by
  rcases s.complete_cases p with ⟨h, e⟩ | ⟨hc, hl, e⟩
  · rw [e, PortState.afterRetirements, if_neg h]
  · rw [e, PortState.afterRetirements, if_pos ⟨hc, hl⟩, State.port_modPort, if_pos rfl]

theorem State.complete_store (s : State) (p : Port) : (s.complete p).store = s.store := by
  rcases s.complete_cases p with ⟨-, e⟩ | ⟨-, -, e⟩ <;> rw [e]
  rfl

/-- R34 step 7: with a descriptor still live the session goes on. -/
theorem PortState.afterRetirements_of_pos (q : PortState) {n : Nat} (h : 0 < n) : q.afterRetirements n = q :=
  if_neg fun hc => by omega

/-- R20: a port that owns a live descriptor has a live count. -/
theorem State.liveCount_pos {s : State} {p : Port} {d : DescIdx} (h : (s.desc d).ownedBy p = true) :
    0 < s.liveCount p := by
  rw [State.liveCount, s.descs_toList, List.countP_pos_iff]
  exact ⟨s.desc d, List.mem_map_of_mem (List.mem_finRange d), h⟩

theorem State.liveCount_congr {s t : State} {p : Port}
    (h : ∀ d, (t.desc d).ownedBy p = (s.desc d).ownedBy p) : t.liveCount p = s.liveCount p := by
  rw [State.liveCount_eq, State.liveCount_eq]
  exact Finset.sum_congr rfl fun d _ => by rw [h]

/-- R20: a record vacated that was the port's. -/
theorem State.liveCount_vacate {s : State} {p : Port} {d : DescIdx} (h : (s.desc d).ownedBy p = true) :
    (s.vacate d).liveCount p + 1 = s.liveCount p := by
  have left : (s.leave d).store = s.store := by
    unfold State.leave
    dsimp only
    split <;> rfl
  have desc : (s.leave d).desc d = s.desc d := by rw [State.desc, left, State.desc]
  have set := (s.leave d).liveCount_setDesc d Desc.blank p
  have same : (s.leave d).liveCount p = s.liveCount p := by rw [State.liveCount, left, State.liveCount]
  rw [desc, h, same] at set
  exact set

theorem State.vacate_port (s : State) (d : DescIdx) (q : Port) : (s.vacate d).port q = s.port q := by
  rw [State.vacate, State.setDesc_port, State.leave]
  split <;> rfl

/-- R34 step 2: clearing a link leaves the owner. -/
theorem Desc.unlinked_ownedBy (x : Desc) (ds : List DescIdx) (p : Port) : (x.unlinked ds).ownedBy p = x.ownedBy p := by
  unfold Desc.unlinked
  split
  · split <;> rfl
  · rfl

/-- R34 steps 1 and 2 leave the owners. -/
theorem State.announced_ownedBy (s : State) (d : DescIdx) (o : FrameOutcome) (stop : Time) (p : Port) (e : DescIdx) :
    (((s.announce d o stop).unlink d).desc e).ownedBy p = (s.desc e).ownedBy p := by
  obtain ⟨ps, hps⟩ := s.announce_ports d o stop
  rw [hps, State.desc_unlink]
  split <;> rfl

/-- R34 step 1: the entry of a descriptor of p's. -/
theorem State.announce_of_owned {s : State} {p : Port} {d : DescIdx} (h : (s.desc d).ownedBy p = true) (o : FrameOutcome)
    (stop : Time) : s.announce d o stop = s.place p (frameDone (s.desc d) o stop) := by
  rw [State.announce, (((s.desc d).ownedBy_iff p).1 h).2]

/-- R34, R35: what the retirement of the descriptors ds does for their owner p: the records retired, the entries placed, and
the completion that is not left to the command of `defer`. -/
structure State.RetiresWith (s t : State) (p : Port) (ds : List DescIdx) (es : List Entry) (defer : Option Port) : Prop where
  retired : s.Retired t ds
  others : s.SameOthers t p
  count : t.liveCount p + ds.length = s.liveCount p
  port : t.port p = if defer = some p then (s.port p).withEntries es
    else ((s.port p).withEntries es).afterRetirements (t.liveCount p)

/-- R34 step 7 is left to the outermost retirement: before it something of p's is live. -/
theorem State.RetiresWith.port_of_live {s t : State} {p : Port} {ds : List DescIdx} {es : List Entry} {defer : Option Port}
    (h : s.RetiresWith t p ds es defer) (live : 0 < t.liveCount p) : t.port p = (s.port p).withEntries es := by
  rw [h.port]
  split
  · rfl
  · exact PortState.afterRetirements_of_pos _ live

theorem State.RetiresWith.refl (s : State) {p : Port} (live : 0 < s.liveCount p) : s.RetiresWith s p [] [] none where
  retired := .refl s
  others _ _ := rfl
  count := rfl
  port := by rw [PortState.withEntries_nil, PortState.afterRetirements_of_pos _ live, ite_self]

/-- R34 step 7 for the owner p of what has been vacated. -/
theorem State.conclude_spec (v : State) (p : Port) (defer : Option Port) :
    (v.conclude (some p) defer).store = v.store ∧ (∀ q, q ≠ p → (v.conclude (some p) defer).port q = v.port q) ∧
    (v.conclude (some p) defer).port p =
      if defer = some p then v.port p else (v.port p).afterRetirements (v.liveCount p) := by
  unfold State.conclude
  dsimp only
  split
  · exact ⟨rfl, fun _ _ => rfl, rfl⟩
  · exact ⟨v.complete_store p, fun q hq => v.port_complete_other hq, v.port_complete p⟩

/-- R34: the retirement of d around what its chain has done in v. -/
theorem State.RetiresWith.cons {s v : State} {p : Port} {d : DescIdx} {ds : List DescIdx} {es : List Entry}
    {inner : Option Port} {o : FrameOutcome} {stop : Time} (own : (s.desc d).ownedBy p = true) (hd : d ∉ ds)
    (h : ((s.announce d o stop).unlink d).RetiresWith v p ds es inner) (defer : Option Port) :
    s.RetiresWith ((v.vacate d).conclude (s.desc d).owner defer) p (d :: ds) (frameDone (s.desc d) o stop :: es) defer := by
  have ownV : (v.desc d).ownedBy p = true := by
    rw [h.retired.others d hd, Desc.unlinked_ownedBy, State.announced_ownedBy, own]
  have portV := h.port_of_live (State.liveCount_pos ownV)
  have countV := State.liveCount_vacate ownV
  have countS : ((s.announce d o stop).unlink d).liveCount p = s.liveCount p :=
    State.liveCount_congr (s.announced_ownedBy d o stop p)
  have countU := h.count
  obtain ⟨ps, hps⟩ := (v.vacate d).conclude_ports (some p) defer
  obtain ⟨store, others, port⟩ := (v.vacate d).conclude_spec p defer
  rw [(((s.desc d).ownedBy_iff p).1 own).2]
  have countT : ((v.vacate d).conclude (some p) defer).liveCount p = (v.vacate d).liveCount p := by
    rw [State.liveCount, store, State.liveCount]
  refine ⟨?_, fun q hq => ?_, ?_, ?_⟩
  · rw [hps]
    rw [State.announce_of_owned own] at h
    exact h.retired.cons.ports s.ports ps
  · rw [others q hq, State.vacate_port, h.others q hq, State.unlink_port, State.announce_of_owned own, State.port_place,
      if_neg hq]
  · rw [countT, List.length_cons]
    omega
  · rw [port, countT, State.vacate_port, portV, State.unlink_port, State.announce_of_owned own, State.port_place,
      if_pos rfl, PortState.withEntries_append]
    rfl

/-! ### A chain that fails -/

/-- R61: what follows a failed frame follows the next one too. -/
theorem FrameOutcome.passOn_spec (o : FrameOutcome) :
    o.passOn.releases = false ∧ o.passOn.passOn = o.passOn ∧
      o.passOn = if o = .purged then .purged else .chainBroken := by
  cases o <;> simp [FrameOutcome.passOn, FrameOutcome.releases]

/-- R34 steps 1 and 2 reach a member of d's chain behind d in nothing. -/
theorem State.ChainFrom.desc_announced {s : State} {p : Port} {d c : DescIdx} {cs : List DescIdx}
    (h : s.ChainFrom p d (c :: cs)) (o : FrameOutcome) (stop : Time) {x : DescIdx} (hx : x ∈ c :: cs) :
    ((s.announce d o stop).unlink d).desc x = s.desc x := by
  obtain ⟨-, -, -, hd, rest⟩ := h
  obtain ⟨ps, hps⟩ := s.announce_ports d o stop
  rw [hps, State.desc_unlink]
  refine if_neg fun hsucc => hd (List.mem_cons_of_mem _ (rest.successor_mem hx hsucc))

/-- R34 steps 1 and 2: the link of d itself stands. -/
theorem State.ChainFrom.successor_announced {s : State} {p : Port} {d : DescIdx} {cs : List DescIdx}
    (h : s.ChainFrom p d cs) (o : FrameOutcome) (stop : Time) :
    (((s.announce d o stop).unlink d).desc d).successor = (s.desc d).successor := by
  have ne : (s.desc d).successor ≠ some d := fun hd =>
    (List.nodup_cons.1 h.nodup).1 (h.successor_mem List.mem_cons_self hd)
  obtain ⟨ps, hps⟩ := s.announce_ports d o stop
  rw [hps, State.desc_unlink]
  exact congrArg Desc.successor (if_neg ne)

/-- R34 steps 1 and 2 leave the chain behind d. -/
theorem State.ChainFrom.tail_announced {s : State} {p : Port} {d c : DescIdx} {cs : List DescIdx}
    (h : s.ChainFrom p d (c :: cs)) (o : FrameOutcome) (stop : Time) :
    ((s.announce d o stop).unlink d).ChainFrom p c cs := by
  obtain ⟨-, -, -, -, rest⟩ := id h
  exact rest.congr (fun x hx => by rw [h.desc_announced o stop hx]; exact id)
    (fun x hx => by rw [h.desc_announced o stop hx])
    fun x hx => by rw [h.desc_announced o stop (List.mem_cons_of_mem _ hx)]

/-- R34 steps 1 and 2 leave the entries of the chain behind d. -/
theorem State.ChainFrom.chainEntries_announced {s : State} {p : Port} {d c : DescIdx} {cs : List DescIdx}
    (h : s.ChainFrom p d (c :: cs)) (o : FrameOutcome) (stop : Time) (o' next : FrameOutcome) :
    ((s.announce d o stop).unlink d).chainEntries c cs o' next stop = s.chainEntries c cs o' next stop :=
  congrArg₂ List.cons (by rw [h.desc_announced o stop List.mem_cons_self])
    (List.map_congr_left fun x hx => by rw [h.desc_announced o stop (List.mem_cons_of_mem _ hx)])

/-- R34, R35, R61, R63: a chain whose first frame fails retires whole. -/
theorem State.retire_chain {s : State} {p : Port} {d : DescIdx} {cs : List DescIdx} (h : s.ChainFrom p d cs)
    {o : FrameOutcome} (ho : o.releases = false) (stop : Time) (defer : Option Port) {fuel : Nat} (hf : cs.length < fuel) :
    s.RetiresWith (State.retire fuel d o stop defer s) p (d :: cs) (s.chainEntries d cs o o.passOn stop) defer := by
  induction cs generalizing s d o fuel with
  | nil =>
    obtain ⟨fuel, rfl⟩ := Nat.exists_eq_succ_of_ne_zero (Nat.ne_of_gt hf)
    have live := ((s.desc d).ownedBy_iff p).1 h.owned
    have stands : State.followChain fuel d o stop defer ((s.announce d o stop).unlink d) =
        (s.announce d o stop).unlink d := by
      rw [State.followChain, h.successor_announced, h.2]
    rw [s.retire_succ fuel d o stop defer live.1, stands]
    refine State.RetiresWith.cons h.owned List.not_mem_nil (.refl _ ?_) defer
    exact State.liveCount_pos (d := d) (by rw [State.announced_ownedBy, h.owned])
  | cons c cs ih =>
    obtain ⟨fuel, rfl⟩ := Nat.exists_eq_succ_of_ne_zero (Nat.ne_of_gt ((Nat.zero_le _).trans_lt hf))
    have live := ((s.desc d).ownedBy_iff p).1 h.owned
    obtain ⟨-, succ, held, hd, -⟩ := id h
    have follows : State.followChain fuel d o stop defer ((s.announce d o stop).unlink d) =
        State.retire fuel c o.passOn stop defer ((s.announce d o stop).unlink d) := by
      rw [State.followChain, h.successor_announced, succ]
      simp [h.desc_announced o stop List.mem_cons_self, held, ho]
    obtain ⟨releases, passOn, -⟩ := o.passOn_spec
    have inner := ih (h.tail_announced o stop) releases (Nat.lt_of_succ_lt_succ hf)
    rw [s.retire_succ fuel d o stop defer live.1, follows]
    rw [passOn, h.chainEntries_announced] at inner
    exact inner.cons h.owned hd defer

theorem State.retireNow_chain {s : State} {p : Port} {d : DescIdx} {cs : List DescIdx} (h : s.ChainFrom p d cs)
    {o : FrameOutcome} (ho : o.releases = false) (stop : Time) (defer : Option Port) :
    s.RetiresWith (s.retireNow d o stop defer) p (d :: cs) (s.chainEntries d cs o o.passOn stop) defer :=
  State.retire_chain h ho stop defer (h.length_lt.trans (by decide))

/-- Settles O15: the retirement of a chain, by its length, with the session's completion left out or not due. -/
theorem chainRetiresWhole : Obligations.ChainRetiresWhole := by
  intro s p d cs o next stop defer h ho hnext hdefer
  obtain ⟨retired, others, count, port⟩ := State.retireNow_chain h ho stop defer
  rw [hnext, ← o.passOn_spec.2.2]
  refine ⟨retired, others, ?_, count⟩
  rw [port]
  split
  · rfl
  · next hne =>
    have going := hdefer.resolve_left hne
    exact if_neg fun hc => going hc.1

/-! ### A frame that is sent -/

/-- R34: a change of a descriptor that goes with its chain, and keeps its state and owner, does not show. -/
theorem State.RetiresWith.of_modDesc {s v : State} {p : Port} {c : DescIdx} {cs : List DescIdx} {es : List Entry}
    {defer : Option Port} {f : Desc → Desc} (same : (f (s.desc c)).ownedBy p = (s.desc c).ownedBy p)
    (h : (s.modDesc c f).RetiresWith v p (c :: cs) es defer) : s.RetiresWith v p (c :: cs) es defer := by
  have count : (s.modDesc c f).liveCount p = s.liveCount p := State.liveCount_congr fun d => by
    rw [State.desc_modDesc]
    split
    · next hd => rw [hd, same]
    · rfl
  refine ⟨{ h.retired with others := fun e he => ?_ }, h.others, h.count.trans count, h.port⟩
  have hec : e ≠ c := fun hec => he (hec ▸ List.mem_cons_self)
  rw [h.retired.others e he, State.desc_modDesc, if_neg hec]

/-- R62: the successor that is released, around its predecessor's end. -/
theorem State.released_vacate {s : State} {p : Port} {d c : DescIdx} {cs : List DescIdx} (h : s.ChainFrom p d (c :: cs))
    (o : FrameOutcome) (stop : Time) (ps : Ports) :
    s.Released { ((((s.announce d o stop).unlink d).release c stop).vacate d) with ports := ps } d c stop := by
  have hc := h.desc_announced o stop (x := c) List.mem_cons_self
  have hcd : c ≠ d := fun e => (List.nodup_cons.1 h.nodup).1 (e ▸ List.mem_cons_self)
  obtain ⟨ps', hps⟩ := s.announce_ports d o stop
  rw [hps] at hc ⊢
  have now : (State.unlink { s with ports := ps' } d).now = s.clock.time := rfl
  have line := ((State.keepsLine_release (State.unlink { s with ports := ps' } d) c stop).trans
    (State.keepsLine_leave _ d)).trans (State.keepsLine_setDesc _ d Desc.blank)
  refine ⟨?_, ?_, fun e he hec => ?_, ?_, ?_, ?_, ?_, fun a => ?_, ?_⟩
  · exact (State.desc_vacate ..).trans (if_pos rfl)
  · refine (State.desc_vacate ..).trans ?_
    rw [if_neg hcd, State.desc_release, if_pos rfl, hc, now]
    rfl
  · refine (State.desc_vacate ..).trans ?_
    rw [if_neg he, State.desc_release, if_neg hec, State.desc_unlink, Desc.unlinked_cons]
    exact (Desc.unlinked_nil _).symm
  · exact congrArg Schedule.timed (State.sched_vacate ..)
  · refine (congrArg Schedule.asap (State.sched_vacate ..)).trans ?_
    show AsapQueues.remove (AsapQueues.join _ (((State.unlink _ d).desc c).priority.getD 0) c) _ = _
    rw [hc]
    rfl
  · exact congrArg Schedule.counter (State.sched_vacate ..)
  · exact State.disp_vacate ..
  · exact congrArg (fun m : Memory => m.read a) line.pool
  · exact ⟨line.inReset, line.lsense, line.clock, fun _ => rfl, fun _ => rfl, rfl, rfl, line.enc, line.echo, line.prof,
      line.pending⟩

/-- R62: the released successor is live, so no session completes with its predecessor. -/
theorem State.port_released {s : State} {p : Port} {d c : DescIdx} {cs : List DescIdx} (h : s.ChainFrom p d (c :: cs))
    (o : FrameOutcome) (stop : Time) (q : Port) :
    (((((s.announce d o stop).unlink d).release c stop).vacate d).conclude (some p) none).port q =
      if q = p then (s.port p).withEntries [frameDone (s.desc d) o stop] else s.port q := by
  have hcd : c ≠ d := fun e => (List.nodup_cons.1 h.nodup).1 (e ▸ List.mem_cons_self)
  obtain ⟨-, -, held, -, rest⟩ := id h
  have live : 0 < ((((s.announce d o stop).unlink d).release c stop).vacate d).liveCount p := by
    refine State.liveCount_pos (d := c) ?_
    rw [State.desc_vacate, if_neg hcd, State.desc_release, if_pos rfl, h.desc_announced o stop List.mem_cons_self]
    exact (Desc.ownedBy_iff _ p).2 ⟨rfl, (((s.desc c).ownedBy_iff p).1 rest.owned).2⟩
  obtain ⟨-, others, own⟩ := ((((s.announce d o stop).unlink d).release c stop).vacate d).conclude_spec p none
  rw [if_neg nofun, PortState.afterRetirements_of_pos _ live] at own
  have before (q : Port) := (State.vacate_port (((s.announce d o stop).unlink d).release c stop) d q).trans <|
    (State.release_port ..).trans <| (State.unlink_port ..).trans <|
      congrArg (State.port · q) (State.announce_of_owned h.owned o stop)
  split
  · next hq => rw [hq, own, before, State.port_place, if_pos rfl]
  · next hq => rw [others q hq, before, State.port_place, if_neg hq]

theorem State.announced_now (s : State) (d : DescIdx) (o : FrameOutcome) (stop : Time) :
    ((s.announce d o stop).unlink d).now = s.clock.time := by
  obtain ⟨ps, hps⟩ := s.announce_ports d o stop
  rw [hps]
  rfl

/-- R34 for a descriptor of p's. -/
theorem State.retireNow_of_owned {s : State} {p : Port} {d : DescIdx} (own : (s.desc d).ownedBy p = true)
    (o : FrameOutcome) (stop : Time) (defer : Option Port) : s.retireNow d o stop defer =
      ((State.followChain 48 d o stop defer ((s.announce d o stop).unlink d)).vacate d).conclude (some p) defer := by
  have live := ((s.desc d).ownedBy_iff p).1 own
  rw [← live.2]
  exact s.retire_succ 48 d o stop defer live.1

/-- R61, R62: the head of a chain that is sent, its successor not too late. -/
theorem State.retireNow_release {s : State} {p : Port} {d c : DescIdx} {cs : List DescIdx} (h : s.ChainFrom p d (c :: cs))
    {o : FrameOutcome} (ho : o.releases = true) (stop : Time) (hopen : (s.desc c).expiry.open_ s.clock.time = true) :
    s.retireNow d o stop none =
      ((((s.announce d o stop).unlink d).release c stop).vacate d).conclude (some p) none := by
  obtain ⟨-, succ, held, -, -⟩ := id h
  have follows : State.followChain 48 d o stop none ((s.announce d o stop).unlink d) =
      ((s.announce d o stop).unlink d).release c stop := by
    rw [State.followChain, h.successor_announced, succ]
    simp only [h.desc_announced o stop List.mem_cons_self, held, ho, s.announced_now, hopen, if_true]
  rw [State.retireNow_of_owned h.owned, follows]

/-- R62 step 1: the record of a successor as it expires behind its predecessor's end. -/
def Desc.overdue (x : Desc) (stop : Time) : Desc := { x with notBefore := some (plus stop (x.offset.getD 0)) }

section
variable {s : State} {p : Port} {c : DescIdx} {cs : List DescIdx}

/-- R62 step 1: a chain whose first frame is overdue. -/
theorem State.ChainFrom.overdue (h : s.ChainFrom p c cs) (stop : Time) :
    (s.modDesc c (·.overdue stop)).ChainFrom p c cs := by
  refine h.congr (fun x _ => ?_) (fun x _ => ?_) fun x _ => ?_ <;> rw [State.desc_modDesc] <;> split
  · next hxc => rw [hxc]; exact id
  · exact id
  · next hxc => rw [hxc]; rfl
  · rfl
  · next hxc => rw [hxc]; rfl
  · rfl

/-- R35: an entry does not show the start given to an overdue frame. -/
theorem State.ChainFrom.chainEntries_overdue (h : s.ChainFrom p c cs) (o next : FrameOutcome) (stop : Time) :
    (s.modDesc c (·.overdue stop)).chainEntries c cs o next stop = s.chainEntries c cs o next stop := by
  refine congrArg₂ List.cons ?_ (List.map_congr_left fun x hx => ?_)
  · rw [State.desc_modDesc, if_pos rfl]
    rfl
  · have hxc : x ≠ c := fun e => (List.nodup_cons.1 h.nodup).1 (e ▸ hx)
    rw [State.desc_modDesc, if_neg hxc]

end

/-- R61, R62, R63: the head of a chain that is sent, its successor too late. -/
theorem State.retireNow_expire {s : State} {p : Port} {d c : DescIdx} {cs : List DescIdx} (h : s.ChainFrom p d (c :: cs))
    {o : FrameOutcome} (ho : o.releases = true) (stop : Time) (hopen : (s.desc c).expiry.open_ s.clock.time = false) :
    s.RetiresWith (s.retireNow d o stop none) p (d :: c :: cs)
      (frameDone (s.desc d) o stop :: s.chainEntries c cs (.expired .window) .chainBroken stop) none := by
  obtain ⟨-, succ, held, hd, -⟩ := id h
  have follows : State.followChain 48 d o stop none ((s.announce d o stop).unlink d) =
      State.retire 48 c (.expired .window) stop none (((s.announce d o stop).unlink d).modDesc c (·.overdue stop)) := by
    rw [State.followChain, h.successor_announced, succ]
    simp only [h.desc_announced o stop List.mem_cons_self, held, ho, s.announced_now, hopen, if_true,
      Bool.false_eq_true, if_false]
    rfl
  have rest := h.tail_announced o stop
  have inner := State.retire_chain (rest.overdue stop) (o := .expired .window) rfl stop none rest.length_lt
  rw [rest.chainEntries_overdue] at inner
  rw [State.retireNow_of_owned h.owned, follows, ← h.chainEntries_announced o stop]
  have done := State.RetiresWith.cons h.owned hd (State.RetiresWith.of_modDesc rfl inner) none
  rw [(((s.desc d).ownedBy_iff p).1 h.owned).2] at done
  exact done

/-- Settles O16: the chain that the successor heads is left standing, or retires whole. -/
theorem sentReleasesSuccessor : Obligations.SentReleasesSuccessor := by
  intro s p d c cs o stop ho h t
  cases hopen : (s.desc c).expiry.open_ s.clock.time with
  | true =>
    have port (q : Port) : t.port q = _ := (congrArg (State.port · q) (State.retireNow_release h ho stop hopen)).trans
      (State.port_released h o stop q)
    obtain ⟨ps, hps⟩ := ((((s.announce d o stop).unlink d).release c stop).vacate d).conclude_ports (some p) none
    have released : s.Released t d c stop := by
      show s.Released (s.retireNow d o stop none) d c stop
      rw [State.retireNow_release h ho stop hopen, hps]
      exact State.released_vacate h o stop ps
    obtain ⟨-, succ, held, hd, rest⟩ := id h
    have desc {x : DescIdx} (hx : x ∈ cs) : t.desc x = s.desc x := by
      have hxc : x ≠ c := fun e => (List.nodup_cons.1 rest.nodup).1 (e ▸ hx)
      have hxd : x ≠ d := fun e => hd (e ▸ List.mem_cons_of_mem _ hx)
      rw [released.others x hxd hxc, Desc.unlinked_cons, Desc.unlinked_nil, if_neg]
      exact fun e => hd (List.mem_cons_of_mem _ (rest.successor_mem (List.mem_cons_of_mem _ hx) e))
    refine ⟨fun q hq => by rw [port, if_neg hq], fun _ => ⟨released, by rw [port, if_pos rfl], ?_⟩, nofun⟩
    refine rest.congr (fun x hx => ?_) (fun x hx => ?_) fun x hx => by rw [desc hx]
    · rcases List.mem_cons.1 hx with rfl | hx
      · rw [released.released]
        exact fun own => (Desc.ownedBy_iff _ p).2 ⟨rfl, (((s.desc x).ownedBy_iff p).1 own).2⟩
      · rw [desc hx]
        exact id
    · rcases List.mem_cons.1 hx with rfl | hx
      · rw [released.released]
      · rw [desc hx]
  | false =>
    obtain ⟨retired, others, count, port⟩ := State.retireNow_expire h ho stop hopen
    have left : t.liveCount p = s.liveCount p - (cs.length + 2) := by
      simp only [List.length_cons] at count
      exact Nat.eq_sub_of_add_eq count
    refine ⟨others, nofun, fun _ => ⟨retired, ?_⟩⟩
    rw [port, if_neg nofun, ← left]

/-! ### CANCEL off the line -/

/-- R34 step 7: what a command's retirements leave when its own entry and then the completion follow. -/
theorem State.RetiresWith.replied {s t : State} {p : Port} {ds : List DescIdx} {es : List Entry}
    (h : s.RetiresWith t p ds es (some p)) (e : Entry) :
    s.Retired ((t.place p e).complete p) ds ∧ s.SameOthers ((t.place p e).complete p) p ∧
      ((t.place p e).complete p).port p =
        ((s.port p).withEntries (es ++ [e])).afterRetirements (s.liveCount p - ds.length) := by
  have count : (t.place p e).liveCount p = s.liveCount p - ds.length := Nat.eq_sub_of_add_eq h.count
  refine ⟨?_, fun q hq => ?_, ?_⟩
  · rcases (t.place p e).complete_cases p with ⟨-, eq⟩ | ⟨-, -, eq⟩ <;> rw [eq]
    · exact h.retired.ports s.ports _
    · exact h.retired.ports s.ports _
  · rw [(t.place p e).port_complete_other hq, State.port_place, if_neg hq, h.others q hq]
  · rw [(t.place p e).port_complete, count, State.port_place, if_pos rfl, h.port, if_pos rfl, PortState.withEntries_append]

/-- R34, R60: with a line that is not IDLE nothing is decided after retirements. -/
theorem State.Retired.noDecision {s u : State} {ds : List DescIdx} (h : s.Retired u ds) : s.NoDecision u := by
  intro hline
  refine u.startDecision_of_not_idle ?_
  rw [h.slot]
  split <;> exact hline

section
variable {s : State} (p : Port) (code tag : Byte) (fields : List Byte)

theorem State.desc_taken (d : DescIdx) : (s.taken p code tag fields).desc d = s.desc d := by
  rw [State.taken_eq]
  rfl

/-- R21: a taken request finds the names as they are. -/
theorem State.findTag_taken (q : Port) (ftag : Byte) : (s.taken p code tag fields).findTag q ftag = s.findTag q ftag := by
  rw [State.taken_eq]
  rfl

/-- R47: a taken request finds the chains as they are. -/
theorem State.chainFrom_taken {q : Port} {d : DescIdx} {cs : List DescIdx} (h : s.ChainFrom q d cs) :
    (s.taken p code tag fields).ChainFrom q d cs :=
  h.congr (fun x _ => by rw [State.desc_taken]; exact id) (fun x _ => by rw [State.desc_taken])
    fun x _ => by rw [State.desc_taken]

/-- R34: retirements by the command of a taken request are retirements by the request. -/
theorem State.retired_of_taken {u : State} {ds : List DescIdx} (h : (s.taken p code tag fields).Retired u ds) :
    s.Retired u ds := by
  rw [State.taken_eq] at h
  exact h.ports s.ports u.ports

theorem State.noSession_taken : (s.taken p code tag fields).noSession p = true ↔ ¬ s.InSession p := by
  rw [State.inSession_iff, ← State.hasSession_taken s p code tag fields]
  simp [State.noSession]

end

/-- R158: completion does not look at the link. -/
theorem PortState.afterRetirements_link (q : PortState) (l : Link) (n : Nat) :
    PortState.afterRetirements { q with link := l } n = { q.afterRetirements n with link := l } := by
  by_cases hc : q.session.state = .closing ∧ n = 0
  · simp [PortState.afterRetirements, hc, PortState.completed, PortState.withEntries]
  · simp [PortState.afterRetirements, hc]

theorem PortState.link_afterRetirements (q : PortState) (n : Nat) : (q.afterRetirements n).link = q.link := by
  unfold PortState.afterRetirements
  split <;> rfl

/-- R67: the record of the port after a command whose retirements, entry and completion are done. -/
theorem State.agrees_taken_replied (s : State) (p : Port) (code tag : Byte) (fields : List Byte) (es : List Entry) (n : Nat)
    (h : s.Takes p fields) :
    ((((s.taken p code tag fields).port p).withEntries es).afterRetirements n).Agrees
      (((s.port p).renewed.withEntries es).afterRetirements n) := by
  rw [State.taken_eq, State.port_modPort, if_pos rfl]
  have link := PortState.afterRetirements_link ((s.port p).renewed.withEntries es) (s.sentLink p code tag fields) n
  refine Eq.mpr (congrArg (PortState.Agrees · _) link) ?_
  exact s.agrees_sentLink p code tag fields h (PortState.link_afterRetirements _ n)

/-- R67: CANCEL of a chain off the line, as a taken request finds it. -/
theorem State.cancelWaiting_taken {s : State} {p : Port} (tag ftag : Byte) {d : DescIdx} {cs : List DescIdx}
    (h : s.Takes p [ftag]) (named : (s.desc d).tag = ftag) (chain : s.ChainFrom p d cs) :
    ∃ u, (s.taken p Config.codeCancel tag [ftag]).cancelWaiting p tag d =
        (if u.sched.timed.length < s.sched.timed.length then u.startDecision else u) ∧
      s.Retired u (d :: cs) ∧ s.SameOthers u p ∧
      (u.port p).Agrees (((s.port p).renewed.withEntries (s.chainEntries d cs .cancelled .chainBroken s.clock.time ++
        [.reply 0x31 tag .cancelled (.cancelled ftag)])).afterRetirements (s.liveCount p - (cs.length + 1))) := by
  obtain ⟨hclock, -, -, hstore⟩ := s.taken_part p Config.codeCancel tag [ftag]
  have chain' := State.chainFrom_taken p Config.codeCancel tag [ftag] chain
  obtain ⟨retired, others, port⟩ := (State.retireNow_chain chain' (o := .cancelled) rfl s.clock.time (some p)).replied
    (.reply 0x31 tag .cancelled (.cancelled ftag))
  have count : (s.taken p Config.codeCancel tag [ftag]).liveCount p = s.liveCount p := by
    rw [State.liveCount, hstore, State.liveCount]
  have sched : (s.taken p Config.codeCancel tag [ftag]).sched = s.sched := by
    rw [State.taken_eq]
    rfl
  have entries : (s.taken p Config.codeCancel tag [ftag]).chainEntries d cs .cancelled .chainBroken s.clock.time =
      s.chainEntries d cs .cancelled .chainBroken s.clock.time := by
    simp only [State.chainEntries, State.desc_taken]
  refine ⟨_, ?_, ?_, fun q hq => (others q hq).trans ?_, ?_⟩
  · rw [State.cancelWaiting, State.decideIfLeft, State.now, hclock, State.desc_taken, named, sched]
    rfl
  · exact State.retired_of_taken p Config.codeCancel tag [ftag] retired
  · rw [State.taken_eq, State.port_modPort, if_neg hq]
  · rw [port, count]
    rw [FrameOutcome.passOn, entries]
    exact s.agrees_taken_replied p Config.codeCancel tag [ftag] _ _ h

/-- R66: CANCEL's field is one byte. -/
theorem readCancel_eq_none {fields : List Byte} (h : fields.length ≠ 1) : readCancel fields = none := by
  match fields, h with
  | [], _ => rfl
  | [_], h => exact absurd rfl h
  | _ :: _ :: _, _ => rfl

/-- Settles O17: the checks in their order, and the retirement of the chain that the tag names. -/
theorem cancelWithdraws : Obligations.CancelWithdraws := by
  intro p tag fields s h
  refine ⟨fun hno => ?_, fun hin => ?_⟩
  · have no := (State.noSession_taken p Config.codeCancel tag fields).2 hno
    exact s.replies_of_reply _ p Config.codeCancel tag fields _ _ _ h rfl (by rw [State.doCancel, if_pos no])
  · have yes := mt (State.noSession_taken p Config.codeCancel tag fields).1 (not_not_intro hin)
    refine ⟨fun hlen => ?_, fun ftag hf => ?_⟩
    · exact s.replies_of_reply _ p Config.codeCancel tag fields _ _ _ h rfl (by
        rw [State.doCancel, if_neg yes, readCancel_eq_none hlen])
    · subst hf
      refine ⟨fun none => ?_, fun d cs names off chain => ?_⟩
      · exact s.replies_of_reply _ p Config.codeCancel tag [ftag] _ _ _ h rfl (by
          simp only [State.doCancel, if_neg yes, readCancel, State.findTag_taken, (s.findTag_eq_none_iff p ftag).2 none])
      · obtain ⟨u, eq, retired, others, port⟩ := State.cancelWaiting_taken tag ftag h names.2.1 chain
        refine ⟨u, ?_, retired, others, retired.noDecision, port⟩
        refine congrArg Host.Outcome.next ((s.request_taken p Config.codeCancel tag [ftag] _ h).trans (Eq.trans ?_ eq))
        simp only [State.doCancel, if_neg yes, readCancel, State.findTag_taken, names.findTag, State.desc_taken, off,
          if_false]

end Sys2Proof.Machine

end

section
/-! LINK_RESET ends its port's standing (O50). -/

namespace Sys2Proof.Machine

/-- R183: the link of p when the confirm byte of a LINK_RESET has completed. -/
def State.resetLinkOf (s : State) (p : Port) : Link :=
  let l := (s.port p).link
  (if l.state = .kind ∨ l.state = .confirm then l else l.rise.fall (s.summary p)).confirmRead

/-- R183: the bytes of a LINK_RESET change the link they come on. -/
theorem State.resetBytes_eq (s : State) (p : Port) :
    (s.begunReset p).modLink p Link.confirmRead = s.modPort p fun q => { q with link := s.resetLinkOf p } := by
  rw [State.begunReset, State.begun_cases, State.modLink_modLink]
  refine congrArg (fun ps => { s with ports := ps }) (Ports.ext_get fun q => ?_)
  by_cases hq : q = p
  · subst hq
    simp only [Ports.get_modify, if_true, State.resetLinkOf, decide_eq_true_eq]
    rfl
  · simp [hq]

/-- R176, R183: a LINK_RESET in a transaction of its own sends the summary. -/
theorem State.resetLinkOf_settled (s : State) (p : Port) (h : (s.port p).link.Settled) :
    (s.resetLinkOf p).miso = s.summary p ∧ (s.resetLinkOf p).out = [] ∧ (s.resetLinkOf p).pad = 0 := by
  have own : ¬ ((s.port p).link.state = .kind ∨ (s.port p).link.state = .confirm) := by
    rcases h with h | h | h <;> simp [h]
  rw [State.resetLinkOf]
  simp only [own, if_false, Link.rise_settled h.apart]
  exact ⟨rfl, rfl, rfl⟩

/-- R184: the effects of a LINK_RESET, its bytes first. -/
def State.linkReset (s : State) (p : Port) : State :=
  State.resetLink (s.modPort p fun q => { q with link := s.resetLinkOf p }) p

section
variable (s : State) (p : Port)

theorem execLinkReset_running (h : s.inReset = false) :
    execLinkReset p s = .next ((s.linkReset p).decideIfLeft s) := by
  rw [execLinkReset, if_neg (by simp [h]), State.resetBytes_eq, State.linkReset]

/-- R184: which parts a LINK_RESET reaches. -/
theorem State.linkReset_eq : s.linkReset p =
    { s with
      prof := s.profReleased p
      store := { s.store with descs := s.store.descs.map (Desc.afterReset p) }
      sched := (s.keepScheduled fun d => !(s.desc d).ownedBy p).sched
      ports := (s.linkReset p).ports } := by
  rw [State.linkReset, State.resetLink, State.releaseClaim_eq]
  rfl

theorem State.desc_linkReset (d : DescIdx) : (s.linkReset p).desc d = (s.desc d).afterReset p := by
  rw [State.linkReset_eq]
  exact Vector.getElem_map ..

theorem State.port_linkReset (q : Port) : (s.linkReset p).port q =
    if q = p then { s.port p with link := s.resetLinkOf p }.afterReset else s.port q := by
  rw [State.linkReset, State.resetLink, State.releaseClaim_eq, State.port_modPort]
  show (if q = p then PortState.afterReset ((s.modPort p _).port p) else (s.modPort p _).port q) = _
  rw [State.port_modPort, State.port_modPort, if_pos rfl]
  split <;> rfl

/-- R38, R39: nothing is p's after its LINK_RESET. -/
theorem Desc.afterReset_ownedBy (x : Desc) : (x.afterReset p).ownedBy p = false := by
  unfold Desc.afterReset
  split
  · split <;> simp [Desc.ownedBy, Desc.blank]
  · next h => simpa using h

theorem State.liveCount_linkReset : (s.linkReset p).liveCount p = 0 := by
  rw [State.liveCount_eq]
  exact Finset.sum_eq_zero fun d _ => by rw [State.desc_linkReset, Desc.afterReset_ownedBy]; rfl

end

/-- Settles O50: the effects of R184 part by part. -/
theorem linkResetClearsPort : Obligations.LinkResetClearsPort := by
  intro p s hrun
  have desc := s.desc_linkReset p
  have port := s.port_linkReset p
  have live := s.liveCount_linkReset p
  have parts := s.linkReset_eq p
  have own : (s.linkReset p).port p = { s.port p with link := s.resetLinkOf p }.afterReset := by rw [port, if_pos rfl]
  refine ⟨s.linkReset p, execLinkReset_running s p hrun, ?_, ?_, fun d hd off => ?_, fun d hd on => ?_, fun d hd => ?_,
    fun a => ?_, ?_, ?_, ?_, ?_, fun q hq => ?_, live, ?_, ?_, ?_, ?_⟩
  · intro hline
    refine State.startDecision_of_not_idle _ ?_
    rw [parts]
    exact hline
  · rw [parts]
  · rw [desc, Desc.afterReset, if_pos hd, if_neg off]
  · rw [desc, Desc.afterReset, if_pos hd, if_pos on]
  · rw [desc, Desc.afterReset, if_neg (by simp [hd])]
  · rw [parts]
  · rw [parts]
    rfl
  · rw [parts]
    rfl
  · rw [parts]
    rfl
  · rw [parts]
    exact ⟨rfl, rfl, rfl, fun _ => rfl, fun _ => rfl, rfl, rfl, rfl, rfl, rfl, rfl⟩
  · rw [port, if_neg hq]
  · rw [State.reserved, live, State.hasSession, own]
    rfl
  · rw [State.used, own]
    rfl
  · rw [State.attention, own]
    simp [PortState.afterReset]
  · rw [own]
    exact ⟨rfl, rfl, rfl, rfl, rfl, rfl, rfl, rfl, rfl, s.resetLinkOf_settled p⟩

end Sys2Proof.Machine

end

section
/-! Byte layouts: the fields of LOAD_BEGIN, SUBMIT and STAGE, entries, and the CRC-8 (O60). -/

namespace Sys2Proof.Machine

/-! ### Bytes and values -/

@[simp] theorem byteOf_toNat (b : Byte) : byteOf b.toNat = b := by simp [byteOf]

@[simp] theorem toNat_byteOf (n : Nat) : (byteOf n).toNat = n % 256 := BitVec.toNat_ofNat n 8

@[simp] theorem natOfBytes_pair (a b : Byte) : natOfBytes [a, b] = a.toNat * 256 + b.toNat := by
  simp [natOfBytes]

theorem natOfBytes_be16 {n : Nat} (h : n ≤ 65535) : natOfBytes (be16 n) = n := by
  rw [be16, natOfBytes_pair, toNat_byteOf, toNat_byteOf]
  omega

theorem be16_natOfBytes (a b : Byte) : be16 (natOfBytes [a, b]) = [a, b] := by
  have ha : byteOf ((a.toNat * 256 + b.toNat) / 256) = a := by
    rw [Nat.mul_comm, Nat.mul_add_div (by decide), Nat.div_eq_of_lt b.isLt, Nat.add_zero, byteOf_toNat]
  have hb : byteOf (a.toNat * 256 + b.toNat) = b := BitVec.eq_of_toNat_eq (by rw [toNat_byteOf]; omega)
  rw [natOfBytes_pair, be16, ha, hb]

theorem natOfBytes_lt (a b : Byte) : natOfBytes [a, b] ≤ 65535 := by
  rw [natOfBytes_pair]
  omega

theorem timeOfBytes_timeBytes (t : Time) : timeOfBytes (timeBytes t) = t :=
  Option.some.inj (readSetTime_timeBytes t)

theorem timeBytes_timeOfBytes {bs : List Byte} (h : bs.length = 4) : timeBytes (timeOfBytes bs) = bs := by
  match bs, h with
  | [a, b, c, d], _ =>
    have value : (timeOfBytes [a, b, c, d]).toNat =
        ((a.toNat * 256 + b.toNat) * 256 + c.toNat) * 256 + d.toNat := by
      simp only [timeOfBytes, natOfBytes, List.foldl, BitVec.toNat_ofNat]
      omega
    simp only [timeBytes, be32, value]
    refine congrArg₂ List.cons ?_ (congrArg₂ List.cons ?_ (congrArg₂ List.cons ?_ (congrArg (· :: []) ?_))) <;>
      exact BitVec.eq_of_toNat_eq (by rw [toNat_byteOf]; omega)

/-! ### LOAD_BEGIN -/

theorem frameClassOf_code (c : FrameClass) : frameClassOf c.code.toNat = some c := by cases c <;> rfl
theorem codingOf_code (c : Coding) : codingOf c.code.toNat = some c := by cases c <;> rfl
theorem carrierOf_code (c : Carrier) : carrierOf c.code.toNat = some c := by cases c <;> rfl

theorem eq_code_of_frameClassOf {b : Byte} {c : FrameClass} (h : frameClassOf b.toNat = some c) : b = c.code := by
  refine BitVec.eq_of_toNat_eq ?_
  unfold frameClassOf at h
  split at h <;> cases h <;> assumption

theorem eq_code_of_codingOf {b : Byte} {c : Coding} (h : codingOf b.toNat = some c) : b = c.code := by
  refine BitVec.eq_of_toNat_eq ?_
  unfold codingOf at h
  split at h <;> cases h <;> assumption

theorem eq_code_of_carrierOf {b : Byte} {c : Carrier} (h : carrierOf b.toNat = some c) : b = c.code := by
  refine BitVec.eq_of_toNat_eq ?_
  unfold carrierOf at h
  split at h <;> cases h <;> assumption

/-- R22: the two action bits of a shape. -/
theorem actions_spec (a b : Bool) : (bitAt 0 a ||| bitAt 1 b).getLsbD 0 = a ∧ (bitAt 0 a ||| bitAt 1 b).getLsbD 1 = b ∧
    (bitAt 0 a ||| bitAt 1 b).toNat < 4 := by
  cases a <;> cases b <;> decide

theorem eq_actions {b : Byte} (h : b.toNat < 4) : b = bitAt 0 (b.getLsbD 0) ||| bitAt 1 (b.getLsbD 1) := by
  obtain ⟨n, hn, rfl⟩ : ∃ n < 4, b = BitVec.ofNat 8 n := ⟨b.toNat, h, (byteOf_toNat b).symm⟩
  interval_cases n <;> decide

/-- R23: a shape's ranges. -/
theorem Shape.inRange_iff (x : Shape) : x.inRange = true ↔
    (1 ≤ x.bodyBits ∧ x.bodyBits ≤ 1024) ∧ x.preBits ≤ 63 ∧ (1 ≤ x.reps ∧ x.reps ≤ 16) ∧ x.gap ≤ 65535 ∧
      x.priority ≤ 3 ∧ (x.cls ≠ .timed ∨ x.priority = 0) := by
  simp [Shape.inRange, and_assoc]

/-- R22, R23: the fields of a shape in range are read back. -/
theorem readShape_bytes {x : Shape} (h : x.inRange = true) : readShape x.bytes = some x := by
  obtain ⟨⟨-, body⟩, pre, ⟨-, reps⟩, gap, priority, -⟩ := x.inRange_iff.1 h
  obtain ⟨start, stop, acts⟩ := actions_spec x.strobeStart x.strobeEnd
  have hbody := natOfBytes_be16 (body.trans (by decide))
  have hgap := natOfBytes_be16 gap
  have byte {n : Nat} (hn : n ≤ 255) : (byteOf n).toNat = n := by
    rw [toNat_byteOf]
    omega
  simp only [be16] at hbody hgap
  simp only [Shape.bytes, be16, List.cons_append, List.nil_append, readShape, frameClassOf_code, codingOf_code,
    carrierOf_code, hbody, hgap, byte (pre.trans (by decide)), byte (reps.trans (by decide)),
    byte (priority.trans (by decide)), start, stop, acts, h, decide_true, Bool.and_self, if_true]

/-- R22, R23: what is read as a shape is that shape's fields. -/
theorem eq_bytes_of_readShape {bs : List Byte} {x : Shape} (h : readShape bs = some x) : bs = x.bytes := by
  unfold readShape at h
  split at h
  case h_2 => cases h
  case h_1 tag cls l1 l0 pre cod car reps g1 g0 pri acts =>
    split at h
    case h_2 => cases h
    case h_1 c k r hc hk hr =>
      dsimp only at h
      split at h
      case isFalse => cases h
      case isTrue ok =>
        have hacts := eq_actions (of_decide_eq_true (Bool.and_eq_true_iff.1 ok).2)
        cases h
        simp only [Shape.bytes, be16_natOfBytes, byteOf_toNat, ← eq_code_of_frameClassOf hc, ← eq_code_of_codingOf hk,
          ← eq_code_of_carrierOf hr, ← hacts, List.cons_append, List.nil_append]

/-! ### SUBMIT -/

/-- R48: the bytes of an item that is there or not are taken off the front. -/
theorem item_elim {α : Type} (o : Option α) (enc : α → List Byte) {n : Nat} (hn : ∀ v, o = some v → (enc v).length = n)
    (rest : List Byte) : item o.isSome n (o.elim [] enc ++ rest) = some (o.map enc, rest) := by
  cases o with
  | none => rfl
  | some v => simp [item, ← hn v rfl]

/-- R48: what an item takes off the front. -/
theorem item_eq_some {p : Bool} {n : Nat} {bs rest : List Byte} {o : Option (List Byte)}
    (h : item p n bs = some (o, rest)) : o.isSome = p ∧ (∀ v, o = some v → v.length = n) ∧ bs = o.getD [] ++ rest := by
  cases p with
  | false =>
    cases h
    exact ⟨rfl, nofun, rfl⟩
  | true =>
    by_cases hn : n ≤ bs.length
    · simp only [item, if_true, hn, Option.some.injEq, Prod.mk.injEq] at h
      obtain ⟨rfl, rfl⟩ := h
      refine ⟨rfl, fun v hv => ?_, (List.take_append_drop n bs).symm⟩
      cases hv
      exact List.length_take_of_le hn
    · simp [item, hn] at h

/-- R48: an item of a fixed length that is read into a value is written from it. -/
theorem elim_map_of_length {α : Type} {o : Option (List Byte)} {n : Nat} {dec : List Byte → α} {enc : α → List Byte}
    (inv : ∀ v, v.length = n → enc (dec v) = v) (h : ∀ v, o = some v → v.length = n) :
    (o.map dec).elim [] enc = o.getD [] := by
  cases o with
  | none => rfl
  | some v => exact inv v (h v rfl)

/-- R48: the presence set. -/
theorem presence_spec (a b c d e f : Bool) :
    let set := bitAt 0 a ||| bitAt 1 b ||| bitAt 2 c ||| bitAt 3 d ||| bitAt 4 e ||| bitAt 5 f
    set.getLsbD 0 = a ∧ set.getLsbD 1 = b ∧ set.getLsbD 2 = c ∧ set.getLsbD 3 = d ∧ set.getLsbD 4 = e ∧
      set.getLsbD 5 = f ∧ set.getLsbD 6 = false ∧ set.getLsbD 7 = false := by
  revert a b c d e f
  decide

theorem bitAt_getLsbD {i : Nat} (hi : i < 8) (set : Bool) (j : Nat) :
    (bitAt i set).getLsbD j = (decide (j = i) && set) := by
  cases set with
  | false => simp [bitAt]
  | true =>
    simp only [bitAt, if_true, byteOf, BitVec.getLsbD_ofNat, Nat.testBit_two_pow, Bool.and_true]
    by_cases h : j = i
    · simp [h, hi]
    · simp [h, Ne.symm h]

theorem eq_presence {b : Byte} (h6 : b.getLsbD 6 = false) (h7 : b.getLsbD 7 = false) :
    bitAt 0 (b.getLsbD 0) ||| bitAt 1 (b.getLsbD 1) ||| bitAt 2 (b.getLsbD 2) ||| bitAt 3 (b.getLsbD 3) |||
      bitAt 4 (b.getLsbD 4) ||| bitAt 5 (b.getLsbD 5) = b := by
  rw [BitVec.getLsbD_eq_getElem (by decide)] at h6 h7
  refine BitVec.eq_of_getLsbD_eq fun i hi => ?_
  simp only [BitVec.getLsbD_or, bitAt_getLsbD, Nat.reduceLT]
  interval_cases i <;> simp [h6, h7]

/-- R48: a SUBMIT's fields are read back. -/
theorem readTiming_bytes {x : Timing} (h : x.inRange) : readTiming x.bytes = some x := by
  obtain ⟨hslip, hoffset⟩ := h
  have times (o : Option Time) : (o.map timeBytes).map timeOfBytes = o := by
    cases o with
    | none => rfl
    | some t => exact congrArg some (timeOfBytes_timeBytes t)
  have counts {o : Option Nat} (ho : ∀ v, o = some v → v ≤ 65535) : (o.map be16).map natOfBytes = o := by
    cases o with
    | none => rfl
    | some v => exact congrArg some (natOfBytes_be16 (ho v rfl))
  have pred (o : Option Byte) : (o.map fun b => [b]).bind List.head? = o := by cases o <;> rfl
  obtain ⟨p0, p1, p2, p3, p4, p5, p6, p7⟩ := presence_spec x.start.isSome x.slip.isSome x.notBefore.isSome
    x.expiry.isSome x.pred.isSome x.offset.isSome
  have last := item_elim x.offset be16 (n := 2) (fun _ _ => rfl) []
  rw [List.append_nil] at last
  simp only [Timing.bytes, List.cons_append, List.nil_append, List.append_assoc, readTiming, p0, p1, p2, p3, p4, p5, p6, p7,
    Bool.or_self, Bool.false_eq_true, if_false, Option.bind_eq_bind, Option.bind_some, if_true, last,
    item_elim x.start timeBytes (n := 4) (fun _ _ => rfl), item_elim x.slip be16 (n := 2) (fun _ _ => rfl),
    item_elim x.notBefore timeBytes (n := 4) (fun _ _ => rfl), item_elim x.expiry timeBytes (n := 4) (fun _ _ => rfl),
    item_elim x.pred (fun b => [b]) (n := 1) (fun _ _ => rfl), times, counts hslip, counts hoffset, pred]

/-- R48: what is read as a SUBMIT's fields is those fields' bytes. -/
theorem eq_bytes_of_readTiming {bs : List Byte} {x : Timing} (h : readTiming bs = some x) : x.inRange ∧ bs = x.bytes := by
  unfold readTiming at h
  split at h
  case h_2 => cases h
  case h_1 tag set rest =>
    split at h
    case isTrue => cases h
    case isFalse high =>
      obtain ⟨h6, h7⟩ : set.getLsbD 6 = false ∧ set.getLsbD 7 = false := by simpa using high
      obtain ⟨⟨start, r1⟩, i1, h⟩ := Option.bind_eq_some_iff.1 h
      obtain ⟨⟨slip, r2⟩, i2, h⟩ := Option.bind_eq_some_iff.1 h
      obtain ⟨⟨nb, r3⟩, i3, h⟩ := Option.bind_eq_some_iff.1 h
      obtain ⟨⟨exp, r4⟩, i4, h⟩ := Option.bind_eq_some_iff.1 h
      obtain ⟨⟨pred, r5⟩, i5, h⟩ := Option.bind_eq_some_iff.1 h
      obtain ⟨⟨off, r6⟩, i6, h⟩ := Option.bind_eq_some_iff.1 h
      dsimp only at h
      split at h
      case isFalse => cases h
      case isTrue hr =>
        cases h
        obtain ⟨s1, l1, e1⟩ := item_eq_some i1
        obtain ⟨s2, l2, e2⟩ := item_eq_some i2
        obtain ⟨s3, l3, e3⟩ := item_eq_some i3
        obtain ⟨s4, l4, e4⟩ := item_eq_some i4
        obtain ⟨s5, l5, e5⟩ := item_eq_some i5
        obtain ⟨s6, l6, e6⟩ := item_eq_some i6
        have pair (v : List Byte) (hv : v.length = 2) : be16 (natOfBytes v) = v ∧ natOfBytes v ≤ 65535 := by
          match v, hv with
          | [a, b], _ => exact ⟨be16_natOfBytes a b, natOfBytes_lt a b⟩
        have bound {o : Option (List Byte)} (l : ∀ v, o = some v → v.length = 2) (n : Nat)
            (hn : o.map natOfBytes = some n) : n ≤ 65535 := by
          obtain ⟨v, hv, rfl⟩ := Option.map_eq_some_iff.1 hn
          exact (pair v (l v hv)).2
        have predBytes : (pred.bind List.head?).elim [] (fun b => [b]) = pred.getD [] ∧
            (pred.bind List.head?).isSome = pred.isSome := by
          cases pred with
          | none => exact ⟨rfl, rfl⟩
          | some v => match v, l5 v rfl with
            | [b], _ => exact ⟨rfl, rfl⟩
        refine ⟨⟨bound l2, bound l6⟩, ?_⟩
        simp only [Timing.bytes, Option.isSome_map, predBytes, s1, s2, s3, s4, s5, s6, eq_presence h6 h7,
          elim_map_of_length (fun _ => timeBytes_timeOfBytes) l1, elim_map_of_length (fun _ => timeBytes_timeOfBytes) l3,
          elim_map_of_length (fun _ => timeBytes_timeOfBytes) l4, elim_map_of_length (fun v hv => (pair v hv).1) l2,
          elim_map_of_length (fun v hv => (pair v hv).1) l6]
        simp only [e1, e2, e3, e4, e5, e6, hr, List.cons_append, List.nil_append, List.append_assoc, List.append_nil]

/-! ### STAGE -/

/-- R186: the bytes of a named profile field. -/
def fieldBytes (c : ProfileField × Nat) : List Byte := if c.1.size = 2 then be16 c.2 else [byteOf c.2]

/-- R186: the presence set that names these fields. -/
def fieldSet (fs : List ProfileField) : Nat := (fs.map fun f => 2 ^ f.number).sum

theorem stageBytes_eq (cs : List (ProfileField × Nat)) :
    stageBytes cs = be16 (fieldSet (cs.map (·.1))) ++ cs.flatMap fieldBytes := by
  rw [fieldSet, List.map_map]
  rfl

theorem ProfileField.size_eq (f : ProfileField) : f.size = 1 ∨ f.size = 2 := by
  cases f <;> simp [ProfileField.size]

theorem length_fieldBytes (c : ProfileField × Nat) : (fieldBytes c).length = c.1.size := by
  unfold fieldBytes
  rcases c.1.size_eq with h | h <;> rw [h] <;> rfl

theorem natOfBytes_fieldBytes {c : ProfileField × Nat} (h : c.2 < 256 ^ c.1.size) : natOfBytes (fieldBytes c) = c.2 := by
  unfold fieldBytes
  rcases c.1.size_eq with hs | hs <;> rw [hs] at h ⊢
  · exact (Nat.zero_add _).trans ((toNat_byteOf c.2).trans (Nat.mod_eq_of_lt h))
  · exact natOfBytes_be16 (Nat.le_of_lt_succ h)

theorem fieldBytes_natOfBytes {f : ProfileField} {v : List Byte} (h : v.length = f.size) :
    fieldBytes (f, natOfBytes v) = v ∧ natOfBytes v < 256 ^ f.size := by
  unfold fieldBytes
  rcases f.size_eq with hs | hs <;> rw [hs] at h ⊢
  · match v, h with
    | [a], _ => exact ⟨by simp [natOfBytes], by simpa [natOfBytes] using a.isLt⟩
  · match v, h with
    | [a, b], _ => exact ⟨be16_natOfBytes a b, Nat.lt_succ_of_le (natOfBytes_lt a b)⟩

/-- R136: the values of the fields a set names are read back. -/
theorem readChanges_flatMap {set : Nat} {fs : List ProfileField} {cs : List (ProfileField × Nat)} (nodup : fs.Nodup)
    (sub : (cs.map (·.1)).Sublist fs) (fits : ∀ c ∈ cs, c.2 < 256 ^ c.1.size)
    (named : ∀ f ∈ fs, set.testBit f.number = true ↔ f ∈ cs.map (·.1)) :
    readChanges set fs (cs.flatMap fieldBytes) = some cs := by
  induction fs generalizing cs with
  | nil =>
    have : cs = [] := by simpa using sub
    rw [this]
    rfl
  | cons f fs ih =>
    obtain ⟨hf, rest⟩ := List.nodup_cons.1 nodup
    have named' : ∀ g ∈ fs, set.testBit g.number = true ↔ g ∈ cs.map (·.1) :=
      fun g hg => named g (List.mem_cons_of_mem f hg)
    have inSet := named f List.mem_cons_self
    rcases List.sublist_cons_iff.1 sub with sub | ⟨names, hnames, sub⟩
    · have out : ¬ set.testBit f.number = true := fun hset => hf (sub.subset (inSet.1 hset))
      simp only [readChanges, out, item, Bool.false_eq_true, if_false, Option.bind_eq_bind, Option.bind_some,
        ih rest sub fits named', Option.elim_none]
    · obtain ⟨⟨g, v⟩, cs, rfl, hg, hcs⟩ := List.map_eq_cons_iff.1 hnames
      change g = f at hg
      subst hg hcs
      have more := ih rest sub (fun c hc => fits c (List.mem_cons_of_mem _ hc)) fun e he => by
        have hne : e ≠ g := fun eq => hf (eq ▸ he)
        simpa [hne] using named' e he
      have taken := item_elim (some (g, v)) fieldBytes (n := g.size)
        (fun c hc => Option.some.inj hc ▸ length_fieldBytes _) (cs.flatMap fieldBytes)
      simp only [Option.isSome_some, Option.elim] at taken
      simp only [readChanges, inSet.2 List.mem_cons_self, List.flatMap_cons, taken, Option.map_some, Option.bind_eq_bind,
        Option.bind_some, more, Option.elim_some, natOfBytes_fieldBytes (fits (g, v) List.mem_cons_self)]

/-- R136: what is read as the values of the fields a set names. -/
theorem readChanges_eq_some {set : Nat} {fs : List ProfileField} {bs : List Byte} {cs : List (ProfileField × Nat)}
    (h : readChanges set fs bs = some cs) : cs.map (·.1) = fs.filter (fun f => set.testBit f.number) ∧
      (∀ c ∈ cs, c.2 < 256 ^ c.1.size) ∧ bs = cs.flatMap fieldBytes := by
  induction fs generalizing bs cs with
  | nil =>
    simp only [readChanges] at h
    split at h
    · next hbs =>
      cases h
      exact ⟨rfl, nofun, hbs⟩
    · cases h
  | cons f fs ih =>
    obtain ⟨⟨o, rest⟩, taken, h⟩ := Option.bind_eq_some_iff.1 h
    obtain ⟨more, hmore, h⟩ := Option.bind_eq_some_iff.1 h
    obtain ⟨named, length, front⟩ := item_eq_some taken
    obtain ⟨fields, fits, bytes⟩ := ih hmore
    cases h
    cases o with
    | none =>
      refine ⟨?_, fits, front.trans bytes⟩
      rw [List.filter_cons_of_neg (by simp [← named]), ← fields]
      rfl
    | some v =>
      obtain ⟨back, fit⟩ := fieldBytes_natOfBytes (f := f) (length v rfl)
      refine ⟨?_, List.forall_mem_cons.2 ⟨fit, fits⟩, ?_⟩
      · rw [List.filter_cons_of_pos (by simp [← named]), ← fields]
        rfl
      · show bs = fieldBytes (f, natOfBytes v) ++ more.flatMap fieldBytes
        rw [back, front, bytes]
        rfl

/-- R128: the number of a field is its place in the table. -/
theorem ProfileField.number_injective : Function.Injective ProfileField.number := by
  have place (f : ProfileField) : allProfileFields[f.number]? = some f := by cases f <;> rfl
  intro f g h
  exact Option.some.inj ((place f).symm.trans (h ▸ place g))

theorem allProfileFields_numbers : allProfileFields.map ProfileField.number = List.range 9 := rfl

/-- R136: the bits of a presence set are the fields it was made of. -/
theorem testBit_fieldSet {fs : List ProfileField} (h : fs.Sublist allProfileFields) (i : Nat) :
    (fieldSet fs).testBit i = true ↔ i ∈ fs.map ProfileField.number := by
  have sorted : (fs.map ProfileField.number).SortedLT :=
    (List.pairwise_lt_range.sublist (allProfileFields_numbers ▸ h.map ProfileField.number)).sortedLT
  have bits := Nat.bitIndices_sum_map_two_pow sorted
  rw [List.map_map] at bits
  rw [← Nat.mem_bitIndices, fieldSet]
  exact iff_of_eq (congrArg (i ∈ ·) bits)

theorem fieldSet_lt {fs : List ProfileField} (h : fs.Sublist allProfileFields) : fieldSet fs < 512 :=
  Nat.lt_succ_of_le ((h.map _).sum_le_sum fun _ _ => Nat.zero_le _)

/-- R136: a presence set below 512 is that of the fields whose bits it has. -/
theorem fieldSet_filter {set : Nat} (h : set < 512) :
    fieldSet (allProfileFields.filter fun f => set.testBit f.number) = set := by
  refine Nat.eq_of_testBit_eq fun i => Bool.eq_iff_iff.2 ?_
  rw [testBit_fieldSet List.filter_sublist, List.mem_map]
  constructor
  · rintro ⟨f, hf, rfl⟩
    exact (List.mem_filter.1 hf).2
  · intro hi
    have small : i < 9 := by
      by_contra hle
      have := Nat.testBit_lt_two_pow (h.trans_le (Nat.pow_le_pow_right (n := 2) (by decide) (Nat.le_of_not_lt hle)))
      rw [this] at hi
      cases hi
    obtain ⟨f, hf, rfl⟩ := List.mem_map.1 (allProfileFields_numbers ▸ List.mem_range.2 small)
    exact ⟨f, List.mem_filter.2 ⟨hf, hi⟩, rfl⟩

/-- R136: a STAGE's fields are read back. -/
theorem readStage_stageBytes {cs : List (ProfileField × Nat)} (h : stageFits cs) : readStage (stageBytes cs) = some cs := by
  obtain ⟨sub, fits⟩ := h
  have small := fieldSet_lt sub
  have set := natOfBytes_be16 (n := fieldSet (cs.map (·.1))) (by omega)
  rw [stageBytes_eq]
  simp only [be16] at set
  simp only [be16, List.cons_append, List.nil_append, readStage, set, if_neg (Nat.not_le.2 small)]
  refine readChanges_flatMap (by decide) sub fits fun f _ => ?_
  rw [testBit_fieldSet sub, List.mem_map_of_injective ProfileField.number_injective]

/-- R136: what is read as a STAGE's fields is those fields' bytes. -/
theorem eq_bytes_of_readStage {bs : List Byte} {cs : List (ProfileField × Nat)} (h : readStage bs = some cs) :
    stageFits cs ∧ bs = stageBytes cs := by
  unfold readStage at h
  split at h
  case h_2 => cases h
  case h_1 hi lo rest =>
    dsimp only at h
    split at h
    case isTrue => cases h
    case isFalse small =>
      obtain ⟨fields, fits, bytes⟩ := readChanges_eq_some h
      refine ⟨⟨fields ▸ List.filter_sublist, fits⟩, ?_⟩
      rw [stageBytes_eq, fields, fieldSet_filter (Nat.lt_of_not_le small), be16_natOfBytes, bytes]
      rfl

/-! ### Entries -/

theorem padEntry_of_length {bs : List Byte} (h : bs.length ≤ 20) :
    padEntry bs = bs ++ List.replicate (20 - bs.length) 0 := by
  rw [padEntry, List.take_append, List.take_of_length_le h, List.take_replicate, Nat.min_eq_left (Nat.sub_le ..)]

theorem length_padEntry (bs : List Byte) : (padEntry bs).length = 20 := by
  simp [padEntry]

theorem length_optTimeBytes (o : Option Time) : (optTimeBytes o).length = 4 := by cases o <;> rfl

/-- R186: the four bytes of a line time, cut from it. -/
theorem timeBytes_eq_extract (t : Time) : timeBytes t =
    [t.extractLsb' 24 8, t.extractLsb' 16 8, t.extractLsb' 8 8, t.extractLsb' 0 8] := by
  refine congrArg₂ List.cons ?_ (congrArg₂ List.cons ?_ (congrArg₂ List.cons ?_ (congrArg (· :: []) ?_))) <;>
    exact BitVec.eq_of_toNat_eq (by simp [Nat.shiftRight_eq_div_pow])

/-- R33, R186: the times of a view take at most 12 bytes. -/
theorem TimesView.length_times_le (v : TimesView) : v.times.length ≤ 12 := by
  cases v <;> simp [TimesView.times, timeBytes, be32, be16, length_optTimeBytes]

/-- R165, R186: result data fit behind the result code, the command code and the request tag. -/
theorem ReplyData.length_bytes_le (data : ReplyData) : data.bytes.length ≤ 17 := by
  cases data with
  | times cls v c =>
    have := v.length_times_le
    simp [ReplyData.bytes, TimesView.bytes, Capacity.bytes]
    omega
  | _ => simp [ReplyData.bytes, StatusView.bytes, Capacity.bytes, Profile.bytes, timeBytes, be32, be16, length_optTimeBytes]

theorem Entry.length_bytes (e : Entry) : e.bytes.length = 20 := by
  cases e <;> exact length_padEntry _

theorem Entry.bytes_reply (code tag : Byte) (r : ResultCode) (data : ReplyData) : (Entry.reply code tag r data).bytes =
    [byteOf r.value, code, tag] ++ data.bytes ++ List.replicate (17 - data.bytes.length) 0 := by
  have := data.length_bytes_le
  have len : ([byteOf r.value, code, tag] ++ data.bytes).length = data.bytes.length + 3 := by simp
  rw [Entry.bytes, padEntry_of_length (by omega), len]
  congr 2
  omega

theorem marks_one (a : Bool) : marks [a] = if a then 0x80 else 0x00 := by cases a <;> decide

theorem marks_pair (a b : Bool) : marks [a, b] = (if a then 0x80 else 0x00) + (if b then 0x40 else 0x00) := by
  cases a <;> cases b <;> decide

theorem Entry.bytes_frameDone (tag : Byte) (o : FrameOutcome) (times : Option (Time × Time)) (sent mismatches : Nat) :
    (Entry.frameDone tag o times sent mismatches).bytes =
      [byteOf (0x40 + o.number), tag, if times = none then 0x00 else 0x80] ++ be16 o.detail ++
        optTimeBytes (times.map (·.1)) ++ optTimeBytes (times.map (·.2)) ++ [byteOf sent] ++ be16 mismatches ++
        [0, 0, 0, 0] := by
  have mark : (if times = none then 0x00 else 0x80 : Byte) = if times.isSome then 0x80 else 0x00 := by cases times <;> rfl
  have len : ([byteOf (0x40 + o.number), tag, marks [times.isSome]] ++ be16 o.detail ++ optTimeBytes (times.map (·.1)) ++
      optTimeBytes (times.map (·.2)) ++ [byteOf sent] ++ be16 mismatches).length = 16 := by
    simp [be16, length_optTimeBytes]
  rw [mark, ← marks_one, Entry.bytes, padEntry_of_length (by omega), len]
  rfl

/-! ### The CRC -/

/-- R178: times x, modulo x^8 + x^2 + x + 1. -/
def timesX (a : Byte) : Byte := if a.msb then (a <<< 1) ^^^ 0x07 else a <<< 1

/-- R178: a message bit and the top bit of the accumulator are reduced together. -/
theorem crcBit_eq (a b : Byte) : crcBit a b.msb ^^^ (b <<< 1) = timesX (a ^^^ b) := by
  have top : (a ^^^ b).msb = (a.msb != b.msb) := BitVec.msb_xor
  simp only [crcBit, timesX, top, BitVec.shiftLeft_xor_distrib]
  split
  · rw [BitVec.xor_assoc, BitVec.xor_assoc, BitVec.xor_comm 0x07]
  · rfl

/-- R178: so many bits of a byte into the accumulator, most significant first. -/
def crcBits (acc b : Byte) : Nat → Byte
  | 0 => acc
  | k + 1 => crcBit (crcBits acc b k) (b <<< k).msb

/-- R178: after k bits the accumulator, with the bits to come at its top, is x^k times what it was. -/
theorem crcBits_eq (acc b : Byte) (k : Nat) : crcBits acc b k ^^^ (b <<< k) = Nat.repeat timesX k (acc ^^^ b) := by
  induction k with
  | zero => simp [crcBits, Nat.repeat]
  | succ k ih => rw [crcBits, BitVec.shiftLeft_add, crcBit_eq, ih, Nat.repeat]

theorem crcByte_eq (acc b : Byte) : crcByte acc b = Nat.repeat timesX 8 (acc ^^^ b) := by
  have bits : crcByte acc b = crcBits acc b 8 := by
    simp [crcByte, crcBits, BitVec.msb_eq_getLsbD_last]
  have gone : b <<< 8 = 0#8 := by simp
  have := crcBits_eq acc b 8
  rw [gone, BitVec.xor_zero] at this
  exact bits.trans this

theorem crc8_append (bs : List Byte) (b : Byte) : crc8 (bs ++ [b]) = Nat.repeat timesX 8 (crc8 bs ^^^ b) := by
  rw [crc8, List.foldl_append]
  exact crcByte_eq (crc8 bs) b

/-- R178: a message and its CRC leave no remainder. -/
theorem crc8_self (bs : List Byte) : crc8 (bs ++ [crc8 bs]) = 0 := by
  rw [crc8_append, BitVec.xor_self]
  decide

/-- Settles O60: the layouts one after another, and the CRC by the bits of a byte. -/
theorem fieldsRoundTrip : Obligations.FieldsRoundTrip := by
  refine ⟨fun x => readShape_bytes, fun bs x h => ⟨inRange_of_readShape h, eq_bytes_of_readShape h⟩,
    fun x => readTiming_bytes, fun bs x => eq_bytes_of_readTiming, fun cs => readStage_stageBytes,
    fun bs cs => eq_bytes_of_readStage, timeOfBytes_timeBytes, Entry.length_bytes, ⟨?_, ?_, ?_, ?_⟩, rfl, rfl, rfl,
    crc8_append, crc8_self⟩
  · exact fun code tag r data => ⟨data.length_bytes_le, Entry.bytes_reply code tag r data⟩
  · intro tag o times sent mismatches
    rw [Entry.bytes_frameDone]
    cases times with
    | none => rcases o with _ | n | _ | ⟨_ | _⟩ | ⟨_ | _⟩ | _ | _ | _ | _ <;> rfl
    | some span =>
      simp only [Option.map_some, optTimeBytes, timeBytes_eq_extract]
      rcases o with _ | n | _ | ⟨_ | _⟩ | ⟨_ | _⟩ | _ | _ | _ | _ <;> rfl
  · intro c st n on released
    have mark : (if on = none then 0x00 else 0x80 : Byte) = if on.isSome then 0x80 else 0x00 := by cases on <;> rfl
    rw [mark, Entry.bytes, marks_pair]
    cases c <;> cases st <;> rfl
  · intro f
    cases f <;> rfl

end Sys2Proof.Machine

end

section
/-! The Frame Store's commands: LOAD_BEGIN, LOAD_DATA and QUERY_FRAME (O12, O13, O14). -/

namespace Sys2Proof.Machine

/-! ### What a taken request finds -/

section
variable (s : State) (p : Port) (code tag : Byte) (fields : List Byte)

theorem State.sessionState_taken : ((s.taken p code tag fields).port p).session.state = (s.port p).session.state := by
  rw [State.taken_eq, State.port_modPort, if_pos rfl]
  exact (s.port p).renewed_keeps.1

theorem State.store_taken : (s.taken p code tag fields).store = s.store := (s.taken_part p code tag fields).2.2.2

theorem State.used_taken : (s.taken p code tag fields).used p = s.used p := by
  obtain ⟨-, -, -, entries, -⟩ := (s.port p).renewed_keeps
  rw [State.used, State.taken_eq, State.port_modPort, if_pos rfl]
  exact congrArg List.length entries

theorem State.liveCount_taken (q : Port) : (s.taken p code tag fields).liveCount q = s.liveCount q := by
  rw [State.liveCount, State.store_taken, State.liveCount]

theorem State.heldCount_taken (q : Port) : (s.taken p code tag fields).heldCount q = s.heldCount q := by
  rw [State.heldCount, State.store_taken, State.heldCount]

theorem State.freeSegs_taken : (s.taken p code tag fields).freeSegs = s.freeSegs := by
  rw [State.freeSegs, State.store_taken, State.freeSegs]

theorem State.firstFree_taken : (s.taken p code tag fields).firstFree = s.firstFree := by
  simp only [State.firstFree, State.desc_taken]

theorem State.reserved_taken : (s.taken p code tag fields).reserved p = s.reserved p := by
  rw [State.reserved, State.liveCount_taken, State.hasSession_taken]
  rfl

/-- R24: a taken LOAD_BEGIN is refused as the request would have been. -/
theorem State.loadRefusal_taken (x : Shape) : (s.taken p code tag fields).loadRefusal p x = s.loadRefusal p x := by
  simp only [State.loadRefusal, State.findTag_taken, State.liveCount_taken, State.heldCount_taken, State.firstFree_taken,
    State.freeSegs_taken, State.roomFor, State.used_taken, State.reserved_taken]
  rfl

end

/-- R24: the lowest-numbered FREE descriptor. -/
theorem State.firstFree_eq_some {s : State} {d : DescIdx} (free : (s.desc d).live = false)
    (least : ∀ e, e < d → (s.desc e).live = true) : s.firstFree = some d := by
  refine List.find?_eq_some_iff_getElem.2 ⟨by simp [free], d.val, by simp [allDescs], by simp [allDescs], fun j hj => ?_⟩
  simp [allDescs, least ⟨j, hj.trans d.isLt⟩ hj]

theorem State.firstFree_eq_none {s : State} (h : ∀ d, (s.desc d).live = true) : s.firstFree = none := by
  simp [State.firstFree, h]

/-! ### LOAD_BEGIN -/

section
variable {s : State} {p : Port} {x : Shape}

/-- R24 order 4. -/
theorem State.loadRefusal_tagInUse (h : ¬ s.NamesNone p x.tag) : s.loadRefusal p x = some .tagInUse := by
  have found : (s.findTag p x.tag).isSome = true :=
    Option.isSome_iff_ne_none.2 (mt (s.findTag_eq_none_iff p x.tag).1 h)
  rw [State.loadRefusal, if_pos found]

/-- R24 orders 5 to 8: the checks behind the tag's. -/
theorem State.loadRefusal_of_namesNone (h : s.NamesNone p x.tag) : s.loadRefusal p x =
    if 16 ≤ s.liveCount p ∨ 96 < s.heldCount p + segmentsFor x.bodyBits then some .portLimit
    else if s.firstFree = none then some .noDescriptor
    else if s.freeSegs.length < segmentsFor x.bodyBits then some .noSegments
    else if 24 < s.used p + s.reserved p + 2 then some .noRoom else none := by
  have room : (!s.roomFor p 2) = decide (24 < s.used p + s.reserved p + 2) := by
    rw [State.roomFor, ← decide_not, Config.queueSize]
    exact decide_eq_decide.2 Nat.not_le
  rw [State.loadRefusal, (s.findTag_eq_none_iff p x.tag).2 h, room]
  simp only [decide_eq_true_eq]
  rfl

end

/-- R24: a taken LOAD_BEGIN that the Frame Store refuses. -/
theorem State.doLoadBegin_refused {s : State} {p : Port} {fields : List Byte} {x : Shape} {r : ResultCode} (tag : Byte)
    (session : s.noSession p = false) (going : (s.port p).session.state ≠ .closing) (read : readShape fields = some x)
    (refused : s.loadRefusal p x = some r) :
    State.doLoadBegin p tag fields s = s.reply p Config.codeLoadBegin tag r := by
  simp only [State.doLoadBegin, session, going, read, refused, Bool.false_eq_true, if_false]

/-- R25: a taken LOAD_BEGIN that allocates. -/
theorem State.doLoadBegin_allocates {s : State} {p : Port} {fields : List Byte} {x : Shape} {d : DescIdx} (tag : Byte)
    (session : s.noSession p = false) (going : (s.port p).session.state ≠ .closing) (read : readShape fields = some x)
    (accepted : s.loadRefusal p x = none) (free : s.firstFree = some d) :
    State.doLoadBegin p tag fields s =
      (s.setDesc d (x.desc p (s.freeSegs.take (segmentsFor x.bodyBits)))).reply p Config.codeLoadBegin tag .loadReady
        (.loadReady x.tag ((x.bodyBits + 7) / 8) (segmentsFor x.bodyBits)) := by
  simp only [State.doLoadBegin, session, going, read, accepted, free, Bool.false_eq_true, if_false]
  rfl

/-- R22, R23: fields that are no shape's. -/
theorem readShape_eq_none {fields : List Byte} (h : ∀ x : Shape, x.inRange = true → fields ≠ x.bytes) :
    readShape fields = none := by
  cases read : readShape fields with
  | none => rfl
  | some x => exact absurd (eq_bytes_of_readShape read) (h x (inRange_of_readShape read))

/-- R170: a REPLY leaves the reserved count. -/
theorem State.reserved_reply (s : State) (p : Port) (code tag : Byte) (r : ResultCode) (data : ReplyData) (q : Port) :
    (s.reply p code tag r data).reserved q = s.reserved q := by
  have session : (s.reply p code tag r data).hasSession q = s.hasSession q := by
    rw [State.hasSession, State.port_reply]
    split
    · next hq => rw [hq]; rfl
    · rfl
  rw [State.reserved, session]
  rfl

/-- R25: what the allocation of a FREE record for p does to p's counts. -/
theorem State.counts_allocated {s : State} {d : DescIdx} (p : Port) (x : Shape) (segs : List SegIdx)
    (free : (s.desc d).live = false) : (s.setDesc d (x.desc p segs)).liveCount p = s.liveCount p + 1 ∧
      (s.setDesc d (x.desc p segs)).reserved p = s.reserved p + 1 := by
  have live := s.liveCount_setDesc d (x.desc p segs) p
  have before : (s.desc d).ownedBy p = false := by simp [Desc.ownedBy, free]
  have after : (x.desc p segs).ownedBy p = true := by simp [Desc.ownedBy, Desc.live, Shape.desc]
  simp only [before, after, Bool.false_eq_true, if_false, if_true, Nat.add_zero] at live
  have session : (s.setDesc d (x.desc p segs)).hasSession p = s.hasSession p := rfl
  refine ⟨live, ?_⟩
  rw [State.reserved, State.reserved, live, session]
  omega

/-- Settles O12: the checks in their order, and the allocation. -/
theorem loadBeginChecksAndAllocates : Obligations.LoadBeginChecksAndAllocates := by
  intro p tag fields s h
  have state := s.sessionState_taken p Config.codeLoadBegin tag fields
  have no := State.noSession_taken (s := s) p Config.codeLoadBegin tag fields
  refine ⟨fun hno => ?_, fun closing => ?_, fun opened => ?_⟩
  · exact s.replies_of_reply _ p Config.codeLoadBegin tag fields _ _ _ h rfl (by
      simp only [State.doLoadBegin, no.2 hno, if_true])
  · have yes := Bool.eq_false_iff.2 (mt no.1 (not_not_intro (.inr closing)))
    exact s.replies_of_reply _ p Config.codeLoadBegin tag fields _ _ _ h rfl (by
      simp only [State.doLoadBegin, yes, state, closing, Bool.false_eq_true, if_false, if_true])
  have yes := Bool.eq_false_iff.2 (mt no.1 (not_not_intro (.inl opened)))
  have going : ((s.taken p Config.codeLoadBegin tag fields).port p).session.state ≠ .closing := by simp [state, opened]
  refine ⟨fun bad => ?_, fun x range hf => ?_⟩
  · exact s.replies_of_reply _ p Config.codeLoadBegin tag fields _ _ _ h rfl (by
      simp only [State.doLoadBegin, yes, going, readShape_eq_none bad, Bool.false_eq_true, if_false])
  have read : readShape fields = some x := hf ▸ readShape_bytes range
  have refuses {r : ResultCode} (refused : s.loadRefusal p x = some r) :
      s.Replies (.loadBegin p tag fields) p 0x20 tag r .none :=
    s.replies_of_reply _ p Config.codeLoadBegin tag fields _ _ _ h rfl
      (State.doLoadBegin_refused tag yes going read ((s.loadRefusal_taken ..).trans refused))
  refine ⟨fun inUse => refuses (State.loadRefusal_tagInUse inUse), fun names => ?_⟩
  have checks := State.loadRefusal_of_namesNone names
  refine ⟨fun limit => refuses (by rw [checks, if_pos limit]), fun live held => ?_⟩
  rw [if_neg (by omega)] at checks
  refine ⟨fun full => refuses (by rw [checks, if_pos (State.firstFree_eq_none full)]), fun d free least => ?_⟩
  have first := State.firstFree_eq_some free least
  rw [if_neg (by simp [first])] at checks
  refine ⟨fun few => refuses (by rw [checks, if_pos few]), fun enough => ?_⟩
  rw [if_neg (Nat.not_lt.2 enough)] at checks
  refine ⟨fun tight => refuses (by rw [checks, if_pos tight]), fun room => ?_⟩
  rw [if_neg (Nat.not_lt.2 room)] at checks
  have acts := State.doLoadBegin_allocates tag yes going read ((s.loadRefusal_taken ..).trans checks)
    ((s.firstFree_taken ..).trans first)
  rw [State.freeSegs_taken] at acts
  obtain ⟨live', reserved'⟩ := State.counts_allocated p x (s.freeSegs.take (segmentsFor x.bodyBits))
    (s := s.taken p Config.codeLoadBegin tag fields) (by rw [State.desc_taken]; exact free)
  have desc (e : DescIdx) := (s.taken p Config.codeLoadBegin tag fields).desc_setDesc d e
    (x.desc p (s.freeSegs.take (segmentsFor x.bodyBits)))
  refine ⟨_, s.freeSegs.take (segmentsFor x.bodyBits),
    congrArg Host.Outcome.next ((s.request_taken p Config.codeLoadBegin tag fields _ h).trans acts),
    List.length_take_of_le enough, s.freeSegs_nodup.sublist (List.take_sublist ..), fun g => List.mem_of_mem_take,
    (desc d).trans (if_pos rfl), fun e he => (desc e).trans ((if_neg he).trans (s.desc_taken ..)), fun a => ?_, ?_,
    fun q hq => ?_, ?_, ?_, ?_⟩
  · rw [State.taken_eq]
    rfl
  · rw [State.taken_eq]
    exact ⟨rfl, rfl, rfl, fun _ => rfl, fun _ => rfl, rfl, rfl, rfl, rfl, rfl, rfl⟩
  · rw [State.port_reply, if_neg hq, State.setDesc_port, State.taken_eq, State.port_modPort, if_neg hq]
  · exact live'.trans (by rw [State.liveCount_taken])
  · exact (State.reserved_reply ..).trans (reserved'.trans (by rw [State.reserved_taken]))
  · rw [State.port_reply, if_pos rfl, State.setDesc_port]
    exact s.agrees_taken_reply p Config.codeLoadBegin tag fields _ h

/-! ### Payload bytes -/

/-- R29: a write reaches no other address, whatever form the pool is in. -/
theorem Memory.read_write_other {a x : Nat} (h : a ≠ x) (b : Byte) (m : Memory) :
    Memory.read (Memory.write a b m) x = Memory.read m x := by
  have push (rest : Memory) : Memory.read (Memory.push a b rest) x = Memory.read rest x := by
    unfold Memory.push
    split
    · rfl
    · rw [Memory.read, if_neg h]
  induction m with
  | nil => exact push []
  | cons c rest ih =>
    obtain ⟨a', b'⟩ := c
    rw [Memory.write]
    split
    · exact push _
    · split
      · next heq => rw [push, Memory.read, if_neg (heq ▸ h)]
      · rw [Memory.read, Memory.read, ih]

/-- R29: payload written reaches no other address, whatever form the pool is in. -/
theorem writePayload_read_apart {segs : List SegIdx} {vs : List Byte} {b x : Nat} (m : Memory)
    (h : ∀ k, k < vs.length → segAddress segs (b + k) ≠ some x) :
    Memory.read (writePayload segs b vs m) x = Memory.read m x := by
  induction vs generalizing b m with
  | nil => rfl
  | cons v vs ih =>
    have rest : ∀ k, k < vs.length → segAddress segs (b + 1 + k) ≠ some x := fun k hk => by
      rw [Nat.add_right_comm]
      exact h (k + 1) (Nat.succ_lt_succ hk)
    rw [writePayload, ih _ rest]
    cases hs : segAddress segs b with
    | none => rfl
    | some a =>
      have first : a ≠ x := fun e => h 0 (Nat.succ_pos _) (hs.trans (congrArg some e))
      exact Memory.read_write_other first v m

/-- R29: two byte positions of distinct segments have two addresses. -/
theorem segAddress_inj {segs : List SegIdx} (once : segs.Nodup) {i j a : Nat} (hi : segAddress segs i = some a)
    (hj : segAddress segs j = some a) : i = j := by
  obtain ⟨g, hg, ga⟩ := Option.map_eq_some_iff.1 hi
  obtain ⟨f, hf, fa⟩ := Option.map_eq_some_iff.1 hj
  simp only [Config.segmentBytes] at hg hf ga fa
  have same : g = f := Fin.ext (by omega)
  obtain ⟨li, ei⟩ := List.getElem?_eq_some_iff.1 hg
  obtain ⟨lj, ej⟩ := List.getElem?_eq_some_iff.1 hf
  have place : i / 16 = j / 16 := once.getElem_inj_iff.1 (ei.trans (same.trans ej.symm))
  omega

/-- R15, R29: every byte position of the body has an address in segments for the whole of it. -/
theorem segAddress_isSome {segs : List SegIdx} {x : Desc} (whole : segs.length = segmentsFor x.bodyBits) {i : Nat}
    (hi : i < x.bodyBytes) : ∃ a, segAddress segs i = some a := by
  have within : i / Config.segmentBytes < segs.length := by
    rw [whole]
    simp only [Config.segmentBytes, segmentsFor, Desc.bodyBytes] at hi ⊢
    omega
  exact ⟨_, by rw [segAddress, List.getElem?_eq_getElem within]; rfl⟩

/-- R29, R100: payload written to addresses of its own is read back. -/
theorem readPayload_writePayload {segs : List SegIdx} (once : segs.Nodup) {vs : List Byte} {b : Nat} {m : Memory}
    (wf : m.wf = true) (within : ∀ k, k < vs.length → ∃ a, segAddress segs (b + k) = some a) {k : Nat} {v : Byte}
    (hk : vs[k]? = some v) : readPayload segs (writePayload segs b vs m) (b + k) = v := by
  induction vs generalizing b m k with
  | nil => cases hk
  | cons w ws ih =>
    obtain ⟨a, ha⟩ := within 0 (Nat.succ_pos _)
    rw [Nat.add_zero] at ha
    rw [writePayload, ha, Option.elim_some]
    cases k with
    | zero =>
      cases hk
      have apart : ∀ k, k < ws.length → segAddress segs (b + 1 + k) ≠ some a := fun k _ hk => by
        have := segAddress_inj once ha hk
        omega
      show readPayload segs _ b = v
      rw [readPayload, ha]
      exact (writePayload_read_apart _ apart).trans ((Memory.read_write a v m wf a).trans (if_pos rfl))
    | succ k =>
      have rest : ∀ k, k < ws.length → ∃ a, segAddress segs (b + 1 + k) = some a := fun k hk => by
        rw [Nat.add_right_comm]
        exact within (k + 1) (Nat.succ_lt_succ hk)
      rw [Nat.add_comm k, ← Nat.add_assoc]
      exact ih (Memory.wf_write a w m wf) rest hk

/-! ### LOAD_DATA -/

section
variable {s : State} {p : Port} {ftag off : Byte} {payload : List Byte} {d : DescIdx} (tag : Byte)

/-- R28 order 2: fields too short for a tag and an offset with a byte behind them. -/
theorem readLoadData_short {fields : List Byte} (h : fields.length < 3) : readLoadData fields = none := by
  match fields, h with
  | [], _ => rfl
  | [_], _ => rfl
  | [_, _], _ => rfl

/-- R28 orders 3 to 6: LOAD_DATA behind the checks of its fields. -/
theorem State.doLoadData_read (session : s.noSession p = false)
    (read : readLoadData (ftag :: off :: payload) = some (ftag, off.toNat, payload)) :
    State.doLoadData p tag (ftag :: off :: payload) s =
      match s.findTag p ftag with
      | none => s.reply p 0x21 tag .notFound
      | some d =>
        if (s.desc d).state ≠ .loading then s.reply p 0x21 tag .wrongState
        else if off.toNat ≠ (s.desc d).fill then s.reply p 0x21 tag .outOfOrder (.fillLevel (s.desc d).fill)
        else if (s.desc d).bodyBytes < (s.desc d).fill + payload.length then s.reply p 0x21 tag .badField
        else (s.loadPayload d off.toNat payload).reply p 0x21 tag .ok
          (.loaded (off.toNat + payload.length) ((s.desc d).bodyBytes - (off.toNat + payload.length))) := by
  simp only [State.doLoadData, session, read, Bool.false_eq_true, if_false]
  rfl

end

/-- R28 order 2: fields in their ranges. -/
theorem readLoadData_in_range {ftag off : Byte} {payload : List Byte} (any : 1 ≤ payload.length) (few : payload.length ≤ 24)
    (start : off.toNat ≤ 127) : readLoadData (ftag :: off :: payload) = some (ftag, off.toNat, payload) := by
  rw [readLoadData, if_neg (by omega)]

theorem State.desc_loadPayload (s : State) (d e : DescIdx) (offset : Nat) (payload : List Byte) :
    (s.loadPayload d offset payload).desc e =
      if e = d then { s.desc d with fill := offset + payload.length } else s.desc e :=
  State.desc_setDesc ..

theorem State.pool_loadPayload (s : State) (d : DescIdx) (offset : Nat) (payload : List Byte) :
    (s.loadPayload d offset payload).store.pool = writePayload (s.desc d).segs offset payload s.store.pool := rfl

/-- Settles O13: the checks in their order, and the write by the addresses of the segment list. -/
theorem loadDataChecksAndWrites : Obligations.LoadDataChecksAndWrites := by
  intro p tag fields s h
  have no := State.noSession_taken (s := s) p Config.codeLoadData tag fields
  refine ⟨fun hno => ?_, fun hin => ?_⟩
  · exact s.replies_of_reply _ p Config.codeLoadData tag fields _ _ _ h rfl (by
      simp only [State.doLoadData, no.2 hno, if_true])
  have yes := Bool.eq_false_iff.2 (mt no.1 (not_not_intro hin))
  have bad (read : readLoadData fields = none) : s.Replies (.loadData p tag fields) p 0x21 tag .badField .none :=
    s.replies_of_reply _ p Config.codeLoadData tag fields _ _ _ h rfl (by
      simp only [State.doLoadData, yes, read, Bool.false_eq_true, if_false])
  refine ⟨fun short => bad (readLoadData_short short), fun ftag off payload hf => ?_⟩
  subst hf
  refine ⟨fun out => bad (by rw [readLoadData, if_pos out]), fun any few start => ?_⟩
  have acts := State.doLoadData_read (ftag := ftag) tag yes (readLoadData_in_range any few start)
  have answers {r : ResultCode} {data : ReplyData} (eq : State.doLoadData p tag (ftag :: off :: payload)
      (s.taken p Config.codeLoadData tag (ftag :: off :: payload)) =
        (s.taken p Config.codeLoadData tag (ftag :: off :: payload)).reply p 0x21 tag r data) :
      s.Replies (.loadData p tag (ftag :: off :: payload)) p 0x21 tag r data :=
    s.replies_of_reply _ p Config.codeLoadData tag _ _ _ _ h rfl eq
  rw [State.findTag_taken] at acts
  refine ⟨fun unknown => answers ?_, fun d names => ?_⟩
  · rw [acts, (s.findTag_eq_none_iff p ftag).2 unknown]
  simp only [names.findTag, State.desc_taken] at acts
  refine ⟨fun other => answers (by rw [acts, if_pos other]), fun loading => ?_⟩
  rw [if_neg (not_not_intro loading)] at acts
  refine ⟨fun order => answers (by rw [acts, if_pos order]), fun order => ?_⟩
  rw [if_neg (not_not_intro order), ← order] at acts
  refine ⟨fun beyond => answers (by rw [acts, if_pos beyond]), fun fits once whole => ?_⟩
  rw [if_neg (Nat.not_lt.2 fits)] at acts
  have desc (e : DescIdx) :
      ((s.taken p Config.codeLoadData tag (ftag :: off :: payload)).loadPayload d off.toNat payload).desc e =
        if e = d then { s.desc d with fill := off.toNat + payload.length } else s.desc e := by
    rw [State.desc_loadPayload, State.desc_taken, State.desc_taken]
  have pool : ((s.taken p Config.codeLoadData tag (ftag :: off :: payload)).loadPayload d off.toNat payload).store.pool =
      writePayload (s.desc d).segs off.toNat payload s.store.pool := by
    rw [State.pool_loadPayload, State.desc_taken, State.store_taken]
  have within (k : Nat) (hk : k < payload.length) : ∃ a, segAddress (s.desc d).segs (off.toNat + k) = some a :=
    segAddress_isSome whole (by omega)
  refine ⟨_, congrArg Host.Outcome.next ((s.request_taken p Config.codeLoadData tag _ _ h).trans acts),
    (desc d).trans (if_pos rfl), fun e he => (desc e).trans (if_neg he), fun wf k b hk => ?_, fun a ha => ?_, ?_,
    fun q hq => ?_, ?_⟩
  · rw [State.reply_store, pool]
    exact readPayload_writePayload once wf within hk
  · rw [State.reply_store, pool]
    exact writePayload_read_apart _ ha
  · rw [State.taken_eq]
    exact ⟨rfl, rfl, rfl, fun _ => rfl, fun _ => rfl, rfl, rfl, rfl, rfl, rfl, rfl⟩
  · rw [State.port_reply, if_neg hq, State.taken_eq]
    exact (State.port_modPort ..).trans (if_neg hq)
  · rw [State.port_reply, if_pos rfl]
    exact s.agrees_taken_reply p Config.codeLoadData tag _ _ h

/-! ### QUERY_FRAME -/

/-- R31: fields that name no view. -/
theorem readQueryFrame_eq_none {fields : List Byte} (h : ∀ ftag : Byte, fields ≠ [ftag, 0] ∧ fields ≠ [ftag, 1]) :
    readQueryFrame fields = none := by
  match fields, h with
  | [], _ => rfl
  | [_], _ => rfl
  | [ftag, v], h =>
    obtain ⟨h0, h1⟩ := h ftag
    rw [readQueryFrame, if_neg fun hv => h0 (by rw [hv]), if_neg fun hv => h1 (by rw [hv])]
  | _ :: _ :: _ :: _, _ => rfl

theorem State.capacity_taken (s : State) (p : Port) (code tag : Byte) (fields : List Byte) :
    (s.taken p code tag fields).capacity p = s.capacity p := by
  rw [State.capacity, State.liveCount_taken, State.heldCount_taken, State.freeSegs_taken, State.freeDescs, State.store_taken]
  rfl

theorem State.statusView_taken (s : State) (p : Port) (code tag : Byte) (fields : List Byte) (x : Desc) :
    (s.taken p code tag fields).statusView x = s.statusView x := by
  simp only [State.statusView, State.desc_taken]

/-- R33: the times of a view are those of the descriptor's state and class. -/
theorem Desc.showsTimes_timesView (x : Desc) : x.ShowsTimes x.timesView := by
  refine ⟨fun state => ?_, fun state pred off hpred hoff => ?_, fun state cls start slip stop hstart hslip hstop => ?_,
    fun state cls => ?_, fun state cls off hoff => ?_, fun state cls start slip stop act hstart hslip hstop hact => ?_,
    fun state cls act hact => ?_⟩
  · simp [Desc.timesView, state]
  · simp [Desc.timesView, state, hpred, hoff]
  · simp [Desc.timesView, state, cls, hstart, hslip, hstop]
  · simp [Desc.timesView, state, cls]
  · simp [Desc.timesView, state, cls, hoff]
  · simp [Desc.timesView, state, cls, hstart, hslip, hstop, hact, distance]
  · cases hc : x.cls with
    | timed => exact absurd hc cls
    | asap => simp [Desc.timesView, state, hc, hact]
    | chained => simp [Desc.timesView, state, hc, hact]

/-- Settles O14: the checks in their order, and the view asked for. -/
theorem queryFrameAnswers : Obligations.QueryFrameAnswers := by
  intro p tag fields s h counts
  have no := State.noSession_taken (s := s) p Config.codeQueryFrame tag fields
  have answers {r : ResultCode} {data : ReplyData} (eq : State.doQueryFrame p tag fields
      (s.taken p Config.codeQueryFrame tag fields) = (s.taken p Config.codeQueryFrame tag fields).reply p 0x22 tag r data) :
      s.Replies (.queryFrame p tag fields) p 0x22 tag r data :=
    s.replies_of_reply _ p Config.codeQueryFrame tag fields _ _ _ h rfl eq
  refine ⟨fun hno => answers ?_, fun hin => ?_⟩
  · simp only [State.doQueryFrame, no.2 hno, if_true, State.capacity_taken]
    rfl
  have yes := Bool.eq_false_iff.2 (mt no.1 (not_not_intro hin))
  refine ⟨fun bad => answers ?_, fun ftag v hf view => ?_⟩
  · simp only [State.doQueryFrame, yes, readQueryFrame_eq_none bad, Bool.false_eq_true, if_false, State.capacity_taken]
    rfl
  subst hf
  have read : readQueryFrame [ftag, v] = some (ftag, if v = 0 then .status else .times) := by
    rcases view with rfl | rfl <;> rfl
  refine ⟨fun unknown => answers ?_, fun d names => ⟨fun hv => answers ?_, fun hv =>
    ⟨(s.desc d).timesView, (s.desc d).showsTimes_timesView, answers ?_⟩⟩⟩
  · simp only [State.doQueryFrame, yes, read, Bool.false_eq_true, if_false, State.findTag_taken,
      (s.findTag_eq_none_iff p ftag).2 unknown, State.capacity_taken]
    rfl
  · subst hv
    simp only [State.doQueryFrame, yes, read, Bool.false_eq_true, if_false, if_true, State.findTag_taken,
      names.findTag, State.capacity_taken, State.statusView_taken, State.desc_taken]
    rfl
  · subst hv
    simp only [State.doQueryFrame, yes, read, Bool.false_eq_true, if_false, State.findTag_taken,
      names.findTag, State.capacity_taken, State.desc_taken]
    rfl

end Sys2Proof.Machine

end

section
/-! Chains stay sound (O57): what retirements, admissions and discards leave of them. -/

namespace Sys2Proof.Machine

/-! ### Chains of a sound state -/

/-- R47: chains rest on what is live and HELD, whose it is, and the links. -/
theorem State.ChainsSound.congr {s t : State} (h : s.ChainsSound)
    (live : ∀ d, (t.desc d).live = (s.desc d).live) (held : ∀ d, (t.desc d).state = .held ↔ (s.desc d).state = .held)
    (owner : ∀ d, (t.desc d).owner = (s.desc d).owner) (successor : ∀ d, (t.desc d).successor = (s.desc d).successor) :
    t.ChainsSound where
  link d e := by
    rw [successor, live, held, owner, owner]
    exact h.link d e
  one d d' e := by
    rw [successor, successor]
    exact h.one d d' e
  held e he := by
    simp only [successor]
    exact h.held e ((held e).1 he)
  noLoop := by
    simp only [successor]
    exact h.noLoop

/-- R47: every descriptor of a port heads a chain; a rank that rises along links bounds its length. -/
theorem State.ChainsSound.chainFrom {s : State} (h : s.ChainsSound) {p : Port} {d : DescIdx}
    (own : (s.desc d).ownedBy p = true) : ∃ cs, s.ChainFrom p d cs := by
  obtain ⟨rank, rises⟩ := h.noLoop
  obtain ⟨top, bound⟩ := (Set.finite_range rank).bddAbove
  have below (x : DescIdx) : rank x ≤ top := bound (Set.mem_range_self x)
  suffices ∃ cs, s.ChainFrom p d cs ∧ ∀ x ∈ cs, rank d < rank x from this.imp fun _ => And.left
  induction hn : top - rank d using Nat.strong_induction_on generalizing d with
  | _ n ih =>
    cases hs : (s.desc d).successor with
    | none => exact ⟨[], ⟨own, hs⟩, nofun⟩
    | some e =>
      obtain ⟨-, held, owner⟩ := h.link d e hs
      have up := rises d e hs
      have ownE : (s.desc e).ownedBy p = true :=
        (Desc.ownedBy_iff _ p).2 ⟨by simp [Desc.live, held], owner.trans (((s.desc d).ownedBy_iff p).1 own).2⟩
      have := below e
      obtain ⟨cs, chain, above⟩ := ih (top - rank e) (by omega) ownE rfl
      have higher : ∀ x ∈ e :: cs, rank d < rank x :=
        List.forall_mem_cons.2 ⟨up, fun x hx => up.trans (above x hx)⟩
      exact ⟨e :: cs, ⟨own, hs, held, fun hd => (higher d hd).false, chain⟩, higher⟩

/-- R47: the chain behind a descriptor, as the model walks it. -/
theorem State.ChainFrom.chainAfter_eq {s : State} {p : Port} {d : DescIdx} {cs : List DescIdx} (h : s.ChainFrom p d cs)
    {fuel : Nat} (hf : cs.length < fuel) : s.chainAfter fuel d = cs := by
  induction cs generalizing d fuel with
  | nil =>
    obtain ⟨fuel, rfl⟩ := Nat.exists_eq_succ_of_ne_zero (Nat.ne_of_gt hf)
    rw [State.chainAfter, h.2]
  | cons e cs ih =>
    obtain ⟨fuel, rfl⟩ := Nat.exists_eq_succ_of_ne_zero (Nat.ne_of_gt ((Nat.zero_le _).trans_lt hf))
    obtain ⟨-, succ, -, -, rest⟩ := h
    simp only [State.chainAfter, succ, ih rest (Nat.lt_of_succ_lt_succ hf)]

theorem State.ChainFrom.chainAfter {s : State} {p : Port} {d : DescIdx} {cs : List DescIdx} (h : s.ChainFrom p d cs) :
    s.chainAfter chainFuel d = cs :=
  h.chainAfter_eq (h.length_lt.trans (by decide))

/-! ### Retirement -/

theorem Desc.unlinked_state (x : Desc) (ds : List DescIdx) : (x.unlinked ds).state = x.state := by
  unfold Desc.unlinked
  split
  · split <;> rfl
  · rfl

theorem Desc.unlinked_owner (x : Desc) (ds : List DescIdx) : (x.unlinked ds).owner = x.owner := by
  unfold Desc.unlinked
  split
  · split <;> rfl
  · rfl

/-- R34 step 2: the links that stand after some descriptors' are cleared. -/
theorem Desc.unlinked_successor (x : Desc) (ds : List DescIdx) (e : DescIdx) :
    (x.unlinked ds).successor = some e ↔ x.successor = some e ∧ e ∉ ds := by
  unfold Desc.unlinked
  split
  · next f hf =>
    split
    · next hmem => simp only [hf, reduceCtorEq, Option.some.injEq, false_iff, not_and, not_not]; exact fun h => h ▸ hmem
    · next hmem => simp only [hf, Option.some.injEq, iff_self_and]; exact fun h => h ▸ hmem
  · next hnone => simp [hnone]

/-- R34, R61: descriptors that retire with all that is chained behind them. -/
theorem State.ChainsSound.retired {s t : State} (h : s.ChainsSound) {ds : List DescIdx} (r : s.Retired t ds)
    (closed : ∀ x ∈ ds, ∀ y, (s.desc x).successor = some y → y ∈ ds) : t.ChainsSound := by
  have stays {d : DescIdx} (hd : (t.desc d).live = true) : d ∉ ds := fun hmem => by
    rw [r.free d hmem] at hd
    cases hd
  have link (d e : DescIdx) : (t.desc d).successor = some e ↔ (s.desc d).successor = some e ∧ d ∉ ds ∧ e ∉ ds := by
    by_cases hd : d ∈ ds
    · simp [r.free d hd, hd, Desc.blank]
    · rw [r.others d hd, Desc.unlinked_successor]
      simp [hd]
  refine ⟨fun d e hde => ?_, fun d d' e hd hd' => h.one d d' e ((link d e).1 hd).1 ((link d' e).1 hd').1, fun e he => ?_,
    h.noLoop.imp fun rank rises d e hde => rises d e ((link d e).1 hde).1⟩
  · obtain ⟨hs, hd, he⟩ := (link d e).1 hde
    rw [r.others d hd, r.others e he, Desc.unlinked_state, Desc.unlinked_owner, Desc.unlinked_owner, Desc.live_iff,
      Desc.unlinked_state, ← Desc.live_iff]
    exact h.link d e hs
  · have hmem := stays (d := e) (by simp [Desc.live, he])
    rw [r.others e hmem, Desc.unlinked_state] at he
    obtain ⟨d, hd⟩ := h.held e he
    exact ⟨d, (link d e).2 ⟨hd, fun hds => hmem (closed d hds e hd), hmem⟩⟩

/-- R61, R62: a descriptor that is sent and the successor it releases. -/
theorem State.ChainsSound.released {s t : State} (h : s.ChainsSound) {d c : DescIdx} {stop : Time}
    (r : s.Released t d c stop) (hdc : (s.desc d).successor = some c) : t.ChainsSound := by
  obtain ⟨rank, rises⟩ := h.noLoop
  have hcd : c ≠ d := fun e => (rises d c hdc).ne (congrArg rank e.symm)
  have link (a b : DescIdx) : (t.desc a).successor = some b ↔ (s.desc a).successor = some b ∧ a ≠ d ∧ b ≠ d := by
    by_cases had : a = d
    · simp [had, r.gone, Desc.blank]
    by_cases hac : a = c
    · rw [hac, r.released]
      refine ⟨fun hb => ⟨hb, hcd, ?_⟩, And.left⟩
      rintro rfl
      exact ((rises _ c hdc).trans (rises c _ hb)).false
    · rw [r.others a had hac, Desc.unlinked_successor, List.mem_singleton]
      simp [had]
  have other {a b : DescIdx} (hb : (s.desc a).successor = some b) (had : a ≠ d) (hbd : b ≠ d) :
      b ≠ c ∧ t.desc b = (s.desc b).unlinked [d] := by
    have hbc : b ≠ c := fun e => had (h.one a d c (e ▸ hb) hdc)
    exact ⟨hbc, r.others b hbd hbc⟩
  have kept (a : DescIdx) (had : a ≠ d) (live : (s.desc a).live = true) :
      (t.desc a).live = true ∧ (t.desc a).owner = (s.desc a).owner := by
    by_cases hac : a = c
    · rw [hac, r.released]
      exact ⟨rfl, rfl⟩
    · rw [r.others a had hac, Desc.live_iff, Desc.unlinked_state, ← Desc.live_iff, Desc.unlinked_owner]
      exact ⟨live, rfl⟩
  refine ⟨fun a b hab => ?_, fun a a' b ha ha' => h.one a a' b ((link a b).1 ha).1 ((link a' b).1 ha').1, fun b hb => ?_,
    rank, fun a b hab => rises a b ((link a b).1 hab).1⟩
  · obtain ⟨hs, had, hbd⟩ := (link a b).1 hab
    obtain ⟨live, held, owner⟩ := h.link a b hs
    obtain ⟨liveT, ownerT⟩ := kept a had live
    rw [(other hs had hbd).2, Desc.unlinked_state, Desc.unlinked_owner, ownerT]
    exact ⟨liveT, held, owner⟩
  · have hbd : b ≠ d := by
      rintro rfl
      simp [r.gone, Desc.blank] at hb
    have hbc : b ≠ c := by
      rintro rfl
      simp [r.released] at hb
    rw [r.others b hbd hbc, Desc.unlinked_state] at hb
    obtain ⟨a, ha⟩ := h.held b hb
    have had : a ≠ d := by
      rintro rfl
      exact hbc (Option.some.inj (ha.symm.trans hdc))
    exact ⟨a, (link a b).2 ⟨ha, had, hbd⟩⟩

/-- R34: a descriptor with no successor retires alone. -/
theorem State.retireNow_alone {s : State} {d : DescIdx} (live : (s.desc d).live = true)
    (alone : (s.desc d).successor = none) (o : FrameOutcome) (stop : Time) (defer : Option Port) :
    s.Retired (s.retireNow d o stop defer) [d] := by
  obtain ⟨ps, hps⟩ := s.announce_ports d o stop
  have stands : State.followChain 48 d o stop defer ((s.announce d o stop).unlink d) =
      (s.announce d o stop).unlink d := by
    have none : (((s.announce d o stop).unlink d).desc d).successor = none := by
      rw [hps, State.desc_unlink]
      split
      · rfl
      · exact alone
    rw [State.followChain, none]
  obtain ⟨ps', hps'⟩ := (((s.announce d o stop).unlink d).vacate d).conclude_ports (s.desc d).owner defer
  have steps : s.retireNow d o stop defer = State.retire (48 + 1) d o stop defer s := rfl
  rw [steps, s.retire_succ 48 d o stop defer live, stands, hps', hps]
  exact (State.Retired.cons (s := { s with ports := ps }) (.refl _)).ports s.ports ps'

/-- R39, R47: an orphan has no successor. -/
theorem State.ChainsSound.orphan {s : State} (h : s.ChainsSound) (sched : s.ScheduleSound) {d : DescIdx}
    (orphan : (s.desc d).owner = none) : (s.desc d).successor = none := by
  cases hs : (s.desc d).successor with
  | none => rfl
  | some e =>
    obtain ⟨-, held, owner⟩ := h.link d e hs
    have := sched.owned e (by simp [Desc.live, held]) (owner.trans orphan)
    simp [held] at this

/-- R34, R61: a retirement keeps the chains sound; the frames that are sent are those whose session's completion is not left
to a command. -/
theorem State.ChainsSound.retireNow {s : State} (h : s.ChainsSound) (sched : s.ScheduleSound) (d : DescIdx)
    (o : FrameOutcome) (stop : Time) (defer : Option Port) (ho : o.releases = true → defer = none) :
    (s.retireNow d o stop defer).ChainsSound := by
  by_cases live : (s.desc d).live = true
  case neg =>
    have : s.retireNow d o stop defer = s := s.retire_of_not_live chainFuel d o stop defer (Bool.eq_false_iff.2 live)
    rwa [this]
  have single (alone : (s.desc d).successor = none) : (s.retireNow d o stop defer).ChainsSound := by
    refine h.retired (State.retireNow_alone live alone o stop defer) fun x hx y hy => ?_
    rw [List.mem_singleton.1 hx, alone] at hy
    cases hy
  cases howner : (s.desc d).owner with
  | none => exact single (h.orphan sched howner)
  | some p =>
    obtain ⟨cs, chain⟩ := h.chainFrom (p := p) ((Desc.ownedBy_iff _ p).2 ⟨live, howner⟩)
    have whole {t : State} (r : s.Retired t (d :: cs)) : t.ChainsSound :=
      h.retired r fun x hx y hy => List.mem_cons_of_mem d (chain.successor_mem hx hy)
    cases hr : o.releases with
    | false => exact whole (State.retireNow_chain chain hr stop defer).retired
    | true =>
      rw [ho hr] at single ⊢
      cases cs with
      | nil => exact single chain.2
      | cons c cs =>
        cases hopen : (s.desc c).expiry.open_ s.clock.time with
        | false => exact whole (State.retireNow_expire chain hr stop hopen).retired
        | true =>
          obtain ⟨ps, hps⟩ :=
            ((((s.announce d o stop).unlink d).release c stop).vacate d).conclude_ports (some p) none
          rw [State.retireNow_release chain hr stop hopen, hps]
          exact h.released (State.released_vacate chain o stop ps) chain.2.1

/-! ### Discards, allocation and admission -/

/-- R38, R39: a discard takes whole chains, and an orphan has no successor. -/
theorem State.ChainsSound.discardAll {s : State} (h : s.ChainsSound) (p : Port) : (s.discardAll p).ChainsSound := by
  have desc (d : DescIdx) (hd : ¬ (s.desc d).ownedBy p = true) : (s.discardAll p).desc d = s.desc d := by
    rw [State.desc_discardAll, Desc.afterReset, if_neg hd]
  have gone (d : DescIdx) (hd : (s.desc d).ownedBy p = true) :
      ((s.discardAll p).desc d).successor = none ∧ ((s.discardAll p).desc d).state ≠ .held := by
    rw [State.desc_discardAll, Desc.afterReset, if_pos hd]
    split
    · next hon => simp [hon]
    · exact ⟨rfl, nofun⟩
  have apart {d e : DescIdx} (hde : (s.desc d).successor = some e) :
      (s.desc d).ownedBy p = true ↔ (s.desc e).ownedBy p = true := by
    obtain ⟨live, held, owner⟩ := h.link d e hde
    have liveE : (s.desc e).live = true := by simp [Desc.live, held]
    rw [Desc.ownedBy_iff, Desc.ownedBy_iff, owner, live, liveE]
  have link {d e : DescIdx} (hde : ((s.discardAll p).desc d).successor = some e) :
      (s.desc d).successor = some e ∧ ¬ (s.desc d).ownedBy p = true ∧ ¬ (s.desc e).ownedBy p = true := by
    by_cases hd : (s.desc d).ownedBy p = true
    · rw [(gone d hd).1] at hde
      cases hde
    · rw [desc d hd] at hde
      exact ⟨hde, hd, fun he => hd ((apart hde).2 he)⟩
  refine ⟨fun d e hde => ?_, fun d d' e hd hd' => h.one d d' e (link hd).1 (link hd').1, fun e he => ?_,
    h.noLoop.imp fun rank rises d e hde => rises d e (link hde).1⟩
  · obtain ⟨hs, hd, he⟩ := link hde
    rw [desc d hd, desc e he]
    exact h.link d e hs
  · have hp : ¬ (s.desc e).ownedBy p = true := fun hown => (gone e hown).2 he
    rw [desc e hp] at he
    obtain ⟨d, hd⟩ := h.held e he
    exact ⟨d, by rw [desc d fun hown => hp ((apart hd).1 hown), hd]⟩

/-- R25: a FREE record taken by a frame with no links. -/
theorem State.ChainsSound.allocate {s t : State} (h : s.ChainsSound) {d : DescIdx} {x : Desc}
    (free : (s.desc d).live = false) (alone : x.successor = none) (unheld : x.state ≠ .held)
    (desc : ∀ e, t.desc e = if e = d then x else s.desc e) : t.ChainsSound := by
  have link {a b : DescIdx} (hab : (t.desc a).successor = some b) : (s.desc a).successor = some b ∧ a ≠ d ∧ b ≠ d := by
    rw [desc] at hab
    split at hab
    · rw [alone] at hab
      cases hab
    · next had =>
      refine ⟨hab, had, ?_⟩
      rintro rfl
      simp [Desc.live, (h.link a _ hab).2.1] at free
  refine ⟨fun a b hab => ?_, fun a a' b ha ha' => h.one a a' b (link ha).1 (link ha').1, fun b hb => ?_,
    h.noLoop.imp fun rank rises a b hab => rises a b (link hab).1⟩
  · obtain ⟨hs, had, hbd⟩ := link hab
    rw [desc, desc, if_neg had, if_neg hbd]
    exact h.link a b hs
  · rw [desc] at hb
    split at hb
    · exact absurd hb unheld
    · obtain ⟨a, ha⟩ := h.held b hb
      have had : a ≠ d := by
        rintro rfl
        rw [(h.link _ b ha).1] at free
        cases free
      exact ⟨a, by rw [desc, if_neg had, ha]⟩

/-- R55, R56: a LOADING frame of p's becomes HELD behind e, which has no successor and is not chained behind it. -/
theorem State.ChainsSound.admitChained {s t : State} (h : s.ChainsSound) {p : Port} {d e : DescIdx} {x : Desc}
    (loading : (s.desc d).state = .loading) (own : (s.desc d).ownedBy p = true) (ownE : (s.desc e).ownedBy p = true)
    (hed : e ≠ d) (behind : e ∉ s.chainAfter chainFuel d) (last : (s.desc e).successor = none)
    (held : x.state = .held) (owner : x.owner = (s.desc d).owner) (succ : x.successor = (s.desc d).successor)
    (desc : ∀ a, t.desc a = if a = d then x else if a = e then { s.desc e with successor := some d } else s.desc a) :
    t.ChainsSound := by
  obtain ⟨cs, chain⟩ := h.chainFrom own
  rw [chain.chainAfter] at behind
  obtain ⟨rank, rises⟩ := h.noLoop
  have headed (a : DescIdx) : (s.desc a).successor ≠ some d := fun ha => by
    have := (h.link a d ha).2.1
    simp [loading] at this
  have link (a b : DescIdx) : (t.desc a).successor = some b ↔ (s.desc a).successor = some b ∨ (a = e ∧ b = d) := by
    rw [desc]
    split
    · next had => simp [had, succ, Ne.symm hed]
    · split
      · next hae => simp [hae, last, eq_comm]
      · next hae => simp [hae]
  have same (a : DescIdx) : (t.desc a).owner = (s.desc a).owner ∧ ((s.desc a).live = true → (t.desc a).live = true) ∧
      ((t.desc a).state = .held ↔ (s.desc a).state = .held ∨ a = d) := by
    rw [desc]
    split
    · next had => simp [had, owner, Desc.live, held]
    · next had =>
      split
      · next hae => simp [hae, Desc.live, hed]
      · simp [had]
  obtain ⟨liveE, ownerE⟩ := ((s.desc e).ownedBy_iff p).1 ownE
  refine ⟨fun a b hab => ?_, fun a a' b ha ha' => ?_, fun b hb => ?_,
    fun a => rank a + if a ∈ d :: cs then rank e + 1 else 0, fun a b hab => ?_⟩
  · rw [(same a).1, (same b).1, (same b).2.2]
    rcases (link a b).1 hab with hs | ⟨rfl, rfl⟩
    · obtain ⟨live, held, owner⟩ := h.link a b hs
      exact ⟨(same a).2.1 live, .inl held, owner⟩
    · exact ⟨(same a).2.1 liveE, .inr rfl, (((s.desc b).ownedBy_iff p).1 own).2.trans ownerE.symm⟩
  · rcases (link a b).1 ha with hs | ⟨rfl, rfl⟩ <;> rcases (link a' _).1 ha' with hs' | ⟨rfl, hb⟩
    · exact h.one a a' b hs hs'
    · exact absurd (hb ▸ hs) (headed a)
    · exact absurd hs' (headed a')
    · rfl
  · rcases (same b).2.2.1 hb with hs | rfl
    · obtain ⟨a, ha⟩ := h.held b hs
      exact ⟨a, (link a b).2 (.inl ha)⟩
    · exact ⟨e, (link e b).2 (.inr ⟨rfl, rfl⟩)⟩
  · dsimp only
    rcases (link a b).1 hab with hs | ⟨rfl, rfl⟩
    · have up := rises a b hs
      by_cases ha : a ∈ d :: cs
      · have hb := List.mem_cons_of_mem d (chain.successor_mem ha hs)
        simpa only [if_pos ha, if_pos hb] using Nat.add_lt_add_right up _
      · rw [if_neg ha]
        omega
    · have out : a ∉ b :: cs := fun hmem => (List.mem_cons.1 hmem).elim hed behind
      rw [if_neg out, if_pos List.mem_cons_self]
      omega

end Sys2Proof.Machine
end

section
/-! Reserved times (O58): signed offsets of times from now, the bounds of a reservation, and intervals that stay apart. -/

namespace Sys2Proof.Machine

/-! ### Times as offsets from now -/

/-- R3: how far t lies ahead of now, negative when it lies behind. -/
def offset (now t : Time) : Int := (t - now).toInt

theorem offset_eq_distance {now t : Time} (h : distance now t < 2 ^ 31) : offset now t = distance now t := by
  unfold distance at h
  unfold offset distance
  rw [BitVec.toInt_eq_toNat_cond]
  split <;> omega

theorem offset_eq_neg_distance {now t : Time} (h : distance t now < 2 ^ 31) : offset now t = -distance t now := by
  have : (t - now).toNat = (2 ^ 32 - (now - t).toNat) % 2 ^ 32 := by
    simp only [BitVec.toNat_sub]; omega
  unfold distance at h
  unfold offset distance
  rw [BitVec.toInt_eq_toNat_cond]
  split <;> omega

/-- R3: an offset counts from now. -/
theorem offset_plus {now t : Time} {n : Nat} (h : offset now t + n < 2 ^ 31) :
    offset now (plus t n) = offset now t + n := by
  have : (plus t n - now).toNat = ((t - now).toNat + n) % 2 ^ 32 := by
    simp only [plus, BitVec.toNat_sub, BitVec.toNat_add, BitVec.toNat_ofNat]; omega
  unfold offset at h ⊢
  rw [BitVec.toInt_eq_toNat_cond] at h ⊢
  rw [BitVec.toInt_eq_toNat_cond]
  split at h <;> split <;> omega

theorem offset_self (now : Time) : offset now now = 0 := by simp [offset]

/-- R3: of times that lie less than half the count apart, the one before has the lower offset. -/
theorem before_iff_offset (now : Time) {a b : Time} (h : |offset now b - offset now a| < 2 ^ 31) :
    before a b = true ↔ offset now a < offset now b := by
  have : (b - a).toNat = ((b - now).toNat + (2 ^ 32 - (a - now).toNat)) % 2 ^ 32 := by
    simp only [BitVec.toNat_sub]; omega
  rw [abs_lt] at h
  unfold offset at h ⊢
  have ha := (a - now).isLt
  have hb := (b - now).isLt
  rw [before, distance, this, decide_eq_true_iff]
  rw [BitVec.toInt_eq_toNat_cond, BitVec.toInt_eq_toNat_cond] at *
  split at h <;> split at h <;> omega

end Sys2Proof.Machine
end

section
/-! Reserved times, continued: what the plan of a part is, and what a step that leaves it, thins it out or rests the line
keeps (O57, O58). -/

namespace Sys2Proof.Machine

/-! ### The plan -/

/-- A record without what neither its reservation nor its chain rests on. -/
def Desc.plan (x : Desc) : Desc :=
  { x with
    coding := .nrz, carrier := .on, priority := none, strobeStart := false, strobeEnd := false, fill := 0, slip := none
    notBefore := none, expiry := .absent, predTag := none, offset := none, admission := none, bypass := 0
    eligible := false, repsSent := 0, mismatches := 0, truncate := false }

/-- A step that touches nothing of what is planned: the records, the schedule, the line, the time and the profile. -/
structure State.SamePlan (s t : State) : Prop where
  records : ∀ d, (t.desc d).plan = (s.desc d).plan
  sched : t.sched = s.sched
  disp : t.disp = s.disp
  activity : t.enc.activity = s.enc.activity
  time : t.clock.time = s.clock.time
  active : t.prof.active = s.prof.active

theorem State.SamePlan.symm {s t : State} (h : s.SamePlan t) : t.SamePlan s :=
  ⟨fun d => (h.1 d).symm, h.2.symm, h.3.symm, h.4.symm, h.5.symm, h.6.symm⟩

theorem State.SamePlan.of_eq {s t : State}
    (h : (t.store.descs, t.sched, t.disp, t.enc.activity, t.clock.time, t.prof.active) =
      (s.store.descs, s.sched, s.disp, s.enc.activity, s.clock.time, s.prof.active)) : s.SamePlan t := by
  simp only [Prod.mk.injEq] at h
  obtain ⟨store, sched, disp, activity, time, active⟩ := h
  exact ⟨fun d => by rw [State.desc, store, State.desc], sched, disp, activity, time, active⟩

theorem State.samePlan_modDesc (s : State) (d : DescIdx) (f : Desc → Desc) (h : (f (s.desc d)).plan = (s.desc d).plan) :
    s.SamePlan (s.modDesc d f) :=
  ⟨s.modDesc_relates (R := fun x y => y.plan = x.plan) (fun _ => rfl) d f h, rfl, rfl, rfl, rfl, rfl⟩

/-- What the plan keeps of a record reads as before. -/
theorem State.SamePlan.read {s t : State} (h : s.SamePlan t) {α : Type} (f : Desc → α) (hf : ∀ x : Desc, f x.plan = f x)
    (d : DescIdx) : f (t.desc d) = f (s.desc d) := by
  rw [← hf, h.records d, hf]

/-! ### Listed reservations -/

/-- What a reservation and the frame's time on the line rest on. -/
def Desc.span (x : Desc) : Option Time × Option Time × Option Time × (Profile → Nat) :=
  (x.start, x.resStart, x.resEnd, x.reservation)

/-- A step that at most takes descriptors out of the timed list. -/
structure State.Thins (s t : State) : Prop where
  timed : t.sched.timed.Sublist s.sched.timed
  spans : ∀ d ∈ t.sched.timed, (t.desc d).span = (s.desc d).span
  time : t.clock.time = s.clock.time
  active : t.prof.active = s.prof.active

theorem State.Thins.refl (s : State) : s.Thins s := ⟨.refl _, fun _ _ => rfl, rfl, rfl⟩

theorem State.Thins.trans {s t u : State} (h : s.Thins t) (k : t.Thins u) : s.Thins u :=
  ⟨k.timed.trans h.timed, fun d hd => (k.spans d hd).trans (h.spans d (k.timed.subset hd)), k.time.trans h.time,
    k.active.trans h.active⟩

theorem State.SamePlan.thins {s t : State} (h : s.SamePlan t) : s.Thins t :=
  ⟨by rw [h.sched], fun d _ => h.read Desc.span (fun _ => rfl) d, h.time, h.active⟩

theorem Desc.span_eq {x y : Desc} (h : y.span = x.span) :
    y.start = x.start ∧ y.resStart = x.resStart ∧ y.resEnd = x.resEnd ∧ y.reservation = x.reservation := by
  simpa [Desc.span] using h

/-- R42: intervals stay apart while the list only loses some. -/
theorem State.ListedApart.thin {s t : State} (h : s.ListedApart) (timed : t.sched.timed.Sublist s.sched.timed)
    (spans : ∀ d ∈ t.sched.timed, (t.desc d).span = (s.desc d).span) : t.ListedApart := fun d hd e he => by
  obtain ⟨-, dStart, dEnd, -⟩ := Desc.span_eq (spans d hd)
  obtain ⟨-, eStart, eEnd, -⟩ := Desc.span_eq (spans e he)
  rw [dStart, dEnd, eStart, eEnd]
  exact h d (timed.subset hd) e (timed.subset he)

/-- R42: the order stays while the list only loses some. -/
theorem State.ListOrdered.thin {s t : State} (h : s.ListOrdered) (timed : t.sched.timed.Sublist s.sched.timed)
    (spans : ∀ d ∈ t.sched.timed, (t.desc d).span = (s.desc d).span) (active : t.prof.active = s.prof.active) :
    t.ListOrdered where
  ordered := (h.ordered.sublist timed).imp_of_mem fun {d e} hd he hde => by
    rw [(Desc.span_eq (spans d hd)).1, (Desc.span_eq (spans e he)).1]
    exact hde
  lengths d hd := by
    obtain ⟨start, -, stop, length⟩ := Desc.span_eq (spans d hd)
    rw [start, stop, length, active]
    exact h.lengths d (timed.subset hd)

/-- R15, R42, R50, R128: the timed list of a part whose events are taken in time. -/
structure State.ListTimely (s : State) : Prop where
  store : s.StoreSound
  active : ∀ f : ProfileField, f.inRange (s.prof.active.field f) = true
  listed : ∀ d ∈ s.sched.timed, ∀ a, (s.desc d).start = some a →
    distance s.clock.time a ≤ 2 ^ 30 ∨ distance a s.clock.time ≤ 2 ^ 16
  apart : s.ListedApart
  ordered : s.ListOrdered

/-- R43: the line of a part whose events are taken in time, and the list beside it. -/
structure State.LineTimely (s : State) : Prop where
  line : ∀ d, s.disp.slot = some d → ∃ a, (s.desc d).actualStart = some a ∧
    distance a s.clock.time + s.prof.active.guard ≤ distance a s.disp.plannedEnd ∧
    distance a s.disp.plannedEnd ≤ 72224752
  apart : s.ApartFromLine

theorem State.ListTimely.thin {s t : State} (h : s.ListTimely) (k : s.Thins t) (store : t.StoreSound) :
    t.ListTimely where
  store := store
  active := k.active ▸ h.active
  listed d hd := by
    rw [(Desc.span_eq (k.spans d hd)).1, k.time]
    exact h.listed d (k.timed.subset hd)
  apart := h.apart.thin k.timed k.spans
  ordered := h.ordered.thin k.timed k.spans k.active

/-! ### The line -/

/-- R43: the occupied interval of a line that carries a frame or its guard. -/
theorem State.occupied_eq (s : State) : s.occupied = if s.disp.line = .busy ∨ s.disp.line = .draining then
    match s.disp.slot with
    | some d => some ((s.desc d).actualStart.getD s.clock.time, s.disp.plannedEnd)
    | none => if s.disp.phase = some .guard then some (s.clock.time, s.disp.guardEnd) else none
  else none := rfl

/-- R43: the occupied interval rests on the line, its slot, its phase and the ends it has in hand. -/
theorem State.occupied_congr {s t : State} (line : t.disp.line.Carries ↔ s.disp.line.Carries)
    (slot : t.disp.slot = s.disp.slot) (phase : s.disp.slot = none → t.disp.phase = s.disp.phase)
    (ends : (t.disp.plannedEnd, t.disp.guardEnd) = (s.disp.plannedEnd, s.disp.guardEnd))
    (time : t.clock.time = s.clock.time)
    (start : ∀ d, s.disp.slot = some d → (t.desc d).actualStart = (s.desc d).actualStart) :
    t.occupied = s.occupied := by
  simp only [Prod.mk.injEq] at ends
  rw [State.occupied_eq, State.occupied_eq, slot, ends.1, ends.2, time]
  simp only [LineState.Carries] at line
  cases hs : s.disp.slot with
  | none => simp only [line, phase hs]
  | some d => simp only [line, start d hs]

/-- R43: a line in no guard and with no frame on it occupies nothing. -/
theorem State.occupied_rest {s : State} (slot : s.disp.slot = none) (phase : s.disp.phase ≠ some .guard) :
    s.occupied = none := by
  rw [State.occupied_eq, slot]
  simp [phase]

theorem State.LineTimely.of_rest {t : State} (slot : t.disp.slot = none) (phase : t.disp.phase ≠ some .guard) :
    t.LineTimely where
  line d hd := by simp [slot] at hd
  apart i hi := by simp [State.occupied_rest slot phase] at hi

/-- R43: the frame on the line goes on as planned while the list only loses some. -/
theorem State.LineTimely.thin {s t : State} (h : s.LineTimely) (k : s.Thins t)
    (line : t.disp.line.Carries ↔ s.disp.line.Carries) (slot : t.disp.slot = s.disp.slot)
    (phase : s.disp.slot = none → t.disp.phase = s.disp.phase)
    (ends : (t.disp.plannedEnd, t.disp.guardEnd) = (s.disp.plannedEnd, s.disp.guardEnd))
    (start : ∀ d, s.disp.slot = some d → (t.desc d).actualStart = (s.desc d).actualStart) : t.LineTimely where
  line d hd := by
    rw [slot] at hd
    rw [start d hd, k.time, k.active, (Prod.mk.inj ends).1]
    exact h.line d hd
  apart i hi d hd := by
    obtain ⟨-, resStart, resEnd, -⟩ := Desc.span_eq (k.spans d hd)
    rw [State.occupied_congr line slot phase ends k.time start] at hi
    rw [resStart, resEnd]
    exact h.apart i hi d (k.timed.subset hd)

/-! ### Steps that keep a plan -/

/-- What every step but TICK and COMMIT does: schedule, line and store stay sound, and then the chains do, and the
reserved times, while events are taken in time. -/
structure State.KeepsPlan (s t : State) : Prop where
  sound : s.KeepsSound t
  chains : s.Sound → s.ChainsSound → t.ChainsSound
  listed : s.Sound → s.ListedApart → t.ListedApart
  timely : s.Sound → s.ListTimely → s.LineTimely → t.ListTimely ∧ t.LineTimely

theorem State.KeepsPlan.refl (s : State) : s.KeepsPlan s := ⟨.refl s, fun _ => id, fun _ => id, fun _ => And.intro⟩

theorem State.KeepsPlan.trans {s t u : State} (h : s.KeepsPlan t) (k : t.KeepsPlan u) : s.KeepsPlan u where
  sound := h.sound.trans k.sound
  chains hs := k.chains (h.sound hs).1 ∘ h.chains hs
  listed hs := k.listed (h.sound hs).1 ∘ h.listed hs
  timely hs hlist hline :=
    have ⟨list, line⟩ := h.timely hs hlist hline
    k.timely (h.sound hs).1 list line

/-- A step that at most takes descriptors out of the timed list. -/
theorem State.KeepsPlan.of_thins {s t : State} (sound : s.KeepsSound t) (k : s.Thins t)
    (chains : s.Sound → s.ChainsSound → t.ChainsSound) (line : s.Sound → s.ListTimely → s.LineTimely → t.LineTimely) :
    s.KeepsPlan t :=
  ⟨sound, chains, fun _ h => h.thin k.timed k.spans,
    fun hs list hline => ⟨list.thin k ((sound hs).2 list.store), line hs list hline⟩⟩

theorem State.SamePlan.keepsSound {s t : State} (h : s.SamePlan t) : s.KeepsSound t := by
  refine .of_records (by rw [h.sched, h.disp, h.activity]) (fun d => .of_eq ?_) fun d => .of_eq ?_
  · exact h.read (fun x => (x.live, x.tag, x.bodyBits, x.preBits, x.reps, x.gap, x.segs, x.owner)) (fun _ => rfl) d
  · exact h.read (fun x => (x.state, x.cls, x.start, x.resStart, x.resEnd, x.owner)) (fun _ => rfl) d

theorem State.SamePlan.chainsSound {s t : State} (h : s.SamePlan t) (k : s.ChainsSound) : t.ChainsSound :=
  k.congr (h.read Desc.live fun _ => rfl) (fun d => by rw [h.read Desc.state fun _ => rfl])
    (h.read Desc.owner fun _ => rfl) (h.read Desc.successor fun _ => rfl)

/-- A step that touches nothing of what is planned. -/
theorem State.SamePlan.keepsPlan {s t : State} (h : s.SamePlan t) : s.KeepsPlan t :=
  .of_thins h.keepsSound h.thins (fun _ => h.chainsSound) fun _ _ k =>
    k.thin h.thins (by rw [h.disp]) (by rw [h.disp]) (fun _ => by rw [h.disp]) (by rw [h.disp]) fun d _ =>
      h.read Desc.actualStart (fun _ => rfl) d

/-- A step of the line that leaves it at rest, or as it was. -/
theorem State.KeepsPlan.of_line {s t : State} (sound : s.KeepsSound t) (store : t.store.descs = s.store.descs)
    (base : (t.sched, t.clock.time, t.prof.active) = (s.sched, s.clock.time, s.prof.active))
    (line : s.Sound → s.LineTimely → t.LineTimely) : s.KeepsPlan t := by
  simp only [Prod.mk.injEq] at base
  obtain ⟨sched, time, active⟩ := base
  have desc (d : DescIdx) : t.desc d = s.desc d := by rw [State.desc, store, State.desc]
  refine .of_thins sound ⟨by rw [sched], fun d _ => by rw [desc], time, active⟩ (fun _ h => ?_) fun hs _ => line hs
  exact h.congr (fun d => by rw [desc]) (fun d => by rw [desc]) (fun d => by rw [desc]) fun d => by rw [desc]

theorem State.keepsPlan_modPort (s : State) (p : Port) (f : PortState → PortState) : s.KeepsPlan (s.modPort p f) :=
  State.SamePlan.keepsPlan (.of_eq rfl)

theorem State.keepsPlan_reply (s : State) {p : Port} {code tag : Byte} {r : ResultCode} {data : ReplyData} :
    s.KeepsPlan (s.reply p code tag r data) :=
  State.SamePlan.keepsPlan (.of_eq rfl)

/-- A command that acts and then answers. -/
theorem State.KeepsPlan.reply {s t : State} (h : s.KeepsPlan t) {p : Port} {code tag : Byte} {r : ResultCode}
    {data : ReplyData} : s.KeepsPlan (t.reply p code tag r data) :=
  h.trans t.keepsPlan_reply

/-- A check of a command: the REPLY that refuses it, or what follows where the check passes. -/
theorem State.KeepsPlan.check {s t : State} {c : Prop} [Decidable c] {p : Port} {code tag : Byte} {r : ResultCode}
    {data : ReplyData} (h : ¬ c → s.KeepsPlan t) : s.KeepsPlan (if c then s.reply p code tag r data else t) := by
  split
  · exact s.keepsPlan_reply
  · next hc => exact h hc

theorem State.keepsPlan_modDesc (s : State) (d : DescIdx) (f : Desc → Desc) (h : (f (s.desc d)).plan = (s.desc d).plan) :
    s.KeepsPlan (s.modDesc d f) :=
  (s.samePlan_modDesc d f h).keepsPlan

theorem State.keepsPlan_complete (s : State) (p : Port) : s.KeepsPlan (s.complete p) := by
  rcases s.complete_cases p with ⟨-, e⟩ | ⟨-, -, e⟩ <;> rw [e]
  · exact .refl s
  · exact s.keepsPlan_modPort p _

theorem State.profReleased_active (s : State) (p : Port) : (s.profReleased p).active = s.prof.active := by
  unfold State.profReleased
  split <;> rfl

theorem State.keepsPlan_releaseClaim (s : State) (p : Port) : s.KeepsPlan (s.releaseClaim p) := by
  rw [State.releaseClaim_eq]
  exact State.SamePlan.keepsPlan ⟨fun _ => rfl, rfl, rfl, rfl, rfl, s.profReleased_active p⟩

theorem State.keepsPlan_markOnLine (s : State) (p : Port) : s.KeepsPlan (s.markOnLine p) := by
  unfold State.markOnLine
  split
  · split
    · exact s.keepsPlan_modDesc _ _ rfl
    · exact .refl s
  · exact .refl s

theorem State.keepsPlan_strobeFor (s : State) (owner : Option Port) (asked : Bool) :
    s.KeepsPlan (s.strobeFor owner asked) := by
  obtain ⟨ps, e⟩ := s.strobeFor_ports owner asked
  rw [e]
  exact State.SamePlan.keepsPlan (.of_eq rfl)

end Sys2Proof.Machine
end

section
/-! Reserved times, continued: retirements, discards, and the line at rest (O57, O58). -/

namespace Sys2Proof.Machine

/-! ### Retirement -/

theorem Desc.unlink_span (s : State) (d e : DescIdx) : ((s.unlink d).desc e).span = (s.desc e).span ∧
    ((s.unlink d).desc e).actualStart = (s.desc e).actualStart := by
  rw [State.desc_unlink]
  split <;> exact ⟨rfl, rfl⟩

/-- R34 step 4: the descriptor that leaves is out of the list. -/
theorem State.thins_vacate (s : State) (d : DescIdx) : s.Thins (s.vacate d) := by
  have sched : (s.vacate d).sched.timed = s.sched.timed.filter fun e => decide (e ≠ d) := by
    rw [State.vacate, State.setDesc_sched, State.leave_sched]
    rfl
  have base : (s.vacate d).clock = s.clock ∧ (s.vacate d).prof = s.prof := by
    rw [State.vacate, State.setDesc_clock, State.setDesc_prof]
    exact ⟨(s.keepsLine_leave d).clock, (s.keepsLine_leave d).prof⟩
  refine ⟨sched ▸ List.filter_sublist, fun e he => ?_, by rw [base.1], by rw [base.2]⟩
  rw [sched, List.mem_filter] at he
  rw [State.desc_vacate, if_neg (by simpa using he.2)]

/-- R34: a retirement takes descriptors out of the list, and leaves a frame on the line its actual start. -/
theorem State.thins_retire (fuel : Nat) (d : DescIdx) (o : FrameOutcome) (stop : Time) (defer : Option Port) (s : State) :
    s.Thins (State.retire fuel d o stop defer s) ∧
      ∀ e, ((State.retire fuel d o stop defer s).desc e).state = .onLine →
        ((State.retire fuel d o stop defer s).desc e).actualStart = (s.desc e).actualStart := by
  refine State.retire_induction (P := fun _ s t => s.Thins t ∧
    ∀ e, (t.desc e).state = .onLine → (t.desc e).actualStart = (s.desc e).actualStart)
    (fun _ s => ⟨.refl s, fun _ _ => rfl⟩) (fun d s ps ps' t step => ?_) fuel d o defer s
  have cleared : s.Thins (State.unlink { s with ports := ps } d) ∧
      ∀ e, ((State.unlink { s with ports := ps } d).desc e).actualStart = (s.desc e).actualStart :=
    ⟨⟨.refl _, fun e _ => (Desc.unlink_span _ d e).1, rfl, rfl⟩, fun e => (Desc.unlink_span _ d e).2⟩
  generalize State.unlink { s with ports := ps } d = u at step cleared
  have chained : u.Thins t ∧ ∀ e, (t.desc e).state = .onLine → (t.desc e).actualStart = (u.desc e).actualStart := by
    have modified (c : DescIdx) (x : Desc) (span : x.span = (u.desc c).span)
        (start : x.actualStart = (u.desc c).actualStart) (e : DescIdx) :
        ((u.setDesc c x).desc e).span = (u.desc e).span ∧
          ((u.setDesc c x).desc e).actualStart = (u.desc e).actualStart := by
      rw [State.desc_setDesc]
      split
      · next he => exact he ▸ ⟨span, start⟩
      · exact ⟨rfl, rfl⟩
    cases step with
    | stands => exact ⟨.refl _, fun _ _ => rfl⟩
    | released c held =>
      have same := modified c ((u.desc c).released stop u.now u.sched.counter) rfl rfl
      exact ⟨⟨.refl _, fun e _ => (same e).1, rfl, rfl⟩, fun e _ => (same e).2⟩
    | retired c held h => exact h
    | expired c held h =>
      have same := modified c { u.desc c with notBefore := some (plus stop ((u.desc c).offset.getD 0)) } rfl rfl
      refine ⟨State.Thins.trans ?_ h.1, fun e he => (h.2 e he).trans (same e).2⟩
      exact ⟨.refl _, fun e _ => (same e).1, rfl, rfl⟩
  refine ⟨(cleared.1.trans chained.1).trans ((t.thins_vacate d).trans ⟨.refl _, fun _ _ => rfl, rfl, rfl⟩),
    fun e he => ?_⟩
  have he : ((t.vacate d).desc e).state = .onLine := he
  show ((t.vacate d).desc e).actualStart = _
  rw [State.desc_vacate] at he ⊢
  split at he
  · simp [Desc.blank] at he
  · next hed => rw [if_neg hed, chained.2 e he, cleared.2]

/-- R34: the retirement of a frame off the line leaves the slot. -/
theorem State.retireNow_slot {s : State} (h : s.Sound) {d : DescIdx} (hd : (s.desc d).state ≠ .onLine) (o : FrameOutcome)
    (stop : Time) (defer : Option Port) : (s.retireNow d o stop defer).disp.slot = s.disp.slot := by
  obtain ⟨table, stay⟩ := s.keepsTable_retire chainFuel d o stop defer
  refine Option.ext fun e => (table.slot (fun e he => (h.line.onLine e).2 he) e).trans ⟨And.left, fun he => ⟨he, ?_⟩⟩
  have on := (h.line.onLine e).2 he
  exact stay e (fun hed => hd (hed ▸ on)) on

/-- R34: the retirement of a frame off the line. -/
theorem State.keepsPlan_retireNow (s : State) (d : DescIdx) (o : FrameOutcome) (stop : Time) (defer : Option Port)
    (hd : s.Sound → (s.desc d).state ≠ .onLine) (ho : o.releases = true → defer = none) :
    s.KeepsPlan (s.retireNow d o stop defer) := by
  have sound := s.keepsSound_retireNow d o stop defer hd
  obtain ⟨thins, start⟩ := s.thins_retire chainFuel d o stop defer
  have frame := s.keepsLine_retireNow d o stop defer
  refine .of_thins sound thins (fun hs h => h.retireNow hs.sched d o stop defer ho) fun hs _ h => ?_
  have slot := State.retireNow_slot hs (hd hs) o stop defer
  exact h.thin thins (by rw [frame.line]) slot (fun _ => frame.phase) (by rw [frame.plannedEnd, frame.guardEnd]) fun e he =>
    start e (((sound hs).1.line.onLine e).2 (slot.trans he))

/-- R159: the purge walk. -/
theorem State.keepsPlan_purgeWalk (s : State) (p : Port) : s.KeepsPlan (s.purgeWalk p) := by
  have one (t : State) (d : DescIdx) : t.KeepsPlan (State.purgeOne p t d) := by
    unfold State.purgeOne
    split
    · next h =>
      refine t.keepsPlan_retireNow d _ _ _ (fun _ hon => ?_) nofun
      simp [Desc.offLine, hon] at h
    · exact .refl t
  unfold State.purgeWalk
  generalize s.admittedOf p ++ s.unadmittedOf p = l
  induction l generalizing s with
  | nil => exact .refl s
  | cons d l ih => exact (one s d).trans (ih _)

/-- R184 steps 2 and 3: what stays listed is another port's, and the orphan's time on the line stays. -/
theorem State.keepsPlan_discardAll (s : State) (p : Port) : s.KeepsPlan (s.discardAll p) := by
  have thins : s.Thins (s.discardAll p) := by
    refine ⟨List.filter_sublist, fun e he => ?_, rfl, rfl⟩
    have := (List.mem_filter.1 he).2
    rw [State.desc_discardAll, Desc.afterReset, if_neg (by simpa using this)]
  refine .of_thins (s.keepsSound_discardAll p) thins (fun _ h => h.discardAll p) fun hs _ h =>
    h.thin thins .rfl rfl (fun _ => rfl) rfl fun d hd => ?_
  rw [State.desc_discardAll, Desc.afterReset, if_pos ((hs.line.onLine d).2 hd)]
  split <;> rfl

/-! ### The line at rest -/

/-- R71: a move between lines that both carry a frame, or both do not. -/
theorem State.keepsPlan_moveLine (s : State) (l : LineState) (cause : Cause) (hl : l.Carries ↔ s.disp.line.Carries) :
    s.KeepsPlan (s.moveLine l cause) := by
  have ends : ((s.moveLine l cause).disp.plannedEnd, (s.moveLine l cause).disp.guardEnd) =
      (s.disp.plannedEnd, s.disp.guardEnd) := by
    rcases s.moveLine_cases l cause with ⟨-, e⟩ | ⟨-, e⟩ <;> rw [e]
  have same : s.Thins (s.moveLine l cause) := ⟨by simp, by simp, by simp, by simp⟩
  exact .of_line (s.keepsSound_moveLine l cause hl) (by simp) (by simp) fun _ h =>
    h.thin same (by simpa using hl) (by simp) (fun _ => by simp) ends (by simp)

/-- R89: an entry to DISABLED with no frame on the line. -/
theorem State.keepsPlan_enterDisabled (s : State) (cause : Cause) (off : s.Sound → s.disp.slot = none) :
    s.KeepsPlan (s.enterDisabled cause) := by
  have base := s.keepsBase_enterDisabled cause
  obtain ⟨store, sched⟩ := s.enterDisabled_table cause
  exact .of_line (s.keepsSound_enterDisabled cause off) (by rw [store]) (by rw [sched, base.clock, base.prof])
    fun _ _ => .of_rest rfl (by simp [State.enterDisabled])

/-- R121: a fault entry leaves no frame or guard on the line, where none was. -/
theorem State.faultEntry_rest (s : State) (cause : Cause) (slot : s.disp.slot = none) :
    (s.faultEntry cause).disp.slot = none ∧ (s.faultEntry cause).disp.phase = none := by
  rcases s.faultEntry_cases cause with ⟨-, e⟩ | ⟨-, -, e⟩ | ⟨-, -, -, phase, hslot, -⟩
  · exact e ▸ ⟨rfl, rfl⟩
  · exact e ▸ ⟨rfl, rfl⟩
  · exact ⟨hslot.trans slot, phase⟩

/-- R83: a fault entry from IDLE. -/
theorem State.keepsPlan_faultEntry (s : State) (cause : Cause) (hidle : s.disp.line = .idle) :
    s.KeepsPlan (s.faultEntry cause) := by
  have base := s.keepsBase_faultEntry cause
  obtain ⟨store, sched⟩ := s.faultEntry_table cause
  refine .of_line (s.keepsSound_faultEntry cause hidle) (by rw [store]) (by rw [sched, base.clock, base.prof])
    fun h _ => ?_
  obtain ⟨-, hslot, -⟩ := h.line.rest (by simp [hidle, LineState.Carries])
  obtain ⟨slot, phase⟩ := s.faultEntry_rest cause hslot
  exact .of_rest slot (by simp [phase])

end Sys2Proof.Machine
end

section
/-! Reserved times, continued: how long a reservation is, and what follows of listed intervals that stay apart (O58). -/

namespace Sys2Proof.Machine

/-! ### Bounds -/

/-- R42, R128: the length of a reservation: with the largest shape and profile 72,224,752 ticks, and never none. -/
theorem State.StoreSound.reservation {s : State} (h : s.StoreSound) {p : Profile}
    (range : ∀ f : ProfileField, f.inRange (p.field f) = true) {d : DescIdx} (hd : (s.desc d).live = true) :
    1 ≤ (s.desc d).reservation p ∧ p.guard ≤ (s.desc d).reservation p ∧ (s.desc d).reservation p ≤ 72224752 := by
  obtain ⟨body, body', pre, reps, reps', gap⟩ := h.shape d hd
  have hbt : 2 ≤ p.hbt ∧ p.hbt ≤ 2048 := of_decide_eq_true (range .hbt)
  have guard : p.guard ≤ 4095 := of_decide_eq_true (range .guard)
  generalize s.desc d = x at *
  have cells : 1 ≤ x.halfCells ∧ x.halfCells ≤ 2174 := by unfold Desc.halfCells; omega
  have once : 1 ≤ x.repTicks p.hbt ∧ x.repTicks p.hbt ≤ 2174 * 2048 :=
    ⟨Nat.mul_pos cells.1 (by omega), Nat.mul_le_mul cells.2 hbt.2⟩
  have sent : 1 ≤ x.reps * x.repTicks p.hbt ∧ x.reps * x.repTicks p.hbt ≤ 16 * (2174 * 2048) :=
    ⟨Nat.mul_pos reps once.1, Nat.mul_le_mul reps' once.2⟩
  have gaps : (x.reps - 1) * x.gap ≤ 15 * 65535 := Nat.mul_le_mul (by omega) gap
  unfold Desc.reservation Desc.duration
  omega

theorem State.ListTimely.reservation {s : State} (h : s.ListTimely) {d : DescIdx} (hd : (s.desc d).live = true) :
    1 ≤ (s.desc d).reservation s.prof.active ∧ s.prof.active.guard ≤ (s.desc d).reservation s.prof.active ∧
      (s.desc d).reservation s.prof.active ≤ 72224752 :=
  h.store.reservation h.active hd

/-- R44, R50: within the reach of the listed and the occupied intervals. -/
def Near (now t : Time) : Prop := -2 ^ 27 ≤ offset now t ∧ offset now t ≤ 2 ^ 30 + 2 ^ 27

theorem Near.before_iff {now a b : Time} (ha : Near now a) (hb : Near now b) :
    before a b = true ↔ offset now a < offset now b := by
  unfold Near at ha hb
  exact before_iff_offset now (abs_lt.2 ⟨by omega, by omega⟩)

theorem near_self (now : Time) : Near now now := by simp [Near, offset_self]

/-- A time not too long after now. -/
theorem offset_ahead (now : Time) {n : Nat} (h : n ≤ 72224752) : offset now (plus now n) = n := by
  have := offset_plus (now := now) (t := now) (n := n) (by rw [offset_self]; omega)
  simpa [offset_self] using this

theorem near_ahead (now : Time) {n : Nat} (h : n ≤ 72224752) : Near now (plus now n) := by
  unfold Near
  rw [offset_ahead now h]
  omega

/-- R44: intervals that do not overlap, either way round. -/
theorem overlap_comm (a b c d : Time) : overlap a b c d = overlap c d a b := Bool.and_comm _ _

theorem overlap_eq_false_iff {a b c d : Time} : overlap a b c d = false ↔ before a d = false ∨ before c b = false := by
  rw [overlap, Bool.and_eq_false_iff]

/-! ### Booked frames -/

/-- R42, R51: d is listed to start at a, with a reservation interval of its length from there on, near enough for times to be
compared. -/
structure State.Booked (s : State) (d : DescIdx) (a : Time) : Prop where
  start : (s.desc d).start = some a
  resStart : (s.desc d).resStart = some a
  resEnd : (s.desc d).resEnd = some (plus a ((s.desc d).reservation s.prof.active))
  low : -2 ^ 16 ≤ offset s.now a
  high : offset s.now a ≤ 2 ^ 30
  length : 1 ≤ (s.desc d).reservation s.prof.active
  longest : (s.desc d).reservation s.prof.active ≤ 72224752

theorem State.ListTimely.booked {s : State} (h : s.ListTimely) (sched : s.ScheduleSound) {d : DescIdx}
    (hd : d ∈ s.sched.timed) : ∃ a, s.Booked d a := by
  obtain ⟨a, b, start, resStart, -⟩ := sched.starts d hd
  have live : (s.desc d).live = true := by simp [Desc.live, ((sched.timed d).1 hd).1]
  obtain ⟨length, -, longest⟩ := h.reservation live
  have reach : -2 ^ 16 ≤ offset s.now a ∧ offset s.now a ≤ 2 ^ 30 := by
    rcases h.listed d hd a start with near | near
    · have : offset s.now a = distance s.now a := offset_eq_distance (by unfold State.now; omega)
      unfold State.now at *
      omega
    · have : offset s.now a = -distance a s.now := offset_eq_neg_distance (by unfold State.now; omega)
      unfold State.now at *
      omega
  exact ⟨a, start, resStart, h.ordered.lengths d hd a start, reach.1, reach.2, length, longest⟩

theorem State.Booked.near {s : State} {d : DescIdx} {a : Time} (h : s.Booked d a) : Near s.now a := by
  have := h.low
  have := h.high
  unfold Near
  omega

/-- R42: where the reservation ends. -/
theorem State.Booked.stop {s : State} {d : DescIdx} {a : Time} (h : s.Booked d a) :
    offset s.now (plus a ((s.desc d).reservation s.prof.active)) =
      offset s.now a + (s.desc d).reservation s.prof.active := by
  have := h.high
  have := h.longest
  exact offset_plus (by omega)

theorem State.Booked.near_stop {s : State} {d : DescIdx} {a : Time} (h : s.Booked d a) :
    Near s.now (plus a ((s.desc d).reservation s.prof.active)) := by
  have := h.low
  have := h.high
  have := h.longest
  unfold Near
  rw [h.stop]
  omega

/-- R42: in a list in the order of its starts, whose intervals are apart, each frame ends by the start of those behind it. -/
theorem State.ListTimely.follows {s : State} (h : s.ListTimely) : s.sched.timed.Pairwise fun d e =>
    ∀ a b, s.Booked d a → s.Booked e b → offset s.now a + (s.desc d).reservation s.prof.active ≤ offset s.now b := by
  refine h.ordered.ordered.imp_of_mem fun {d e} hd he hde a b ha hb => ?_
  have first := (ha.near.before_iff hb.near).1 (hde a b ha.start hb.start)
  have hne : d ≠ e := by
    rintro rfl
    obtain rfl : a = b := Option.some.inj (ha.start.symm.trans hb.start)
    omega
  have apart := h.apart d hd e he hne _ _ _ _ ha.resStart ha.resEnd hb.resStart hb.resEnd
  have length := hb.length
  rcases overlap_eq_false_iff.1 apart with out | out
  · have := mt (ha.near.before_iff hb.near_stop).2 (by simp [out])
    rw [hb.stop] at this
    omega
  · have := mt (hb.near.before_iff ha.near_stop).2 (by simp [out])
    rw [ha.stop] at this
    omega

/-- R79, R80: an interval from now on that ends by the first start of a part of the list overlaps none of its intervals. -/
theorem State.ListTimely.clear {s : State} (h : s.ListTimely) (sched : s.ScheduleSound) {l : List DescIdx}
    (hl : l.Sublist s.sched.timed) {x : Desc} (hx : x.reservation s.prof.active ≤ 72224752)
    (fit : s.fitsBefore x (l.head?.bind fun e => (s.desc e).start) = true) {e : DescIdx} (he : e ∈ l) {a b : Time}
    (ha : (s.desc e).resStart = some a) :
    overlap s.now (plus s.now (x.reservation s.prof.active)) a b = false := by
  obtain ⟨c, rest, rfl⟩ := List.exists_cons_of_ne_nil (List.ne_nil_of_mem he)
  obtain ⟨t, first⟩ := h.booked sched (hl.subset List.mem_cons_self)
  obtain ⟨a', booked⟩ := h.booked sched (hl.subset he)
  obtain rfl : a' = a := Option.some.inj (booked.resStart.symm.trans ha)
  have later : offset s.now t ≤ offset s.now a' := by
    rcases List.mem_cons.1 he with rfl | hmem
    · rw [Option.some.inj (first.start.symm.trans booked.start)]
    · have := List.rel_of_pairwise_cons (h.follows.sublist hl) hmem t a' first booked
      omega
  simp only [State.fitsBefore, List.head?_cons, Option.bind_some, first.start, Bool.not_eq_true'] at fit
  have ahead := near_ahead s.now hx
  have stop := mt (first.near.before_iff ahead).2 (by simp [fit])
  refine overlap_eq_false_iff.2 (.inr (Bool.eq_false_iff.2 (mt (booked.near.before_iff ahead).1 ?_)))
  omega

end Sys2Proof.Machine
end

section
/-! Reserved times, continued: frames that start, go on and end (O57, O58). -/

namespace Sys2Proof.Machine

/-! ### Starts -/

/-- R79, R80, R82: d, started now, would overlap no other listed interval. -/
def State.ClearFor (s : State) (d : DescIdx) : Prop :=
  ∀ e ∈ s.sched.timed, e ≠ d → ∀ a b, (s.desc e).resStart = some a → (s.desc e).resEnd = some b →
    overlap s.now (plus s.now ((s.desc d).reservation s.prof.active)) a b = false

/-- R43, R82: the planned end of a frame that starts. -/
theorem State.goOnLine_plannedEnd (s : State) (d : DescIdx) :
    (s.goOnLine d).disp.plannedEnd = plus s.now ((s.desc d).reservation s.prof.active) := by
  unfold State.goOnLine
  obtain ⟨ps, hps⟩ := State.strobeFor_ports _ (s.desc d).owner (s.desc d).strobeStart
  rw [hps]
  rfl

theorem distance_self (a : Time) : distance a a = 0 := by simp [distance]

theorem distance_plus (a : Time) {n : Nat} (h : n < 2 ^ 32) : distance a (plus a n) = n := by
  rw [distance, plus, add_sub_cancel_left, BitVec.toNat_ofNat, Nat.mod_eq_of_lt h]

theorem plus_distance (a b : Time) : plus a (distance a b) = b := by
  rw [plus, distance, BitVec.ofNat_toNat, BitVec.setWidth_eq, add_sub_cancel]

/-- R82: a WAITING frame starts from IDLE, clear of the others. -/
theorem State.keepsPlan_goOnLine (s : State) (d : DescIdx) (hidle : s.disp.line = .idle)
    (hd : s.Sound → (s.desc d).state = .waiting) (clear : s.Sound → s.ListTimely → s.ClearFor d) :
    s.KeepsPlan (s.goOnLine d) := by
  obtain ⟨desc, sched, line, -, slot, -⟩ := s.goOnLine_spec d
  have base := s.keepsBase_goOnLine d
  have other {e : DescIdx} (he : e ∈ (s.goOnLine d).sched.timed) :
      e ∈ s.sched.timed ∧ e ≠ d ∧ (s.goOnLine d).desc e = s.desc e := by
    rw [sched] at he
    obtain ⟨hmem, hne⟩ := List.mem_filter.1 he
    have hne := of_decide_eq_true hne
    exact ⟨hmem, hne, by rw [desc, if_neg hne]⟩
  have thins : s.Thins (s.goOnLine d) :=
    ⟨sched ▸ List.filter_sublist, fun e he => by rw [(other he).2.2], by rw [base.clock], by rw [base.prof]⟩
  have occupied : (s.goOnLine d).occupied = some (s.now, plus s.now ((s.desc d).reservation s.prof.active)) := by
    simp [State.occupied_eq, slot, line, desc, s.goOnLine_plannedEnd]
  refine .of_thins (s.keepsSound_goOnLine d hidle hd) thins (fun hs h => ?_) fun hs list _ =>
    ⟨fun e he => ?_, fun i hi e he a b ha hb => ?_⟩
  · have state := hd hs
    refine h.congr (fun e => ?_) (fun e => ?_) (fun e => ?_) fun e => ?_
    all_goals
      rw [desc]
      split
      · next he => simp [he, state, Desc.live]
      · simp
  · obtain rfl : d = e := Option.some.inj (slot.symm.trans he)
    have live : (s.desc d).live = true := by simp [Desc.live, hd hs]
    obtain ⟨-, guard, longest⟩ := list.reservation live
    refine ⟨s.now, by rw [desc, if_pos rfl], ?_⟩
    rw [s.goOnLine_plannedEnd, base.clock, base.prof, distance_plus _ (by omega)]
    refine ⟨?_, longest⟩
    rw [State.now, distance_self]
    omega
  · obtain ⟨hmem, hne, same⟩ := other he
    rw [same] at ha hb
    obtain rfl := Option.some.inj (occupied.symm.trans hi)
    exact clear hs list e hmem hne a b ha hb

theorem State.samePlan_bump (s : State) (l : List DescIdx) : s.SamePlan (s.bump l) := by
  unfold State.bump
  induction l generalizing s with
  | nil => exact .of_eq rfl
  | cons d l ih =>
    have one := s.samePlan_modDesc d (fun x => { x with bypass := x.bypass + 1 }) rfl
    have rest := ih (s.modDesc d fun x => { x with bypass := x.bypass + 1 })
    exact ⟨fun e => (rest.1 e).trans (one.1 e), rest.2.trans one.2, rest.3.trans one.3, rest.4.trans one.4,
      rest.5.trans one.5, rest.6.trans one.6⟩

/-- R82: whether a frame is clear rests on the plan. -/
theorem State.SamePlan.clearFor {s t : State} (h : s.SamePlan t) {d : DescIdx} (k : s.ClearFor d) : t.ClearFor d := by
  intro e he hne
  have now : t.now = s.now := h.time
  rw [h.read Desc.resStart fun _ => rfl, h.read Desc.resEnd fun _ => rfl, now,
    h.read Desc.reservation fun _ => rfl, h.active]
  exact k e (h.sched ▸ he) hne

/-- R82, R83: a WAITING frame attempted from IDLE. -/
theorem State.keepsPlan_attempt (s : State) (d : DescIdx) (l : List DescIdx) (hidle : s.disp.line = .idle)
    (hd : s.Sound → (s.desc d).state = .waiting) (clear : s.Sound → s.ListTimely → s.ClearFor d) :
    s.KeepsPlan (s.attempt d l) := by
  unfold State.attempt
  split
  · have same := s.samePlan_bump l
    refine same.keepsPlan.trans (State.keepsPlan_goOnLine _ d (by rw [same.disp, hidle]) (fun h => ?_) fun h list => ?_)
    · rw [same.read Desc.state fun _ => rfl]
      exact hd (same.symm.keepsSound h).1
    · have sound := same.symm.keepsSound h
      exact same.clearFor (clear sound.1 (list.thin same.symm.thins (sound.2 list.store)))
  · exact s.keepsPlan_faultEntry .blocked hidle

/-- R80: the ASAP walk starts a descriptor that fits before the list. -/
theorem State.asapWalk_fits (s : State) (l counted : List DescIdx) {d : DescIdx} {res : List DescIdx}
    (hw : s.asapWalk l counted = some (d, res)) : s.fits (s.desc d) = true := by
  induction l generalizing counted with
  | nil => simp [State.asapWalk] at hw
  | cons c l ih =>
    simp only [State.asapWalk] at hw
    split at hw
    · exact ih _ hw
    · split at hw
      · next hfits =>
        obtain ⟨rfl, -⟩ := Prod.mk.inj (Option.some.inj hw)
        exact hfits
      · split at hw
        · exact ih _ hw
        · simp at hw

theorem State.keepsPlan_asapFirstFit (s : State) (hidle : s.disp.line = .idle) : s.KeepsPlan s.asapFirstFit := by
  unfold State.asapFirstFit
  split
  · next d _ hw =>
    have waiting (h : s.Sound) : (s.desc d).state = .waiting := ((h.sched.queued d).1 (s.asapWalk_mem _ _ hw)).1
    refine s.keepsPlan_attempt d _ hidle waiting fun h list e he _ a b ha _ => ?_
    have live : (s.desc d).live = true := by simp [Desc.live, waiting h]
    exact list.clear h.sched (.refl _) (list.reservation live).2.2 (s.asapWalk_fits _ _ hw) he ha
  · exact .refl s

/-- R78, R79: the due frames of the list: on time the frame keeps its own interval, and late it ends by the next start. -/
theorem State.keepsPlan_decideLoop (fuel : Nat) (s : State) (hidle : s.disp.line = .idle) :
    s.KeepsPlan (State.decideLoop fuel s) := by
  induction fuel generalizing s with
  | zero => exact .refl s
  | succ fuel ih =>
    simp only [State.decideLoop]
    split
    · exact s.keepsPlan_asapFirstFit hidle
    · next d rest hlist =>
      have hmem : d ∈ s.sched.timed := hlist ▸ List.mem_cons_self
      have waiting (h : s.Sound) : (s.desc d).state = .waiting := ((h.sched.timed d).1 hmem).1
      split
      · exact s.keepsPlan_asapFirstFit hidle
      · next t hstart =>
        split
        · next hnow =>
          refine s.keepsPlan_attempt d [] hidle waiting fun h list e he hne a b ha hb => ?_
          obtain ⟨t', booked⟩ := list.booked h.sched hmem
          obtain rfl : t' = s.now := (Option.some.inj (booked.start.symm.trans hstart)).trans hnow
          exact list.apart d hmem e he hne.symm _ _ a b booked.resStart booked.resEnd ha hb
        · split
          · split
            · next hfit =>
              refine s.keepsPlan_attempt d [] hidle waiting fun h list e he hne a b ha _ => ?_
              have live : (s.desc d).live = true := by simp [Desc.live, waiting h]
              have hrest : e ∈ rest := (List.mem_cons.1 (hlist ▸ he)).resolve_left hne
              exact list.clear h.sched (hlist ▸ List.sublist_cons_self d rest) (list.reservation live).2.2
                (Bool.and_eq_true_iff.1 hfit).2 hrest ha
            · exact (s.keepsPlan_retireNow d _ _ _ (fun h => by simp [waiting h]) fun _ => rfl).trans
                (ih _ ((s.keepsLine_retireNow d _ _ _).line.trans hidle))
          · exact s.keepsPlan_asapFirstFit hidle

/-- R77, R78: a dispatch decision event. -/
theorem State.keepsPlan_startDecision (s : State) : s.KeepsPlan s.startDecision := by
  unfold State.startDecision
  split
  · next hidle => exact State.keepsPlan_decideLoop _ s hidle
  · exact .refl s

/-- An event or a command that ends with a start decision. -/
theorem State.KeepsPlan.decide {s t : State} (h : s.KeepsPlan t) : s.KeepsPlan t.startDecision :=
  h.trans t.keepsPlan_startDecision

theorem State.KeepsPlan.decideIfLeft {s t : State} (h : s.KeepsPlan t) (u : State) : s.KeepsPlan (t.decideIfLeft u) := by
  unfold State.decideIfLeft
  split
  · exact h.decide
  · exact h

theorem State.KeepsPlan.decideIfPurged {s t : State} (h : s.KeepsPlan t) (u : State) :
    s.KeepsPlan (t.decideIfPurged u) := by
  unfold State.decideIfPurged
  split
  · exact h.decide
  · exact h

end Sys2Proof.Machine
end

section
/-! Reserved times, continued: frames that go on and end (O57, O58). -/

namespace Sys2Proof.Machine

/-! ### Frame ends -/

/-- R75: what the end of a frame is apart from the streak and a strobe: the guard begun, and the frame retired. -/
theorem State.frameEnd_eq (s : State) (d : DescIdx) : ∃ ps echo,
    s.frameEnd d = { State.retireNow (State.restEncoder { s with disp := { s.disp with
      phase := some .guard, slot := none, guardEnd := plus s.now s.prof.active.guard } }) d (s.desc d).endOutcome
      s.enc.lastEnd none with ports := ps, echo := echo } := by
  unfold State.frameEnd
  obtain ⟨ps, hps⟩ := State.strobeFor_ports (State.clearStreak (State.retireNow (State.restEncoder { s with
    disp := { s.disp with phase := some .guard, slot := none, guardEnd := plus s.now s.prof.active.guard } }) d
    (s.desc d).endOutcome s.enc.lastEnd none) (s.desc d).endOutcome) (s.desc d).owner (s.desc d).strobeEnd
  dsimp only
  rw [hps]
  refine ⟨ps, ?_⟩
  unfold State.clearStreak
  split
  · exact ⟨_, rfl⟩
  · exact ⟨_, rfl⟩

/-- R43: the occupied interval of a frame on the line whose events are taken in time: from behind now to its planned end,
which leaves room for the guard. -/
theorem State.LineTimely.frame {s : State} (h : s.LineTimely) {d : DescIdx} (hd : s.disp.slot = some d) : ∃ a,
    (s.desc d).actualStart = some a ∧ -72224752 ≤ offset s.now a ∧ offset s.now a ≤ 0 ∧
      s.prof.active.guard ≤ offset s.now s.disp.plannedEnd ∧ offset s.now s.disp.plannedEnd ≤ 72224752 := by
  obtain ⟨a, start, room, longest⟩ := h.line d hd
  have behind : offset s.now a = -distance a s.now := offset_eq_neg_distance (by unfold State.now; omega)
  have ahead := offset_plus (now := s.now) (t := a) (n := distance a s.disp.plannedEnd) (by omega)
  rw [plus_distance] at ahead
  refine ⟨a, start, ?_⟩
  unfold State.now at *
  omega

/-- R43, R76: the guard of a frame that ends in time lies inside what the frame occupied. -/
theorem State.LineTimely.guard_clear {s : State} (h : s.LineTimely) (hs : s.Sound) (list : s.ListTimely) {d : DescIdx}
    (hd : s.disp.slot = some d) {e : DescIdx} (he : e ∈ s.sched.timed) {a b : Time}
    (ha : (s.desc e).resStart = some a) (hb : (s.desc e).resEnd = some b) :
    overlap s.now (plus s.now s.prof.active.guard) a b = false := by
  obtain ⟨start, hstart, low, behind, guard, longest⟩ := h.frame hd
  obtain ⟨a', booked⟩ := list.booked hs.sched he
  obtain rfl : a' = a := Option.some.inj (booked.resStart.symm.trans ha)
  obtain rfl := Option.some.inj (booked.resEnd.symm.trans hb)
  have occupied : s.occupied = some (start, s.disp.plannedEnd) := by
    have carries := (hs.line.frame hd).1
    unfold LineState.Carries at carries
    simp [State.occupied_eq, hd, carries, hstart]
  have short : s.prof.active.guard ≤ 72224752 := by omega
  have nearStart : Near s.now start := by unfold Near; omega
  have nearEnd : Near s.now s.disp.plannedEnd := by unfold Near; omega
  have self := offset_self s.now
  have ahead := offset_ahead s.now short
  rcases overlap_eq_false_iff.1 (h.apart _ occupied e he a' _ ha hb) with out | out
  · have := mt (nearStart.before_iff booked.near_stop).2 (by simp [out])
    refine overlap_eq_false_iff.2 (.inl (Bool.eq_false_iff.2 (mt ((near_self _).before_iff booked.near_stop).1 ?_)))
    omega
  · have := mt (booked.near.before_iff nearEnd).2 (by simp [out])
    refine overlap_eq_false_iff.2 (.inr (Bool.eq_false_iff.2 (mt (booked.near.before_iff (near_ahead _ short)).1 ?_)))
    omega

/-- R75: the frame in the slot ends. -/
theorem State.keepsPlan_frameEnd (s : State) (d : DescIdx) (hd : s.disp.slot = some d) : s.KeepsPlan (s.frameEnd d) := by
  have sound := s.keepsSound_frameEnd d hd
  obtain ⟨ps, echo, hend⟩ := s.frameEnd_eq d
  generalize hu : State.restEncoder { s with disp := { s.disp with
    phase := some .guard, slot := none, guardEnd := plus s.now s.prof.active.guard } } = u at hend
  have frame := u.keepsLine_retireNow d (s.desc d).endOutcome s.enc.lastEnd none
  have begun : s.Thins u := hu ▸ ⟨.refl _, fun _ _ => rfl, rfl, rfl⟩
  have ended : State.Thins (u.retireNow d (s.desc d).endOutcome s.enc.lastEnd none) (s.frameEnd d) :=
    hend ▸ ⟨.refl _, fun _ _ => rfl, rfl, rfl⟩
  have thins := (begun.trans (u.thins_retire chainFuel d (s.desc d).endOutcome s.enc.lastEnd none).1).trans ended
  refine .of_thins sound thins (fun hs h => ?_) fun hs list h => ?_
  · have sched : u.ScheduleSound := hs.sched.of_standing (by rw [← hu]; rfl) fun e => hu ▸ .of_eq rfl
    have chains : u.ChainsSound := hu ▸ h.congr (fun _ => rfl) (fun _ => .rfl) (fun _ => rfl) fun _ => rfl
    rw [hend]
    exact (chains.retireNow sched d _ _ none fun _ => rfl).congr (fun _ => rfl) (fun _ => .rfl) (fun _ => rfl)
      fun _ => rfl
  · have phase : (s.frameEnd d).disp.phase = some .guard := by rw [hend]; exact frame.phase.trans (by rw [← hu]; rfl)
    have slot : (s.frameEnd d).disp.slot = none := by
      have := mt (sound hs).1.line.slot.1 (by simp [phase])
      simpa using this
    refine ⟨fun e he => by simp [slot] at he, fun i hi e he a b ha hb => ?_⟩
    have guardEnd : (s.frameEnd d).disp.guardEnd = plus s.now s.prof.active.guard := by
      rw [hend]
      exact frame.guardEnd.trans (by rw [← hu]; rfl)
    have carries := (sound hs).1.line.phase.1 (by simp [phase])
    obtain rfl : (s.now, plus s.now s.prof.active.guard) = i := by
      simpa [State.occupied_eq, carries, slot, phase, guardEnd, thins.time, State.now] using hi
    obtain ⟨-, start, stop, -⟩ := Desc.span_eq (thins.spans e he)
    exact h.guard_clear hs list hd (thins.timed.subset he) (start ▸ ha) (stop ▸ hb)

/-- R117, R120: the frame in the slot is stopped, and a fault entry follows. -/
theorem State.keepsPlan_echoAbort (s : State) (d : DescIdx) (why : AbortDetail) (cause : Cause)
    (hd : s.disp.slot = some d) : s.KeepsPlan (s.echoAbort d why cause) := by
  have sound := s.keepsSound_echoAbort d why cause hd
  unfold State.echoAbort at sound ⊢
  dsimp only at sound ⊢
  obtain ⟨ps, hps⟩ := State.strobeFor_ports (s.restEncoder.retireNow d (.aborted why) s.enc.lastEnd none) (s.desc d).owner
    (s.desc d).strobeEnd
  rw [hps] at sound ⊢
  have stopped : s.Thins (s.restEncoder.retireNow d (.aborted why) s.enc.lastEnd none) :=
    State.Thins.trans (t := s.restEncoder) ⟨.refl _, fun _ _ => rfl, rfl, rfl⟩
      (s.restEncoder.thins_retire chainFuel d (.aborted why) s.enc.lastEnd none).1
  have chains (hs : s.Sound) (h : s.ChainsSound) :
      (s.restEncoder.retireNow d (.aborted why) s.enc.lastEnd none).ChainsSound :=
    State.ChainsSound.retireNow (s := s.restEncoder) (h.congr (fun _ => rfl) (fun _ => .rfl) (fun _ => rfl) fun _ => rfl)
      (hs.sched.of_standing rfl fun _ => .of_eq rfl) d _ _ none fun _ => rfl
  generalize s.restEncoder.retireNow d (.aborted why) s.enc.lastEnd none = v at *
  generalize hw : ({ v with
    ports := ps, disp := { v.disp with phase := none, slot := none }
    echo := if why = .echo then { v.echo with abortPending := false, counted := false } else v.echo } : State) = w at *
  have base := w.keepsBase_faultEntry cause
  obtain ⟨store, sched⟩ := w.faultEntry_table cause
  have desc (e : DescIdx) : (w.faultEntry cause).desc e = v.desc e := by rw [State.desc, store, ← hw]; rfl
  have faulted : v.Thins (w.faultEntry cause) :=
    ⟨by rw [sched, ← hw], fun e _ => by rw [desc], by rw [base.clock, ← hw], by rw [base.prof, ← hw]⟩
  obtain ⟨slot, phase⟩ := w.faultEntry_rest cause (by rw [← hw])
  exact .of_thins sound (stopped.trans faulted) (fun hs h => (chains hs h).congr (fun e => by rw [desc])
    (fun e => by rw [desc]) (fun e => by rw [desc]) fun e => by rw [desc]) fun _ _ _ => .of_rest slot (by simp [phase])

/-- R74: the frame on the line goes on; its phase and what the encoder does are not in the plan. -/
theorem State.KeepsPlan.of_goesOn {s t : State} (sound : s.KeepsSound t) (store : t.store.descs = s.store.descs)
    (base : (t.sched, t.clock.time, t.prof.active) = (s.sched, s.clock.time, s.prof.active)) {d : DescIdx}
    (hd : s.disp.slot = some d)
    (line : (t.disp.line, t.disp.slot, t.disp.plannedEnd, t.disp.guardEnd) =
      (s.disp.line, s.disp.slot, s.disp.plannedEnd, s.disp.guardEnd)) : s.KeepsPlan t := by
  simp only [Prod.mk.injEq] at line
  obtain ⟨line, slot, ends⟩ := line
  have desc (d : DescIdx) : t.desc d = s.desc d := by rw [State.desc, store, State.desc]
  refine .of_line sound store base fun _ h => h.thin ?_ (by rw [line]) slot (fun e => by simp [hd] at e)
    (by rw [ends.1, ends.2]) fun e _ => by rw [desc]
  simp only [Prod.mk.injEq] at base
  exact ⟨by rw [base.1], fun e _ => by rw [desc], base.2.1, base.2.2⟩

/-- R74, R117: the frame in the slot goes on with its next repetition, or is stopped. -/
theorem State.keepsPlan_laterRepetition (s : State) (d : DescIdx) (hd : s.disp.slot = some d) :
    s.KeepsPlan (s.laterRepetition d) := by
  have sound := s.keepsSound_laterRepetition d hd
  unfold State.laterRepetition at sound ⊢
  split
  · next hq =>
    rw [if_pos hq] at sound
    exact .of_goesOn sound rfl rfl hd rfl
  · exact s.keepsPlan_echoAbort d .blocked .blocked hd

theorem State.keepsPlan_endBody (s : State) (d : DescIdx) (hd : s.disp.slot = some d) : s.KeepsPlan (s.endBody d) := by
  unfold State.endBody
  refine (s.keepsPlan_modDesc d (fun x => { x with repsSent := x.repsSent + 1 }) rfl).trans ?_
  dsimp only
  split
  · split
    · exact State.keepsPlan_laterRepetition _ d hd
    · refine .of_goesOn (.of_line rfl rfl fun h => ?_) rfl rfl hd rfl
      obtain ⟨line, onLine⟩ := h.line.frame hd
      exact .of_frame line hd (.inr ⟨rfl, rfl⟩) onLine
  · exact State.keepsPlan_frameEnd _ d hd

theorem State.keepsPlan_countMismatch (s : State) (d : DescIdx) : s.KeepsPlan (s.countMismatch d) :=
  (s.keepsPlan_modDesc d (fun x => { x with mismatches := min Config.mismatchMax ((s.desc d).mismatches + 1) }) rfl).trans
    (State.SamePlan.keepsPlan (.of_eq rfl))

theorem State.keepsPlan_echoStopped (s : State) (d : DescIdx) (hd : s.disp.slot = some d) :
    s.KeepsPlan (s.echoStopped d) := by
  unfold State.echoStopped
  dsimp only
  split
  · exact (s.keepsPlan_modDesc d (fun x => { x with repsSent := x.repsSent + 1 }) rfl).trans
      (State.keepsPlan_echoAbort _ d .echo .echo hd)
  · exact s.keepsPlan_echoAbort d .echo .echo hd

end Sys2Proof.Machine
end

section
/-! Reserved times, continued: admissions (O57, O58). -/

namespace Sys2Proof.Machine

/-! ### Standing intervals -/

theorem State.mem_standing_of_occupied {s : State} {i : Time × Time} (h : s.occupied = some i) : i ∈ s.standing := by
  simp [State.standing, h]

theorem State.mem_standing_of_listed {s : State} {d : DescIdx} (hd : d ∈ s.sched.timed) {a b : Time}
    (ha : (s.desc d).resStart = some a) (hb : (s.desc d).resEnd = some b) : (a, b) ∈ s.standing :=
  List.mem_append_right _ (List.mem_filterMap.2 ⟨d, hd, by simp [ha, hb]⟩)

/-- R44: a candidate without a first conflicting interval overlaps none. -/
theorem State.clear_of_firstConflict {s : State} {a b : Time} (h : s.firstConflict a b = none) {i : Time × Time}
    (hi : i ∈ s.standing) : overlap a b i.1 i.2 = false := by
  simpa using List.find?_eq_none.1 h i hi

/-! ### The place in the timed list -/

/-- R42: a frame put in by its start keeps the order. -/
theorem insertByStart_pairwise (s : State) (d : DescIdx) (t : Time) {R : DescIdx → DescIdx → Prop} {l : List DescIdx}
    (order : l.Pairwise R) (started : ∀ e ∈ l, (s.desc e).start.isSome)
    (ahead : ∀ e ∈ l, ∀ u, (s.desc e).start = some u → before t u = true → R d e)
    (behind : ∀ e ∈ l, ∀ u, (s.desc e).start = some u → before t u = false → R e d)
    (trans : ∀ e ∈ l, ∀ f ∈ l, R d e → R e f → R d f) : (insertByStart s d t l).Pairwise R := by
  induction l with
  | nil => exact List.pairwise_singleton R d
  | cons e l ih =>
    obtain ⟨later, rest⟩ := List.pairwise_cons.1 order
    obtain ⟨u, hu⟩ := Option.isSome_iff_exists.1 (started e List.mem_cons_self)
    simp only [insertByStart, hu]
    split
    · next hbefore =>
      have first := ahead e List.mem_cons_self u hu hbefore
      exact List.pairwise_cons.2 ⟨List.forall_mem_cons.2 ⟨first, fun f hf =>
        trans e List.mem_cons_self f (List.mem_cons_of_mem e hf) first (later f hf)⟩, order⟩
    · next hbefore =>
      refine List.pairwise_cons.2 ⟨fun f hf => ?_, ih rest (fun f hf => started f (List.mem_cons_of_mem e hf))
        (fun f hf => ahead f (List.mem_cons_of_mem e hf)) (fun f hf => behind f (List.mem_cons_of_mem e hf))
        fun f hf g hg => trans f (List.mem_cons_of_mem e hf) g (List.mem_cons_of_mem e hg)⟩
      rcases List.mem_cons.1 ((insertByStart_perm s d t l).mem_iff.1 hf) with rfl | hmem
      · exact behind e List.mem_cons_self u hu (Bool.eq_false_iff.2 hbefore)
      · exact later f hmem

/-! ### Admissions -/

/-- R51, R53: chains rest on none of what an admission to the list or a queue changes. -/
theorem State.ChainsSound.admission {s t : State} (h : s.ChainsSound) {d : DescIdx} {x : Desc}
    (desc : ∀ e, t.desc e = if e = d then x else s.desc e) (loading : (s.desc d).state = .loading)
    (waiting : x.state = .waiting) (owner : x.owner = (s.desc d).owner)
    (successor : x.successor = (s.desc d).successor) : t.ChainsSound := by
  refine h.congr (fun e => ?_) (fun e => ?_) (fun e => ?_) fun e => ?_
  all_goals
    rw [desc]
    split
    · next he => simp [he, loading, waiting, owner, successor, Desc.live]
    · simp

/-- R25, R53, R56: a record that is not listed changes, and the list and the line stay. -/
theorem State.KeepsPlan.of_unlisted {s t : State} (sound : s.KeepsSound t)
    (chains : s.Sound → s.ChainsSound → t.ChainsSound) {d : DescIdx} (off : (s.desc d).state ≠ .onLine)
    (waits : (s.desc d).state ≠ .waiting)
    (spans : ∀ e, e ≠ d → (t.desc e).span = (s.desc e).span ∧ (t.desc e).actualStart = (s.desc e).actualStart)
    (base : (t.sched.timed, t.disp, t.clock.time, t.prof.active) =
      (s.sched.timed, s.disp, s.clock.time, s.prof.active)) : s.KeepsPlan t := by
  simp only [Prod.mk.injEq] at base
  obtain ⟨timed, disp, time, active⟩ := base
  have thins (hs : s.Sound) : s.Thins t := by
    refine ⟨by rw [timed], fun e he => (spans e ?_).1, time, active⟩
    rintro rfl
    exact waits ((hs.sched.timed e).1 (timed ▸ he)).1
  refine ⟨sound, chains, fun hs h => h.thin (thins hs).timed (thins hs).spans,
    fun hs list line => ⟨list.thin (thins hs) ((sound hs).2 list.store), ?_⟩⟩
  refine line.thin (thins hs) (by rw [disp]) (by rw [disp]) (fun _ => by rw [disp]) (by rw [disp]) fun e he =>
    (spans e ?_).2
  rintro rfl
  exact off ((hs.line.onLine e).2 he)

/-- R53: an ASAP frame joins its queue. -/
theorem State.keepsPlan_admitAsap (s : State) (d : DescIdx) (t : Timing) {p : Port}
    (loading : (s.desc d).state = .loading) (owner : (s.desc d).owner = some p) (cls : (s.desc d).cls = .asap) :
    s.KeepsPlan (s.admitAsap d t) := by
  have desc (e : DescIdx) : (s.admitAsap d t).desc e =
      if e = d then (s.desc d).admitAsap t s.now s.sched.counter else s.desc e := s.desc_setDesc d e _
  refine .of_unlisted (d := d) ?_ (fun _ h => h.admission desc loading rfl rfl rfl) (by simp [loading]) (by simp [loading])
    (fun e he => by rw [desc, if_neg he]; exact ⟨rfl, rfl⟩) rfl
  refine State.keepsSound_admit (x := (s.desc d).admitAsap t s.now s.sched.counter) loading (.of_eq ?_) owner
    (by simp [Desc.admitAsap]) desc rfl ?_ ?_
    (by simp [Desc.admitAsap]) fun _ hc => by simp [Desc.admitAsap, cls] at hc
  · simp [Desc.admitAsap, Desc.live, loading]
  · rw [if_neg (by simp [Desc.admitAsap, cls])]
    exact .refl _
  · rw [if_pos (by simp [Desc.admitAsap, cls])]
    exact s.sched.asap.order_join_perm _ d

/-- R55, R56: a CHAINED frame joins the held set behind its predecessor. -/
theorem State.keepsPlan_admitChained (s : State) (d e : DescIdx) (t : Timing) (pred : Byte) {p : Port}
    (loading : (s.desc d).state = .loading) (own : (s.desc d).ownedBy p = true) (ownE : (s.desc e).ownedBy p = true)
    (cls : (s.desc d).cls = .chained) (hed : e ≠ d) (behind : e ∉ s.chainAfter chainFuel d)
    (last : (s.desc e).successor = none) : s.KeepsPlan (s.admitChained d e t pred) := by
  have desc (a : DescIdx) : (s.admitChained d e t pred).desc a = if a = d then (s.desc d).admitChained t pred
      else if a = e then { s.desc e with successor := some d } else s.desc a := by
    rw [State.admitChained, State.desc_modDesc, State.desc_setDesc, State.desc_setDesc, if_neg hed]
    by_cases had : a = d
    · rw [if_neg (had ▸ hed.symm), if_pos had, if_pos had]
    · rw [if_neg had, if_neg had]
  refine .of_unlisted (d := d) ?_ (fun _ h => h.admitChained
    (x := (s.desc d).admitChained t pred) loading own ownE hed behind last rfl rfl rfl desc)
    (by simp [loading]) (by simp [loading]) (fun a ha => ?_) rfl
  · refine State.KeepsSound.trans (t := s.setDesc d ((s.desc d).admitChained t pred)) ?_
      (State.keepsSound_modDesc _ e _ (.of_eq rfl) (.of_eq rfl))
    refine State.keepsSound_admit (x := (s.desc d).admitChained t pred) loading (.of_eq ?_) (((s.desc d).ownedBy_iff p).1 own).2 (by simp [Desc.admitChained])
      (fun a => s.desc_setDesc d a _) rfl ?_ ?_ (fun _ => cls) (by simp [Desc.admitChained])
    · simp [Desc.admitChained, Desc.live, loading]
    · rw [if_neg (by simp [Desc.admitChained])]
      exact .refl _
    · rw [if_neg (by simp [Desc.admitChained])]
      exact .refl _
  · rw [desc, if_neg ha]
    split
    · next hae => exact hae ▸ ⟨rfl, rfl⟩
    · exact ⟨rfl, rfl⟩

/-- R4: the class of a time that a SUBMIT may give. -/
theorem classOf_eq_ahead_iff (now t : Time) : classOf now t = .ahead ↔ 32 ≤ distance now t ∧ distance now t ≤ 2 ^ 30 := by
  unfold classOf Config.lead Config.horizon
  dsimp only
  split_ifs <;> simp <;> omega

/-- R50, R51: a TIMED frame with a start ahead and an interval apart from the standing ones. -/
theorem State.keepsPlan_admitTimed (s : State) (d : DescIdx) (start : Time) (slip : Nat) {p : Port}
    (loading : (s.desc d).state = .loading) (owner : (s.desc d).owner = some p) (cls : (s.desc d).cls = .timed)
    (ahead : classOf s.now start = .ahead)
    (room : s.firstConflict start (plus start ((s.desc d).reservation s.prof.active)) = none) :
    s.KeepsPlan (s.admitTimed d start slip) := by
  have desc (e : DescIdx) : (s.admitTimed d start slip).desc e =
      if e = d then (s.desc d).admitTimed start slip s.prof.active s.sched.counter else s.desc e := s.desc_setDesc d e _
  have descD : (s.admitTimed d start slip).desc d = _ := (desc d).trans (if_pos rfl)
  have perm : (s.admitTimed d start slip).sched.timed.Perm (d :: s.sched.timed) :=
    insertByStart_perm s d start s.sched.timed
  have sound : s.KeepsSound (s.admitTimed d start slip) := by
    refine State.keepsSound_admit (x := (s.desc d).admitTimed start slip s.prof.active s.sched.counter) loading (.of_eq ?_)
      owner (by simp [Desc.admitTimed]) desc rfl ?_ ?_
      (by simp [Desc.admitTimed]) fun _ _ => ⟨start, _, rfl, rfl, rfl⟩
    · simp [Desc.admitTimed, Desc.live, loading]
    · rwa [if_pos ⟨rfl, cls⟩]
    · rw [if_neg fun h => h.2 cls]
      exact .refl _
  have listed (e : DescIdx) (he : e ∈ (s.admitTimed d start slip).sched.timed) :
      e = d ∨ (e ≠ d ∧ e ∈ s.sched.timed ∧ (s.admitTimed d start slip).desc e = s.desc e) := by
    by_cases hed : e = d
    · exact .inl hed
    · exact .inr ⟨hed, (List.mem_cons.1 (perm.mem_iff.1 he)).resolve_left hed, by rw [desc, if_neg hed]⟩
  have apart (h : s.ListedApart) : (s.admitTimed d start slip).ListedApart := by
    intro e he f hf hef a b a' b' ha hb ha' hb'
    rcases listed e he with rfl | ⟨hed, hmem, same⟩
    · obtain ⟨hfd, hmem, same⟩ := (listed f hf).resolve_left hef.symm
      rw [descD] at ha hb
      rw [same] at ha' hb'
      obtain rfl := Option.some.inj ha
      obtain rfl := Option.some.inj hb
      exact State.clear_of_firstConflict room (State.mem_standing_of_listed hmem ha' hb')
    · rw [same] at ha hb
      rcases listed f hf with rfl | ⟨-, hmem', same'⟩
      · rw [descD] at ha' hb'
        obtain rfl := Option.some.inj ha'
        obtain rfl := Option.some.inj hb'
        rw [overlap_comm]
        exact State.clear_of_firstConflict room (State.mem_standing_of_listed hmem ha hb)
      · rw [same'] at ha' hb'
        exact h e hmem f hmem' hef a b a' b' ha hb ha' hb'
  refine ⟨sound, fun _ h => h.admission desc loading rfl rfl rfl, fun _ => apart, fun hs list line => ⟨?_, ?_⟩⟩
  · have live : (s.desc d).live = true := by simp [Desc.live, loading]
    obtain ⟨length, -, longest⟩ := list.reservation live
    obtain ⟨-, horizon⟩ := (classOf_eq_ahead_iff _ _).1 ahead
    have reach : offset s.now start = distance s.now start := offset_eq_distance (by omega)
    have near : Near s.now start := by unfold Near; omega
    have stop := offset_plus (now := s.now) (t := start) (n := (s.desc d).reservation s.prof.active) (by omega)
    have nearStop : Near s.now (plus start ((s.desc d).reservation s.prof.active)) := by unfold Near; omega
    have strict {e : DescIdx} {u : Time} (booked : s.Booked e u) (he : e ∈ s.sched.timed) :
        offset s.now start ≠ offset s.now u := fun heq => by
      have hout := State.clear_of_firstConflict room (State.mem_standing_of_listed he booked.resStart booked.resEnd)
      have := booked.length
      rcases overlap_eq_false_iff.1 hout with out | out
      · have := mt (near.before_iff booked.near_stop).2 (by simp [out])
        rw [booked.stop] at this
        omega
      · have := mt (booked.near.before_iff nearStop).2 (by simp [out])
        omega
    refine ⟨(sound hs).2 list.store, list.active, fun e he a ha => ?_, apart list.apart, ⟨?_, fun e he a ha => ?_⟩⟩
    · rcases listed e he with rfl | ⟨-, hmem, same⟩
      · rw [descD] at ha
        obtain rfl := Option.some.inj ha
        exact .inl horizon
      · exact list.listed e hmem a (same ▸ ha)
    · have startD {a : Time} (ha : ((s.admitTimed d start slip).desc d).start = some a) : start = a :=
        Option.some.inj (by rw [descD] at ha; exact ha)
      have other {e : DescIdx} (he : e ∈ s.sched.timed) : (s.admitTimed d start slip).desc e = s.desc e := by
        refine (desc e).trans (if_neg fun hed => ?_)
        simp [hed ▸ ((hs.sched.timed e).1 he).1] at loading
      have before_iff {e : DescIdx} (he : e ∈ s.sched.timed) {u : Time} (hu : (s.desc e).start = some u) :
          (before start u = true ↔ offset s.now start < offset s.now u) ∧
          (before u start = true ↔ offset s.now u < offset s.now start) ∧
          offset s.now start ≠ offset s.now u := by
        obtain ⟨u', booked⟩ := list.booked hs.sched he
        obtain rfl : u' = u := Option.some.inj (booked.start.symm.trans hu)
        exact ⟨near.before_iff booked.near, booked.near.before_iff near, strict booked he⟩
      refine insertByStart_pairwise s d start
        (R := fun e f => ∀ a b, ((s.admitTimed d start slip).desc e).start = some a →
          ((s.admitTimed d start slip).desc f).start = some b → before a b = true) ?_ (fun e he => ?_)
        (fun e he u hu hb a b ha hb' => ?_) (fun e he u hu hb a b ha hb' => ?_) fun e he f hf hde hef a b ha hb => ?_
      · refine list.ordered.ordered.imp_of_mem fun {e f} he hf hef => ?_
        rw [other he, other hf]
        exact hef
      · obtain ⟨u, -, hu, -⟩ := hs.sched.starts e he
        simp [hu]
      · obtain rfl := startD ha
        rw [other he, hu] at hb'
        exact Option.some.inj hb' ▸ hb
      · obtain rfl := startD hb'
        rw [other he, hu] at ha
        obtain rfl := Option.some.inj ha
        obtain ⟨fwd, back, ne⟩ := before_iff he hu
        have := mt fwd.2 (by simp [hb])
        exact back.2 (by omega)
      · obtain rfl := startD ha
        obtain ⟨u, booked⟩ := list.booked hs.sched he
        obtain ⟨v, booked'⟩ := list.booked hs.sched hf
        rw [other hf] at hb
        obtain rfl := Option.some.inj (booked'.start.symm.trans hb)
        have one := (before_iff he booked.start).1.1 (hde start u ha (by rw [other he]; exact booked.start))
        have two := (booked.near.before_iff booked'.near).1
          (hef u v (by rw [other he]; exact booked.start) (by rw [other hf]; exact booked'.start))
        exact (before_iff hf booked'.start).1.2 (by omega)
    · rcases listed e he with rfl | ⟨-, hmem, same⟩
      · rw [descD] at ha ⊢
        obtain rfl := Option.some.inj ha
        rfl
      · rw [same] at ha ⊢
        exact list.ordered.lengths e hmem a ha
  · have slot (e : DescIdx) (he : s.disp.slot = some e) : (s.admitTimed d start slip).desc e = s.desc e := by
      refine (desc e).trans (if_neg fun hed => ?_)
      have on := (hs.line.onLine e).2 he
      simp [hed, loading] at on
    have occupied : (s.admitTimed d start slip).occupied = s.occupied :=
      State.occupied_congr .rfl rfl (fun _ => rfl) rfl rfl fun e he => by rw [slot e he]
    refine ⟨fun e he => ?_, fun i hi e he a b ha hb => ?_⟩
    · rw [slot e he]
      exact line.line e he
    · rw [occupied] at hi
      rcases listed e he with rfl | ⟨-, hmem, same⟩
      · rw [descD] at ha hb
        obtain rfl := Option.some.inj ha
        obtain rfl := Option.some.inj hb
        rw [overlap_comm]
        exact State.clear_of_firstConflict room (State.mem_standing_of_occupied hi)
      · rw [same] at ha hb
        exact line.apart i hi e hmem a b ha hb

end Sys2Proof.Machine
end

section
/-! Reserved times, continued: the commands and the rows (O57, O58). -/

namespace Sys2Proof.Machine

/-! ### Commands of the frames -/

/-- R24, R25: a LOAD_BEGIN is answered, or takes the first FREE record. -/
theorem State.doLoadBegin_cases (p : Port) (tag : Byte) (fields : List Byte) (s : State) :
    (∃ r, State.doLoadBegin p tag fields s = s.reply p Config.codeLoadBegin tag r) ∨
    ∃ (x : Shape) (d : DescIdx) (segs : List SegIdx) (data : ReplyData), (s.desc d).live = false ∧
      State.doLoadBegin p tag fields s =
        (s.setDesc d (x.desc p segs)).reply p Config.codeLoadBegin tag .loadReady data := by
  unfold State.doLoadBegin
  dsimp only
  split
  · exact .inl ⟨_, rfl⟩
  · split
    · exact .inl ⟨_, rfl⟩
    · split
      · exact .inl ⟨_, rfl⟩
      · split
        · next hfree => exact .inr ⟨_, _, _, _, State.not_live_of_firstFree hfree, rfl⟩
        · exact .inl ⟨_, rfl⟩
        · exact .inl ⟨_, rfl⟩

theorem State.keepsPlan_doLoadBegin (p : Port) (tag : Byte) (fields : List Byte) (s : State) :
    s.KeepsPlan (State.doLoadBegin p tag fields s) := by
  have sound := s.keepsSound_doLoadBegin p tag fields
  rcases s.doLoadBegin_cases p tag fields with ⟨r, e⟩ | ⟨x, d, segs, data, free, e⟩
  · rw [e]
    exact s.keepsPlan_reply
  · rw [e] at sound ⊢
    have state : (s.desc d).state = .free := by simpa [Desc.live] using free
    refine .of_unlisted (d := d) sound (fun _ h => h.allocate (x := x.desc p segs) free rfl nofun fun e => ?_)
      (by simp [state]) (by simp [state]) (fun e he => ?_) rfl
    · exact s.desc_setDesc d e _
    · have : ((s.setDesc d (x.desc p segs)).reply p Config.codeLoadBegin tag .loadReady data).desc e = s.desc e :=
        (s.desc_setDesc d e _).trans (if_neg he)
      rw [this]
      exact ⟨rfl, rfl⟩

theorem State.keepsPlan_doLoadData (p : Port) (tag : Byte) (fields : List Byte) (s : State) :
    s.KeepsPlan (State.doLoadData p tag fields s) := by
  have loaded (d : DescIdx) (off : Nat) (payload : List Byte) : s.KeepsPlan (s.loadPayload d off payload) :=
    have written : s.KeepsPlan
        { s with store := { s.store with pool := writePayload (s.desc d).segs off payload s.store.pool } } :=
      State.SamePlan.keepsPlan (.of_eq rfl)
    written.trans (State.keepsPlan_modDesc _ d (fun x => { x with fill := off + payload.length }) rfl)
  refine .check fun _ => ?_
  split
  · exact s.keepsPlan_reply
  · split
    · exact s.keepsPlan_reply
    · exact .check fun _ => .check fun _ => .check fun _ => (loaded _ _ _).reply

theorem State.keepsPlan_doQueryFrame (p : Port) (tag : Byte) (fields : List Byte) (s : State) :
    s.KeepsPlan (State.doQueryFrame p tag fields s) := by
  refine .check fun _ => ?_
  split
  · exact s.keepsPlan_reply
  · split
    · exact s.keepsPlan_reply
    · split
      · exact s.keepsPlan_reply
      · exact s.keepsPlan_reply

theorem State.keepsPlan_submitTimed (s : State) (p : Port) (tag : Byte) (d : DescIdx) (t : Timing) (start : Time)
    (loading : (s.desc d).state = .loading) (owner : (s.desc d).owner = some p) (cls : (s.desc d).cls = .timed) :
    s.KeepsPlan (s.submitTimed p tag d t start) := by
  unfold State.submitTimed
  dsimp only
  split
  · exact s.keepsPlan_reply
  · exact s.keepsPlan_reply
  · exact s.keepsPlan_reply
  · next ahead =>
    split
    · exact s.keepsPlan_reply
    · next room => exact (s.keepsPlan_admitTimed d start _ loading owner cls ahead room).reply.decide

theorem State.keepsPlan_submitAsap (s : State) (p : Port) (tag : Byte) (d : DescIdx) (t : Timing)
    (loading : (s.desc d).state = .loading) (owner : (s.desc d).owner = some p) (cls : (s.desc d).cls = .asap) :
    s.KeepsPlan (s.submitAsap p tag d t) := by
  unfold State.submitAsap
  split
  · exact s.keepsPlan_reply
  · exact (s.keepsPlan_admitAsap d t loading owner cls).reply.decide

theorem State.keepsPlan_submitChained (s : State) (p : Port) (tag : Byte) (d : DescIdx) (t : Timing) (pred : Byte)
    (loading : (s.desc d).state = .loading) (own : (s.desc d).ownedBy p = true) (cls : (s.desc d).cls = .chained) :
    s.KeepsPlan (s.submitChained p tag d t pred) := by
  unfold State.submitChained
  split
  · exact s.keepsPlan_reply
  · next e hfind =>
    refine .check fun hloop => ?_
    obtain ⟨hed, behind⟩ := not_or.1 hloop
    have ownE := (State.owned_of_findTag hfind).1
    split
    · exact s.keepsPlan_reply
    · next last =>
      split
      · exact s.keepsPlan_reply
      · exact s.keepsPlan_reply
      · exact (s.keepsPlan_admitChained d e t pred loading own ownE cls hed behind last).reply

theorem State.keepsPlan_doSubmit (p : Port) (tag : Byte) (fields : List Byte) (s : State) :
    s.KeepsPlan (State.doSubmit p tag fields s) := by
  refine .check fun _ => .check fun _ => ?_
  split
  · exact s.keepsPlan_reply
  · split
    · exact s.keepsPlan_reply
    · next d hfind =>
      refine .check fun hloading => .check fun _ => .check fun _ => ?_
      have loading : (s.desc d).state = .loading := not_not.1 hloading
      have own := (State.owned_of_findTag hfind).1
      have owner := (((s.desc d).ownedBy_iff p).1 own).2
      split
      · next cls => exact s.keepsPlan_submitTimed p tag d _ _ loading owner cls
      · next cls => exact s.keepsPlan_submitAsap p tag d _ loading owner cls
      · next cls => exact s.keepsPlan_submitChained p tag d _ _ loading own cls

theorem State.keepsPlan_doCancel (p : Port) (tag : Byte) (fields : List Byte) (s : State) :
    s.KeepsPlan (State.doCancel p tag fields s) := by
  have marked (d : DescIdx) : s.KeepsPlan (s.cancelOnLine p tag d) := by
    unfold State.cancelOnLine
    dsimp only
    split
    · exact (s.keepsPlan_modDesc d (fun y => { y with truncate := true }) rfl).reply
    · exact s.keepsPlan_reply
  have withdrawn (d : DescIdx) (hd : (s.desc d).state ≠ .onLine) : s.KeepsPlan (s.cancelWaiting p tag d) :=
    ((s.keepsPlan_retireNow d _ _ _ (fun _ => hd) (by simp [FrameOutcome.releases])).reply.trans (State.keepsPlan_complete _ p)).decideIfLeft _
  refine .check fun _ => ?_
  split
  · exact s.keepsPlan_reply
  · split
    · exact s.keepsPlan_reply
    · split
      · exact marked _
      · next hd => exact withdrawn _ hd

theorem State.keepsPlan_doQueryFree (p : Port) (tag : Byte) (fields : List Byte) (s : State) :
    s.KeepsPlan (State.doQueryFree p tag fields s) := by
  refine .check fun _ => ?_
  split
  · exact s.keepsPlan_reply
  · refine .check fun _ => ?_
    split
    · exact s.keepsPlan_reply
    · exact s.keepsPlan_reply

/-! ### Commands of the line, the profile and the sessions -/

theorem State.keepsPlan_enableLine (s : State) : s.KeepsPlan s.enableLine := by
  unfold State.enableLine
  split
  · next h => exact (s.keepsPlan_moveLine _ _ (by simp [LineState.Carries, h])).decide
  · next h => exact s.keepsPlan_moveLine _ _ (by simp [LineState.Carries, h])
  all_goals exact .refl s

theorem State.keepsPlan_doLineEnable (p : Port) (tag : Byte) (fields : List Byte) (s : State) :
    s.KeepsPlan (State.doLineEnable p tag fields s) := by
  unfold State.doLineEnable
  split
  · exact s.keepsPlan_reply
  · exact .check fun _ => s.keepsPlan_enableLine.reply

theorem State.keepsPlan_disableLine (s : State) : s.KeepsPlan s.disableLine := by
  have rested (hl : ¬ s.disp.line.Carries) : s.KeepsPlan (s.enterDisabled .hostDisable) :=
    s.keepsPlan_enterDisabled _ fun h => (h.line.rest hl).2.1
  unfold State.disableLine
  split
  · next h => exact rested (by simp [LineState.Carries, h])
  · next h => exact rested (by simp [LineState.Carries, h])
  · next h => exact s.keepsPlan_moveLine _ _ (by simp [LineState.Carries, h])
  all_goals exact .refl s

theorem State.keepsPlan_doLineDisable (p : Port) (tag : Byte) (fields : List Byte) (s : State) :
    s.KeepsPlan (State.doLineDisable p tag fields s) := by
  unfold State.doLineDisable
  split
  · exact s.keepsPlan_reply
  · exact s.keepsPlan_disableLine.reply

theorem State.keepsPlan_doRecover (p : Port) (tag : Byte) (fields : List Byte) (s : State) :
    s.KeepsPlan (State.doRecover p tag fields s) := by
  unfold State.doRecover
  split
  · exact s.keepsPlan_reply
  · refine .check fun hfault => .check fun _ => ?_
    exact (s.keepsPlan_moveLine _ _ (by simp [LineState.Carries, not_not.1 hfault])).decide.reply

theorem State.keepsPlan_doClaim (p : Port) (tag : Byte) (fields : List Byte) (s : State) :
    s.KeepsPlan (State.doClaim p tag fields s) :=
  have granted : s.KeepsPlan (s.grant p) := State.SamePlan.keepsPlan (.of_eq rfl)
  .check fun _ => .check fun _ => .check fun _ => .check fun _ => granted.reply

theorem State.keepsPlan_doRelease (p : Port) (tag : Byte) (fields : List Byte) (s : State) :
    s.KeepsPlan (State.doRelease p tag fields s) := by
  unfold State.doRelease
  split
  · exact s.keepsPlan_reply
  · exact (s.keepsPlan_releaseClaim p).reply

theorem State.keepsPlan_doStage (p : Port) (tag : Byte) (fields : List Byte) (s : State) :
    s.KeepsPlan (State.doStage p tag fields s) := by
  have staged (w : Profile) : s.KeepsPlan { s with prof := { s.prof with staged := some w } } :=
    State.SamePlan.keepsPlan (.of_eq rfl)
  refine .check fun _ => ?_
  split
  · exact s.keepsPlan_reply
  · refine .check fun _ => ?_
    split
    · exact s.keepsPlan_reply
    · exact (staged _).reply

theorem State.keepsPlan_doQueryProfile (p : Port) (tag : Byte) (fields : List Byte) (s : State) :
    s.KeepsPlan (State.doQueryProfile p tag fields s) := by
  unfold State.doQueryProfile
  dsimp only
  split
  · exact s.keepsPlan_reply
  · exact s.keepsPlan_reply
  · exact .check fun _ => s.keepsPlan_reply

theorem State.keepsPlan_doReadCapture (p : Port) (tag : Byte) (fields : List Byte) (s : State) :
    s.KeepsPlan (State.doReadCapture p tag fields s) := by
  refine .check fun _ => ?_
  split
  · exact (s.keepsPlan_modPort p PortState.emptySlot).reply
  · exact s.keepsPlan_reply

/-- R10: the time is set only where no live descriptor carries one, so with nothing listed and the line DISABLED. -/
theorem State.keepsPlan_setTime (s : State) (t : Time) (disabled : s.disp.line = .disabled) (none : s.timesCarried = 0) :
    s.KeepsPlan { s with clock := { s.clock with time := t, prescale := 0 } } := by
  have empty (h : s.Sound) : s.sched.timed = [] := by
    refine List.eq_nil_iff_forall_not_mem.2 fun d hd => ?_
    obtain ⟨waiting, cls⟩ := (h.sched.timed d).1 hd
    have carries : (s.desc d).carriesTime = true := by simp [Desc.carriesTime, waiting, cls]
    exact List.countP_eq_zero.1 none (s.desc d) (by simp [s.descs_toList]) carries
  refine ⟨.of_eq rfl, fun _ h => h.congr (fun _ => rfl) (fun _ => .rfl) (fun _ => rfl) fun _ => rfl,
    fun hs _ d hd => ?_, fun hs list _ => ⟨⟨?_, list.active, fun d hd => ?_, fun d hd => ?_, ⟨?_, fun d hd => ?_⟩⟩,
    .of_rest (hs.line.rest (by simp [disabled, LineState.Carries])).2.1
      (by simp [(hs.line.rest (by simp [disabled, LineState.Carries])).1])⟩⟩
  · exact absurd (empty hs ▸ hd) List.not_mem_nil
  · exact list.store.of_bodies fun _ => .inl (.of_eq rfl)
  · exact absurd (empty hs ▸ hd) List.not_mem_nil
  · exact absurd (empty hs ▸ hd) List.not_mem_nil
  · exact empty hs ▸ List.Pairwise.nil
  · exact absurd (empty hs ▸ hd) List.not_mem_nil

theorem State.keepsPlan_doSetTime (p : Port) (tag : Byte) (fields : List Byte) (s : State) :
    s.KeepsPlan (State.doSetTime p tag fields s) := by
  refine .check fun _ => ?_
  split
  · exact s.keepsPlan_reply
  · exact .check fun _ => .check fun hline => .check fun hnone =>
      (s.keepsPlan_setTime _ (not_not.1 hline) (not_not.1 hnone)).reply

theorem State.keepsPlan_doOpen (p : Port) (tag : Byte) (fields : List Byte) (s : State) :
    s.KeepsPlan (State.doOpen p tag fields s) := by
  unfold State.doOpen
  dsimp only
  split
  · exact s.keepsPlan_reply
  · exact .check fun _ => .check fun _ => (s.keepsPlan_modPort p _).reply

theorem State.keepsPlan_doClose (p : Port) (tag : Byte) (fields : List Byte) (s : State) :
    s.KeepsPlan (State.doClose p tag fields s) := by
  have closing (form : CloseForm) : s.KeepsPlan (s.startClosing p form) :=
    (s.keepsPlan_releaseClaim p).trans (State.keepsPlan_modPort _ p _)
  refine .check fun _ => ?_
  split
  · exact s.keepsPlan_reply
  · have purged := ((closing .purge).trans (State.keepsPlan_purgeWalk _ p)).trans (State.keepsPlan_markOnLine _ p)
    exact (purged.reply.trans (State.keepsPlan_complete _ p)).decideIfLeft _
  · exact .check fun _ => (closing .drain).reply.trans (State.keepsPlan_complete _ p)

/-! ### Links -/

theorem State.keepsPlan_begun (s : State) (p : Port) (goesOn : Bool) : s.KeepsPlan (s.begun p goesOn) := by
  rw [State.begun_cases]
  exact s.keepsPlan_modPort p _

theorem State.keepsPlan_answered (s : State) (p : Port) (msg : List Byte) (crc : Byte) (a : Acceptance) :
    s.KeepsPlan (s.answered p msg crc a) := by
  rw [State.answered_eq]
  exact s.keepsPlan_modPort p _

theorem State.keepsPlan_refuse (s : State) (p : Port) (msg : List Byte) (crc : Byte) (a : Acceptance) :
    s.KeepsPlan (s.refuse p msg crc a) := by
  have k := s.keepsPlan_answered p msg crc a
  cases a
  · exact k
  · exact k
  · exact k.trans (State.keepsPlan_modPort _ p _)
  · exact k.trans (State.keepsPlan_modPort _ p _)

/-- R179: what a REQUEST makes of the part: its command's effect on a part of the same plan, or nothing beside its port. -/
theorem State.request_cases (s : State) (p : Port) (code tag : Byte) (fields : List Byte) (act : State → State) :
    (∃ ps, s.request p code tag fields act = { s with ports := ps }) ∨
      ∃ ps, s.request p code tag fields act = act { s with ports := ps } := by
  have refused (msg : List Byte) (crc : Byte) (a : Acceptance) : ∃ ps, s.refuse p msg crc a = { s with ports := ps } := by
    unfold State.refuse
    rw [State.answered_eq]
    cases a
    all_goals exact ⟨_, rfl⟩
  unfold State.request
  split
  · exact .inl ⟨s.ports, rfl⟩
  · dsimp only
    split
    · refine .inl ?_
      unfold State.tooLong
      rw [State.begun_cases]
      exact ⟨_, rfl⟩
    · split
      · refine .inr ?_
        rw [State.answered_eq, State.renew_eq]
        exact ⟨_, rfl⟩
      · exact .inl (refused _ _ _)

/-- R179: a REQUEST keeps the plan where its command does. -/
theorem State.keepsPlan_request (s : State) {p : Port} {code tag : Byte} {fields : List Byte} {act : State → State}
    (hact : ∀ t : State, t.KeepsPlan (act t)) : s.KeepsPlan (s.request p code tag fields act) := by
  have taken (ps : Ports) : s.KeepsPlan { s with ports := ps } := State.SamePlan.keepsPlan (.of_eq rfl)
  rcases s.request_cases p code tag fields act with ⟨ps, e⟩ | ⟨ps, e⟩
  · exact e ▸ taken ps
  · exact e ▸ (taken ps).trans (hact _)

/-! ### Rows of the table -/

/-- A row's outcome keeps the plan. -/
def State.PlannedBy (s : State) (o : Host.Outcome State Fault Refusal) : Prop := ∀ t, o = .next t → s.KeepsPlan t

theorem State.KeepsPlan.next {s t : State} (h : s.KeepsPlan t) : s.PlannedBy (.next t) := fun u hu => by
  obtain rfl := Host.Outcome.next.inj hu
  exact h

/-- An event that is due, or that leaves the state as it is (log 1). -/
theorem State.KeepsPlan.due {s t : State} {c : Prop} [Decidable c] (h : c → s.KeepsPlan t) :
    s.PlannedBy (if c then .next t else .next s) := by
  split
  · next hc => exact (h hc).next
  · exact (State.KeepsPlan.refl s).next

/-- While RESETn is low the row has no effect. -/
theorem State.KeepsPlan.running {s t : State} {c : Prop} [Decidable c] (h : s.KeepsPlan t) :
    s.PlannedBy (if c then .next s else .next t) := by
  split
  · exact (State.KeepsPlan.refl s).next
  · exact h.next

/-- R185: a reset leaves nothing planned. -/
theorem State.KeepsPlan.of_reset {s t : State} (h : State.reset.SamePlan t) : s.KeepsPlan t := by
  obtain ⟨sched, line, profile, -, store, chains, apart, ordered, fromLine, onTime, -⟩ := invariantsAtReset
  have sound := h.keepsSound ⟨sched, line⟩
  have timely := h.keepsPlan.timely ⟨sched, line⟩ ⟨store, profile.active, onTime.listed, apart, ordered⟩
    ⟨onTime.line, fromLine⟩
  exact ⟨fun _ => ⟨sound.1, fun _ => sound.2 store⟩, fun _ _ => h.chainsSound chains,
    fun _ _ => apart.thin h.thins.timed h.thins.spans, fun _ _ _ => timely⟩

theorem execPreambleEnd_planned (s : State) : s.PlannedBy (execPreambleEnd s) := by
  intro t ht
  have sound := execPreambleEnd_sound s t ht
  unfold execPreambleEnd at ht
  split at ht
  · next d hd =>
    obtain rfl := Host.Outcome.next.inj ht
    exact .of_goesOn sound rfl rfl (State.preambleEnded_spec hd).1 rfl
  · obtain rfl := Host.Outcome.next.inj ht
    exact .refl s

theorem execBodyEnd_planned (s : State) : s.PlannedBy (execBodyEnd s) := by
  unfold execBodyEnd
  split
  · next d hd => exact (s.keepsPlan_endBody d (State.slot_of_bodyEnded hd)).next
  · exact (State.KeepsPlan.refl s).next

theorem execGapEnd_planned (s : State) : s.PlannedBy (execGapEnd s) := by
  unfold execGapEnd
  split
  · next d hd =>
    have slot := State.slot_of_gapEnded hd
    split
    · exact (s.keepsPlan_frameEnd d slot).next
    · exact (s.keepsPlan_laterRepetition d slot).next
  · exact (State.KeepsPlan.refl s).next

theorem execEchoStop_planned (s : State) : s.PlannedBy (execEchoStop s) := by
  unfold execEchoStop
  split
  · next d hd => exact (s.keepsPlan_echoStopped d (State.slot_of_stopDue hd)).next
  · exact (State.KeepsPlan.refl s).next

theorem execGuardEnd_planned (s : State) : s.PlannedBy (execGuardEnd s) := by
  unfold execGuardEnd
  split
  · next hg =>
    split
    · refine State.KeepsPlan.next (State.KeepsPlan.decide (.of_line (.of_line ?_ (State.moveLine_sched _ _ _) fun h => ?_)
        ?_ ?_ fun h _ => .of_rest ?_ ?_))
      · rw [State.moveLine_store]
      · obtain ⟨slot, activity, off⟩ := State.guardEnded_rest hg h.line
        refine .of_rest (by simp [LineState.Carries]) (State.moveLine_phase _ _ _) ((State.moveLine_slot _ _ _).trans slot)
          (by rw [State.moveLine_enc]; exact activity) fun d => ?_
        rw [State.moveLine_desc]
        exact off d
      · rw [State.moveLine_store]
      · rw [State.moveLine_sched, State.moveLine_clock, State.moveLine_prof]
      · exact (State.moveLine_slot _ _ _).trans (State.guardEnded_rest hg h.line).1
      · simp
    · exact (s.keepsPlan_enterDisabled .drainEnd fun h => (State.guardEnded_rest hg h.line).1).next
    all_goals exact (State.KeepsPlan.refl s).next
  · exact (State.KeepsPlan.refl s).next

theorem execComparisonEvent_planned (s : State) : s.PlannedBy (execComparisonEvent s) := by
  unfold execComparisonEvent
  split
  · exact .due fun _ => s.keepsPlan_countMismatch _
  · exact (State.KeepsPlan.refl s).next

theorem execHoldEnd_planned (s : State) : s.PlannedBy (execHoldEnd s) := by
  unfold execHoldEnd
  split
  · next hh =>
    have fault : s.disp.line = .fault := by
      simp only [State.holdEnded, Bool.and_eq_true, decide_eq_true_eq] at hh
      exact hh.1.2
    split
    · exact (s.keepsPlan_moveLine .idle .holdEnd (by simp [LineState.Carries, fault])).decide.next
    · exact State.KeepsPlan.next (State.SamePlan.keepsPlan (.of_eq rfl))
  · exact (State.KeepsPlan.refl s).next

theorem execWindowExpiry_planned (d : DescIdx) (s : State) : s.PlannedBy (execWindowExpiry d s) := by
  refine .due fun hw => (s.keepsPlan_retireNow d _ _ _ (fun _ hon => ?_) fun _ => rfl).decide
  simp [State.windowPassed, hon] at hw

theorem execAsapExpiry_planned (d : DescIdx) (s : State) : s.PlannedBy (execAsapExpiry d s) := by
  refine .due fun hw => s.keepsPlan_retireNow d _ _ _ (fun _ hon => ?_) fun _ => rfl
  simp [State.asapExpiryDue, hon] at hw

theorem State.keepsPlan_lapse (s : State) (p : Port) : s.KeepsPlan (s.lapse p) :=
  have placed (t : State) (e : Entry) : t.KeepsPlan (t.place p e) := State.SamePlan.keepsPlan (.of_eq rfl)
  ((((s.keepsPlan_releaseClaim p).trans (State.keepsPlan_purgeWalk _ p)).trans
    (State.keepsPlan_markOnLine _ p)).trans (placed _ _)).trans (State.keepsPlan_modPort _ p _)

/-- R104, R114: REFCLK cycles inside a tick. -/
theorem State.keepsPlan_cycles (s : State) (n : Nat) : s.KeepsPlan (State.cycles n s) := by
  obtain ⟨clock, -, -, store, sched, disp, prof, -⟩ := State.cycles_frame n s
  exact State.SamePlan.keepsPlan (.of_eq (by rw [clock, store, sched, disp, prof, State.cycles_activity]))

theorem execLsenseChange_planned (cycles : Nat) (level : Level) (s : State) :
    s.PlannedBy (execLsenseChange cycles level s) := by
  unfold execLsenseChange
  split
  · exact State.KeepsPlan.next (State.SamePlan.keepsPlan (.of_eq rfl))
  · exact State.KeepsPlan.next ((s.keepsPlan_cycles _).trans (State.SamePlan.keepsPlan (.of_eq rfl)))

theorem execCarrierBurstEnd_planned (s : State) : s.PlannedBy (execCarrierBurstEnd s) := by
  unfold execCarrierBurstEnd
  split
  · exact (State.KeepsPlan.refl s).next
  · split
    · exact (s.keepsPlan_cycles _).next
    · exact (State.KeepsPlan.refl s).next

theorem execVoidTransaction_planned (p : Port) (stretch : Stretch) (s : State) :
    s.PlannedBy (execVoidTransaction p stretch s) := by
  unfold execVoidTransaction
  dsimp only
  split
  · exact (State.KeepsPlan.refl s).next
  · split
    · exact (s.keepsPlan_modPort p _).next
    · exact (State.KeepsPlan.refl s).next

theorem execRequestNotTaken_planned (p : Port) (msg : List Byte) (crc : Byte) (s : State) :
    s.PlannedBy (execRequestNotTaken p msg crc s) := by
  unfold execRequestNotTaken
  split
  · exact (State.KeepsPlan.refl s).next
  · split
    · exact (State.KeepsPlan.refl s).next
    · exact (s.keepsPlan_refuse p msg crc _).next

theorem execLinkReset_planned (p : Port) (s : State) : s.PlannedBy (execLinkReset p s) := by
  have reset (t : State) : t.KeepsPlan (t.resetLink p) :=
    ((t.keepsPlan_releaseClaim p).trans (State.keepsPlan_discardAll _ p)).trans (State.keepsPlan_modPort _ p _)
  exact .running ((((s.keepsPlan_begun p _).trans (State.keepsPlan_modPort _ p _)).trans (reset _)).decideIfLeft s)

/-- Every row of the table but TICK and COMMIT keeps the chains sound, and the reserved times while events are on time. -/
theorem exec_planned (i : Instr) (s : State) (tick : i ≠ .tick) (commit : ∀ p tag fields, i ≠ .commit p tag fields) :
    s.PlannedBy (exec i s) := by
  cases i with
  | chipReset => exact State.KeepsPlan.next (.of_reset (.of_eq rfl))
  | resetRelease tbsel pcsLow => exact .due fun _ => .of_reset (.of_eq rfl)
  | tick => exact absurd rfl tick
  | leaseLow p => exact .due fun _ => s.keepsPlan_modPort p _
  | lapse p => exact .due fun _ => (s.keepsPlan_lapse p).decideIfPurged s
  | captureEdge pin => exact .running (s.keepsPlan_modPort pin.port _)
  | timedStartReached => exact .due fun _ => s.keepsPlan_startDecision
  | notBeforeReached d =>
    exact .due fun _ => (s.keepsPlan_modDesc d (fun x => { x with eligible := true }) rfl).decide
  | windowExpiry d => exact execWindowExpiry_planned d s
  | asapExpiry d => exact execAsapExpiry_planned d s
  | heldExpiryPassed d => exact .due fun _ => s.keepsPlan_modDesc d (fun x => { x with expiry := .passed }) rfl
  | preambleEnd => exact execPreambleEnd_planned s
  | bodyEnd => exact execBodyEnd_planned s
  | gapEnd => exact execGapEnd_planned s
  | guardEnd => exact execGuardEnd_planned s
  | comparisonEvent => exact execComparisonEvent_planned s
  | echoStop => exact execEchoStop_planned s
  | holdEnd => exact execHoldEnd_planned s
  | strobePulseEnd p => exact .due fun _ => s.keepsPlan_modPort p _
  | openSession p tag fields => exact (s.keepsPlan_request (State.keepsPlan_doOpen p tag fields)).next
  | renew p tag fields =>
    exact (s.keepsPlan_request fun t => .check fun _ => .check fun _ => t.keepsPlan_reply).next
  | close p tag fields => exact (s.keepsPlan_request (State.keepsPlan_doClose p tag fields)).next
  | loadBegin p tag fields => exact (s.keepsPlan_request (State.keepsPlan_doLoadBegin p tag fields)).next
  | loadData p tag fields => exact (s.keepsPlan_request (State.keepsPlan_doLoadData p tag fields)).next
  | queryFrame p tag fields => exact (s.keepsPlan_request (State.keepsPlan_doQueryFrame p tag fields)).next
  | submit p tag fields => exact (s.keepsPlan_request (State.keepsPlan_doSubmit p tag fields)).next
  | cancel p tag fields => exact (s.keepsPlan_request (State.keepsPlan_doCancel p tag fields)).next
  | queryFree p tag fields => exact (s.keepsPlan_request (State.keepsPlan_doQueryFree p tag fields)).next
  | lineEnable p tag fields => exact (s.keepsPlan_request (State.keepsPlan_doLineEnable p tag fields)).next
  | lineDisable p tag fields => exact (s.keepsPlan_request (State.keepsPlan_doLineDisable p tag fields)).next
  | queryLine p tag fields =>
    exact (s.keepsPlan_request fun t => .check fun _ => (t.keepsPlan_modPort p _).reply).next
  | recover p tag fields => exact (s.keepsPlan_request (State.keepsPlan_doRecover p tag fields)).next
  | claim p tag fields => exact (s.keepsPlan_request (State.keepsPlan_doClaim p tag fields)).next
  | release p tag fields => exact (s.keepsPlan_request (State.keepsPlan_doRelease p tag fields)).next
  | stage p tag fields => exact (s.keepsPlan_request (State.keepsPlan_doStage p tag fields)).next
  | commit p tag fields => exact absurd rfl (commit p tag fields)
  | queryProfile p tag fields => exact (s.keepsPlan_request (State.keepsPlan_doQueryProfile p tag fields)).next
  | queryTime p tag fields => exact (s.keepsPlan_request fun t => .check fun _ => t.keepsPlan_reply).next
  | readCapture p tag fields => exact (s.keepsPlan_request (State.keepsPlan_doReadCapture p tag fields)).next
  | setTime p tag fields => exact (s.keepsPlan_request (State.keepsPlan_doSetTime p tag fields)).next
  | queryLink p tag fields => exact (s.keepsPlan_request fun t => .check fun _ => t.keepsPlan_reply).next
  | unknownCommand p code tag fields => exact .running (s.keepsPlan_request fun t => t.keepsPlan_reply)
  | poll p bytes => exact .running ((s.keepsPlan_begun p _).trans (State.keepsPlan_modPort _ p _))
  | voidTransaction p stretch => exact execVoidTransaction_planned p stretch s
  | linkReset p => exact execLinkReset_planned p s
  | failedConfirm p confirm => exact .running ((s.keepsPlan_begun p _).trans (State.keepsPlan_modPort _ p _))
  | requestNotTaken p msg crc => exact execRequestNotTaken_planned p msg crc s
  | lsenseChange cycles level => exact execLsenseChange_planned cycles level s
  | carrierBurstEnd => exact execCarrierBurstEnd_planned s

end Sys2Proof.Machine
end

section
/-! Chains stay sound (O57): the two rows left, TICK and COMMIT. -/

namespace Sys2Proof.Machine

/-! ### The tick -/

/-- R1, R2: a tick moves nothing of the plan but the time. -/
theorem State.wholeTick_plan (s : State) : (∀ d, s.wholeTick.desc d = s.desc d) ∧ s.wholeTick.sched = s.sched ∧
    s.wholeTick.disp = s.disp ∧ s.wholeTick.prof = s.prof ∧ s.wholeTick.clock.time = s.clock.time + 1 := by
  obtain ⟨clock, -, -, store, sched, disp, prof, -⟩ := State.cycles_frame s.cyclesLeft s
  refine ⟨fun d => congrArg (fun st : FrameStore => st.descs[d]) store, sched, disp, prof, ?_⟩
  show (State.cycles s.cyclesLeft s).clock.time + 1 = _
  rw [clock]

/-- R1, R185: a tick passes, or RESETn is low. -/
theorem execTick_cases {s t : State} (ht : execTick s = .next t) : t = s ∨ t = s.wholeTick := by
  unfold execTick at ht
  split at ht
  · exact .inl (Host.Outcome.next.inj ht).symm
  · exact .inr (Host.Outcome.next.inj ht).symm

theorem execTick_chains {s t : State} (h : s.ChainsSound) (ht : execTick s = .next t) : t.ChainsSound := by
  rcases execTick_cases ht with rfl | rfl
  · exact h
  · obtain ⟨desc, -⟩ := s.wholeTick_plan
    exact h.congr (fun d => by rw [desc]) (fun d => by rw [desc]) (fun d => by rw [desc]) fun d => by rw [desc]

/-! ### The revalidation walk -/

/-- R140, R141: what the walk does with one descriptor: it retires it, or gives it its end under the new profile. -/
theorem Walk.judge_cases (w : Walk) (d : DescIdx) :
    (w.rejects ((w.state.desc d).start.getD 0) = true ∧ (w.judge d).lastEnd = w.lastEnd ∧
      (w.judge d).state = w.state.retireNow d .rescheduled w.state.now none) ∨
    (w.rejects ((w.state.desc d).start.getD 0) = false ∧ (w.judge d).lastEnd =
        some (plus ((w.state.desc d).start.getD 0) ((w.state.desc d).reservation w.state.prof.active)) ∧
      (w.judge d).state = w.state.modDesc d fun x => { x with
        resEnd := some (plus ((w.state.desc d).start.getD 0) ((w.state.desc d).reservation w.state.prof.active)) }) := by
  unfold Walk.judge
  dsimp only
  split
  · next h => exact .inl ⟨h, rfl, rfl⟩
  · next h => exact .inr ⟨Bool.eq_false_iff.2 h, rfl, rfl⟩

/-- R140: the walk puts no frame on the line. -/
theorem Walk.judge_off (w : Walk) (d : DescIdx) {e : DescIdx} (he : (w.state.desc e).state ≠ .onLine) :
    ((w.judge d).state.desc e).state ≠ .onLine := by
  rcases w.judge_cases d with ⟨-, -, state⟩ | ⟨-, -, state⟩ <;> rw [state]
  · exact mt ((State.keepsTable_retire chainFuel d _ _ _ _).1.off e) he
  · rw [State.desc_modDesc]
    split
    · next hed => exact hed ▸ he
    · exact he

/-- R61, R141: the walk retires frames with their chains, or leaves the chains as they are. -/
theorem Walk.chainsSound_judges (l : List DescIdx) (w : Walk) (hl : ∀ d ∈ l, (w.state.desc d).state ≠ .onLine)
    (hs : w.state.Sound) (h : w.state.ChainsSound) : (l.foldl Walk.judge w).state.ChainsSound := by
  induction l generalizing w with
  | nil => exact h
  | cons d l ih =>
    refine ih (w.judge d) (fun e he => w.judge_off d (hl e (List.mem_cons_of_mem d he)))
      (Walk.keepsSound_judges [d] w (by simpa using hl d List.mem_cons_self) hs).1 ?_
    rcases w.judge_cases d with ⟨-, -, state⟩ | ⟨-, -, state⟩ <;> rw [state]
    · exact h.retireNow hs.sched d _ _ none fun _ => rfl
    · have same (e : DescIdx) := State.modDesc_relates
        (R := fun x y => y.state = x.state ∧ y.owner = x.owner ∧ y.successor = x.successor) (fun _ => ⟨rfl, rfl, rfl⟩)
        w.state d (fun x => { x with
          resEnd := some (plus ((w.state.desc d).start.getD 0) ((w.state.desc d).reservation w.state.prof.active)) })
        ⟨rfl, rfl, rfl⟩ e
      exact h.congr (fun e => by simp only [Desc.live, (same e).1]) (fun e => by rw [(same e).1]) (fun e => (same e).2.1)
        fun e => (same e).2.2

theorem State.chainsSound_doCommit (p : Port) (tag : Byte) (fields : List Byte) {s : State} (hs : s.Sound)
    (h : s.ChainsSound) : (State.doCommit p tag fields s).ChainsSound := by
  have replied {t : State} (k : t.ChainsSound) {r : ResultCode} {data : ReplyData} :
      (t.reply p Config.codeCommit tag r data).ChainsSound :=
    k.congr (fun _ => rfl) (fun _ => .rfl) (fun _ => rfl) fun _ => rfl
  unfold State.doCommit
  split
  · exact replied h
  · split
    · exact replied h
    · refine replied (Walk.chainsSound_judges s.activate.sched.timed { state := s.activate, .. } (fun d hd => ?_)
        ((show s.KeepsSound s.activate from .of_eq rfl) hs).1
        (h.congr (fun _ => rfl) (fun _ => .rfl) (fun _ => rfl) fun _ => rfl))
      show (s.desc d).state ≠ .onLine
      rw [((hs.sched.timed d).1 hd).1]
      exact nofun

theorem execCommit_chains {p : Port} {tag : Byte} {fields : List Byte} {s t : State} (hs : s.Sound) (h : s.ChainsSound)
    (ht : execCommit p tag fields s = .next t) : t.ChainsSound := by
  rw [← Host.Outcome.next.inj ht]
  have ported (ps : Ports) : s.KeepsPlan { s with ports := ps } := State.SamePlan.keepsPlan (.of_eq rfl)
  rcases s.request_cases p Config.codeCommit tag fields (State.doCommit p tag fields) with ⟨ps, e⟩ | ⟨ps, e⟩ <;> rw [e]
  · exact (ported ps).chains hs h
  · exact State.chainsSound_doCommit p tag fields ((ported ps).sound hs).1 ((ported ps).chains hs h)

/-- R47: every row keeps the chains sound. -/
theorem exec_chainsSound (i : Instr) {s t : State} (hs : s.Sound) (h : s.ChainsSound) (ht : exec i s = .next t) :
    t.ChainsSound := by
  by_cases tick : i = .tick
  · subst tick
    exact execTick_chains h ht
  · by_cases commit : ∃ p tag fields, i = .commit p tag fields
    · obtain ⟨p, tag, fields, rfl⟩ := commit
      exact execCommit_chains hs h ht
    · simp only [not_exists] at commit
      exact (exec_planned i s tick commit t ht).chains hs h

/-- Settles O57: a retirement takes a whole chain or releases its head, a discard whole chains, and an admission joins a
chain at its end. -/
theorem chainsStaySound : Obligations.ChainsStaySound := fun s t sched line chains hstep => by
  unfold step at hstep
  split at hstep
  · exact Host.Outcome.next.inj hstep ▸ chains
  · next c rest _ =>
    have taken : s.KeepsPlan { s with pending := rest } := State.SamePlan.keepsPlan (.of_eq rfl)
    exact exec_chainsSound c (taken.sound ⟨sched, line⟩).1 (taken.chains ⟨sched, line⟩ chains) hstep

end Sys2Proof.Machine
end

section
/-! Listed intervals stay apart (O58): TICK, and the revalidation of a COMMIT. -/

namespace Sys2Proof.Machine

/-! ### The tick -/

/-- R2, R3: a time that the advance of now makes ahead of it was ahead of it, but for the one half the count away. -/
theorem before_of_tick {now b : Time} (near : Near now b) (h : before (now + 1) b = true) : before now b = true := by
  have step : (b - now).toNat = ((b - (now + 1)).toNat + 1) % 2 ^ 32 := by
    have : (1 : Time).toNat = 1 := rfl
    simp only [BitVec.toNat_sub, BitVec.toNat_add, this]
    omega
  unfold Near offset at near
  rw [BitVec.toInt_eq_toNat_cond] at near
  rw [before, distance, decide_eq_true_iff] at h ⊢
  split at near <;> omega

/-- R42, R43: a tick taken on time moves no listed interval into the guard. -/
theorem State.ApartFromLine.tick {s : State} (list : s.ListTimely) (line : s.LineTimely) (sched : s.ScheduleSound) :
    s.wholeTick.ApartFromLine := by
  obtain ⟨desc, hsched, disp, -, time⟩ := s.wholeTick_plan
  intro i hi d hd a b ha hb
  rw [hsched] at hd
  rw [desc] at ha hb
  rw [State.occupied_eq, disp] at hi
  split at hi
  · next carries =>
    split at hi
    · next e slot =>
      obtain ⟨start, hstart, -⟩ := line.line e slot
      refine line.apart i ?_ d hd a b ha hb
      rw [State.occupied_eq, if_pos carries, slot]
      simpa [desc, hstart] using hi
    · next slot =>
      split at hi
      · next phase =>
        obtain rfl := Option.some.inj hi
        have before_ : s.occupied = some (s.clock.time, s.disp.guardEnd) := by
          simp [State.occupied_eq, carries, slot, phase]
        obtain ⟨a', booked⟩ := list.booked sched hd
        obtain rfl : a' = a := Option.some.inj (booked.resStart.symm.trans ha)
        have near : Near s.now b := Option.some.inj (booked.resEnd.symm.trans hb) ▸ booked.near_stop
        rcases overlap_eq_false_iff.1 (line.apart _ before_ d hd a' b ha hb) with out | out
        · refine overlap_eq_false_iff.2 (.inl (Bool.eq_false_iff.2 fun h => ?_))
          rw [time] at h
          exact Bool.eq_false_iff.1 out (before_of_tick near h)
        · exact overlap_eq_false_iff.2 (.inr out)
      · cases hi
  · cases hi

/-! ### The revalidation walk -/

/-- R34: a retirement leaves the other WAITING frames WAITING, with their reservations. -/
theorem State.retireNow_waiting (s : State) {d e : DescIdx} (hed : e ≠ d) (he : (s.desc e).state = .waiting)
    (o : FrameOutcome) (stop : Time) (defer : Option Port) :
    ((s.retireNow d o stop defer).desc e).state = .waiting ∧
      ((s.retireNow d o stop defer).desc e).span = (s.desc e).span := by
  refine State.retire_induction (P := fun d s t => ∀ e, e ≠ d → (s.desc e).state = .waiting →
    (t.desc e).state = .waiting ∧ (t.desc e).span = (s.desc e).span) (fun _ _ _ _ he => ⟨he, rfl⟩)
    (fun d s ps ps' t step e hed he => ?_) chainFuel d o defer s e hed he
  have cleared : ((State.unlink { s with ports := ps } d).desc e).state = .waiting ∧
      ((State.unlink { s with ports := ps } d).desc e).span = (s.desc e).span := by
    rw [State.desc_unlink]
    split <;> exact ⟨he, rfl⟩
  generalize State.unlink { s with ports := ps } d = u at step cleared
  have ne {c : DescIdx} (held : (u.desc c).state = .held) : e ≠ c := by
    rintro rfl
    simp [cleared.1] at held
  have chained : (t.desc e).state = .waiting ∧ (t.desc e).span = (u.desc e).span := by
    cases step with
    | stands => exact ⟨cleared.1, rfl⟩
    | released c held =>
      rw [State.desc_release, if_neg (ne held)]
      exact ⟨cleared.1, rfl⟩
    | retired c held h => exact h e (ne held) cleared.1
    | expired c held h =>
      have same := u.desc_modDesc c e fun y => { y with notBefore := some (plus stop (y.offset.getD 0)) }
      rw [if_neg (ne held)] at same
      have := h e (ne held) (by rw [same]; exact cleared.1)
      rwa [same] at this
  show ((t.vacate d).desc e).state = .waiting ∧ ((t.vacate d).desc e).span = _
  rw [State.desc_vacate, if_neg hed]
  exact ⟨chained.1, chained.2.trans cleared.2⟩

/-- R140: an interval that ends by the start of a later one ends by the starts of those after it. -/
theorem distance_le_of_before {a b c : Time} {n : Nat} (hab : n ≤ distance a b) (ab : before a b = true)
    (bc : before b c = true) : n ≤ distance a c := by
  have : (c - a).toNat = ((b - a).toNat + (c - b).toNat) % 2 ^ 32 := by
    simp only [BitVec.toNat_sub]; omega
  rw [before, decide_eq_true_iff] at ab bc
  unfold distance at *
  have := (b - a).isLt
  omega

/-- R140: a start that is after another and not before the end of its interval lies at least the length behind. -/
theorem length_le_distance {a b : Time} {n : Nat} (hn : n < 2 ^ 31) (ab : before a b = true)
    (out : before b (plus a n) = false) : n ≤ distance a b := by
  have : (plus a n - b).toNat = (n + (2 ^ 32 - (b - a).toNat)) % 2 ^ 32 := by
    simp only [plus, BitVec.toNat_sub, BitVec.toNat_add, BitVec.toNat_ofNat]; omega
  have hd := (b - a).isLt
  rw [before, decide_eq_true_iff] at ab
  rw [before, decide_eq_false_iff_not] at out
  unfold distance at *
  omega

/-- R44: an interval whose length is no more than the way to a later start ends by it. -/
theorem not_before_stop {a b : Time} {n : Nat} (hn : n < 2 ^ 31) (ab : before a b = true) (h : n ≤ distance a b) :
    before b (plus a n) = false := by
  have : (plus a n - b).toNat = (n + (2 ^ 32 - (b - a).toNat)) % 2 ^ 32 := by
    simp only [plus, BitVec.toNat_sub, BitVec.toNat_add, BitVec.toNat_ofNat]; omega
  have hd := (b - a).isLt
  rw [before, decide_eq_true_iff] at ab
  rw [before, decide_eq_false_iff_not]
  unfold distance at *
  omega

/-- R140: the walk between two frames: those kept so far, each with its start a, its new length n and the end they give;
those still to be judged; and the last kept end. -/
structure Walk.Judged (w : Walk) (a : DescIdx → Time) (n : DescIdx → Nat) (kept rest : List DescIdx) : Prop where
  sound : w.state.Sound
  timed : w.state.sched.timed.Sublist (kept ++ rest)
  once : (kept ++ rest).Nodup
  waiting : ∀ d ∈ kept ++ rest, (w.state.desc d).state = .waiting
  starts : ∀ d ∈ kept ++ rest, (w.state.desc d).start = some (a d) ∧ (w.state.desc d).resStart = some (a d)
  lengths : ∀ d ∈ kept ++ rest, (w.state.desc d).reservation w.state.prof.active = n d ∧ n d < 2 ^ 31
  ends : ∀ d ∈ kept, (w.state.desc d).resEnd = some (plus (a d) (n d))
  order : (kept ++ rest).Pairwise fun d e => before (a d) (a e) = true
  apart : kept.Pairwise fun d e => n d ≤ distance (a d) (a e)
  last : w.lastEnd = kept.getLast?.map fun d => plus (a d) (n d)

/-- R140: the frames kept so far end by the start of one that is not rejected. -/
theorem Walk.Judged.ends_before {w : Walk} {a : DescIdx → Time} {n : DescIdx → Nat} {kept rest : List DescIdx}
    {d : DescIdx} (h : w.Judged a n kept (d :: rest)) (keeps : w.rejects (a d) = false) {c : DescIdx} (hc : c ∈ kept) :
    n c ≤ distance (a c) (a d) := by
  obtain ⟨init, l, rfl⟩ := (List.eq_nil_or_concat' kept).resolve_left (List.ne_nil_of_mem hc)
  have ahead {e : DescIdx} (he : e ∈ init ++ [l]) : before (a e) (a d) = true :=
    (List.pairwise_append.1 h.order).2.2 e he d List.mem_cons_self
  have lastKept : l ∈ init ++ [l] := List.mem_append_right _ (List.mem_singleton_self l)
  have short (e : DescIdx) (he : e ∈ init ++ [l]) : n e < 2 ^ 31 := (h.lengths e (List.mem_append_left _ he)).2
  have out : before (a d) (plus (a l) (n l)) = false := by
    simpa [Walk.rejects, h.last] using keeps
  have final := length_le_distance (short l lastKept) (ahead lastKept) out
  rcases List.mem_append.1 hc with hmem | hmem
  · have order := (List.pairwise_append.1 (List.pairwise_append.1 h.order).1).2.2
    exact distance_le_of_before ((List.pairwise_append.1 h.apart).2.2 c hmem l (List.mem_singleton_self l))
      (order c hmem l (List.mem_singleton_self l)) (ahead lastKept)
  · exact List.mem_singleton.1 hmem ▸ final

/-- R140, R141: one frame judged: it is retired, or kept with its new end. -/
theorem Walk.Judged.judge {w : Walk} {a : DescIdx → Time} {n : DescIdx → Nat} {kept rest : List DescIdx} {d : DescIdx}
    (h : w.Judged a n kept (d :: rest)) :
    (w.judge d).Judged a n kept rest ∨ (w.judge d).Judged a n (kept ++ [d]) rest := by
  have hd : d ∈ kept ++ d :: rest := by simp
  have sound := (Walk.keepsSound_judges [d] w (by simp [h.waiting d hd]) h.sound).1
  have start : (w.state.desc d).start.getD 0 = a d := by rw [(h.starts d hd).1]; rfl
  rcases w.judge_cases d with ⟨-, last, state⟩ | ⟨keeps, last, state⟩
  · left
    have sub : (kept ++ rest).Sublist (kept ++ d :: rest) := (List.sublist_cons_self d rest).append_left kept
    have out : d ∉ kept ++ rest := (List.nodup_middle.1 h.once).notMem
    have gone : d ∉ (w.judge d).state.sched.timed := fun hmem => by
      have live := state ▸ State.retireNow_desc w.state d .rescheduled w.state.now none
      have waiting := ((sound.sched.timed d).1 hmem).1
      simp [Desc.live, show ((w.judge d).state.desc d).state = .waiting from waiting] at live
    have timed : (w.judge d).state.sched.timed.Sublist (kept ++ rest) := by
      have thins := (state ▸ (w.state.thins_retire chainFuel d .rescheduled w.state.now none).1 :
        w.state.Thins (w.judge d).state)
      have := (thins.timed.trans h.timed).filter fun e => decide (e ≠ d)
      rw [List.filter_eq_self.2 fun e he => by simpa using fun hed : e = d => gone (hed ▸ he)] at this
      refine this.trans ?_
      rw [List.filter_append, List.filter_cons_of_neg (by simp)]
      exact List.filter_sublist.append List.filter_sublist
    have prof : (w.judge d).state.prof = w.state.prof := by
      rw [state]
      exact (w.state.keepsLine_retireNow d _ _ _).prof
    have same {e : DescIdx} (he : e ∈ kept ++ rest) : ((w.judge d).state.desc e).state = .waiting ∧
        ((w.judge d).state.desc e).span = (w.state.desc e).span := by
      rw [state]
      exact w.state.retireNow_waiting (fun hed : e = d => out (hed ▸ he)) (h.waiting e (sub.subset he)) _ _ _
    refine ⟨sound, timed, h.once.sublist sub, fun e he => (same he).1, fun e he => ?_, fun e he => ?_, fun e he => ?_,
      h.order.sublist sub, h.apart, last.trans h.last⟩
    · obtain ⟨hstart, hres, -⟩ := Desc.span_eq (same he).2
      rw [hstart, hres]
      exact h.starts e (sub.subset he)
    · rw [(Desc.span_eq (same he).2).2.2.2, prof]
      exact h.lengths e (sub.subset he)
    · rw [(Desc.span_eq (same (List.mem_append_left rest he)).2).2.2.1]
      exact h.ends e he
  · right
    rw [start] at keeps
    rw [start, (h.lengths d hd).1] at last state
    have desc (e : DescIdx) := state ▸ w.state.desc_modDesc d e fun x => { x with resEnd := some (plus (a d) (n d)) }
    have same (e : DescIdx) : ((w.judge d).state.desc e).state = (w.state.desc e).state ∧
        ((w.judge d).state.desc e).start = (w.state.desc e).start ∧
        ((w.judge d).state.desc e).resStart = (w.state.desc e).resStart ∧
        ((w.judge d).state.desc e).reservation = (w.state.desc e).reservation := by
      rw [desc]
      split
      · next he => exact he ▸ ⟨rfl, rfl, rfl, rfl⟩
      · exact ⟨rfl, rfl, rfl, rfl⟩
    have prof : (w.judge d).state.prof = w.state.prof := by rw [state]; rfl
    have list : kept ++ [d] ++ rest = kept ++ d :: rest := List.append_cons kept d rest |>.symm
    refine ⟨sound, ?_, list ▸ h.once, fun e he => ?_, fun e he => ?_, fun e he => ?_, fun e he => ?_, list ▸ h.order,
      List.pairwise_append.2 ⟨h.apart, List.pairwise_singleton _ d, fun c hc e he => ?_⟩, by simpa using last⟩
    · rw [list, state]
      exact h.timed
    · rw [(same e).1]
      exact h.waiting e (list ▸ he)
    · rw [(same e).2.1, (same e).2.2.1]
      exact h.starts e (list ▸ he)
    · rw [(same e).2.2.2, prof]
      exact h.lengths e (list ▸ he)
    · rw [desc]
      split
      · next hed => rw [hed]
      · next hed =>
        refine h.ends e ?_
        simpa [hed] using he
    · rw [List.mem_singleton.1 he]
      exact h.ends_before keeps hc

theorem Walk.Judged.judges {w : Walk} {a : DescIdx → Time} {n : DescIdx → Nat} {kept rest : List DescIdx}
    (h : w.Judged a n kept rest) : ∃ all, (rest.foldl Walk.judge w).Judged a n all [] := by
  induction rest generalizing w kept with
  | nil => exact ⟨kept, h⟩
  | cons d rest ih => exact h.judge.elim ih ih

/-- R140: what the walk leaves is in order and apart. -/
theorem Walk.Judged.booked {w : Walk} {a : DescIdx → Time} {n : DescIdx → Nat} {kept : List DescIdx}
    (h : w.Judged a n kept []) : w.state.ListedApart ∧ w.state.ListOrdered := by
  have timed : w.state.sched.timed.Sublist kept := List.append_nil kept ▸ h.timed
  have order := List.append_nil kept ▸ h.order
  have at_ {d : DescIdx} (hd : d ∈ w.state.sched.timed) : (w.state.desc d).start = some (a d) ∧
      (w.state.desc d).resStart = some (a d) ∧ (w.state.desc d).resEnd = some (plus (a d) (n d)) ∧
      (w.state.desc d).reservation w.state.prof.active = n d ∧ n d < 2 ^ 31 := by
    have hmem : d ∈ kept ++ [] := List.mem_append_left [] (timed.subset hd)
    exact ⟨(h.starts d hmem).1, (h.starts d hmem).2, h.ends d (timed.subset hd), h.lengths d hmem⟩
  have clear : w.state.sched.timed.Pairwise fun d e =>
      overlap (a d) (plus (a d) (n d)) (a e) (plus (a e) (n e)) = false :=
    ((order.and h.apart).sublist timed).imp_of_mem fun hd _ hde =>
      overlap_eq_false_iff.2 (.inr (not_before_stop (at_ hd).2.2.2.2 hde.1 hde.2))
  refine ⟨fun d hd e he hne x y x' y' hx hy hx' hy' => ?_, ⟨?_, fun d hd x hx => ?_⟩⟩
  · obtain ⟨-, dStart, dEnd, -⟩ := at_ hd
    obtain ⟨-, eStart, eEnd, -⟩ := at_ he
    obtain rfl := Option.some.inj (dStart.symm.trans hx)
    obtain rfl := Option.some.inj (dEnd.symm.trans hy)
    obtain rfl := Option.some.inj (eStart.symm.trans hx')
    obtain rfl := Option.some.inj (eEnd.symm.trans hy')
    have symm : Std.Symm fun d e => overlap (a d) (plus (a d) (n d)) (a e) (plus (a e) (n e)) = false :=
      ⟨fun _ _ h => (overlap_comm _ _ _ _).trans h⟩
    exact clear.forall hd he hne
  · refine (order.sublist timed).imp_of_mem fun hd he hde x y hx hy => ?_
    obtain rfl := Option.some.inj ((at_ hd).1.symm.trans hx)
    obtain rfl := Option.some.inj ((at_ he).1.symm.trans hy)
    exact hde
  · obtain ⟨dStart, -, dEnd, length, -⟩ := at_ hd
    obtain rfl := Option.some.inj (dStart.symm.trans hx)
    rw [dEnd, length]

end Sys2Proof.Machine
end

section
/-! Listed intervals stay apart (O58): the rows together. -/

namespace Sys2Proof.Machine

/-! ### COMMIT -/

/-- R140: what COMMIT needs of a part to leave its list apart: sound, its list in order, and profiles in range. -/
structure State.Committable (s : State) : Prop where
  sound : s.Sound
  store : s.StoreSound
  staged : ∀ f : ProfileField, f.inRange (s.stagedProfile.field f) = true
  apart : s.ListedApart
  ordered : s.ListOrdered

/-- R128, R137: the staged profile's values are in range. -/
theorem State.ProfileSound.stagedProfile {s : State} (h : s.ProfileSound) (f : ProfileField) :
    f.inRange (s.stagedProfile.field f) = true := by
  unfold State.stagedProfile
  cases hstaged : s.prof.staged with
  | none => exact h.active f
  | some w => exact h.staged w hstaged f

/-- R139, R140: the walk begins with the list as it stands, under the new profile. -/
theorem State.Committable.judged {s : State} (h : s.Committable) : Walk.Judged
    { state := s.activate, lastEnd := none, rescheduled := 0, broken := 0 } (fun d => (s.desc d).start.getD 0)
    (fun d => (s.desc d).reservation s.stagedProfile) [] s.sched.timed := by
  have listed {d : DescIdx} (hd : d ∈ s.sched.timed) : (s.desc d).state = .waiting ∧
      (s.desc d).start = some ((s.desc d).start.getD 0) ∧ (s.desc d).resStart = some ((s.desc d).start.getD 0) := by
    obtain ⟨a, b, start, resStart, -⟩ := h.sound.sched.starts d hd
    exact ⟨((h.sound.sched.timed d).1 hd).1, by simp [start], by simp [start, resStart]⟩
  refine ⟨((show s.KeepsSound s.activate from .of_eq rfl) h.sound).1, .refl _, h.sound.sched.timedOnce,
    fun d hd => (listed hd).1, fun d hd => (listed hd).2, fun d hd => ⟨rfl, ?_⟩, fun d hd => absurd hd List.not_mem_nil,
    h.ordered.ordered.imp_of_mem fun hd he hde => hde _ _ (listed hd).2.1 (listed he).2.1, .nil, rfl⟩
  have := (h.store.reservation h.staged (d := d) (by simp [Desc.live, (listed hd).1])).2.2
  omega

/-- R138, R140: a COMMIT that is refused leaves the plan, and one that acts a list apart and in order, on a DISABLED line. -/
theorem State.doCommit_booked (p : Port) (tag : Byte) (fields : List Byte) {s : State} (h : s.Committable) :
    s.SamePlan (State.doCommit p tag fields s) ∨
      ((State.doCommit p tag fields s).ListedApart ∧ (State.doCommit p tag fields s).ListOrdered ∧
        (State.doCommit p tag fields s).occupied = none) := by
  unfold State.doCommit
  split
  · exact .inl (.of_eq rfl)
  · split
    · exact .inl (.of_eq rfl)
    · next hline =>
      right
      obtain ⟨kept, judged⟩ := h.judged.judges
      obtain ⟨apart, ordered⟩ := judged.booked
      have disabled : (s.activate.revalidate).state.disp.line = .disabled := by
        have fold (l : List DescIdx) (w : Walk) : (l.foldl Walk.judge w).state.disp.line = w.state.disp.line := by
          induction l generalizing w with
          | nil => rfl
          | cons d l ih =>
            refine (ih (w.judge d)).trans ?_
            rcases w.judge_cases d with ⟨-, -, state⟩ | ⟨-, -, state⟩ <;> rw [state]
            · exact (w.state.keepsLine_retireNow d _ _ _).line
            · rfl
        exact (fold _ _).trans (not_not.1 hline)
      exact ⟨apart.thin (.refl _) fun _ _ => rfl, ordered.thin (.refl _) (fun _ _ => rfl) rfl,
        if_neg (by simp [disabled])⟩

/-- R138, R179: a COMMIT, taken or not. -/
theorem execCommit_booked {p : Port} {tag : Byte} {fields : List Byte} {s t : State} (h : s.Committable)
    (ht : execCommit p tag fields s = .next t) :
    s.SamePlan t ∨ (t.ListedApart ∧ t.ListOrdered ∧ t.occupied = none) := by
  rw [← Host.Outcome.next.inj ht]
  have ported (ps : Ports) : s.SamePlan { s with ports := ps } := .of_eq rfl
  rcases s.request_cases p Config.codeCommit tag fields (State.doCommit p tag fields) with ⟨ps, e⟩ | ⟨ps, e⟩ <;> rw [e]
  · exact .inl (ported ps)
  · have same := ported ps
    have sound := same.keepsSound h.sound
    refine (State.doCommit_booked p tag fields ⟨sound.1, sound.2 h.store, h.staged, ?_, ?_⟩).imp_left fun k => ?_
    · exact h.apart.thin same.thins.timed same.thins.spans
    · exact h.ordered.thin same.thins.timed same.thins.spans rfl
    · exact ⟨k.1, k.2, k.3, k.4, k.5, k.6⟩

/-! ### Steps -/

/-- R42: a row other than COMMIT leaves the listed intervals apart. -/
theorem exec_listedApart (i : Instr) {s t : State} (hs : s.Sound) (h : s.ListedApart)
    (commit : ∀ p tag fields, i ≠ .commit p tag fields) (ht : exec i s = .next t) : t.ListedApart := by
  by_cases tick : i = .tick
  · subst tick
    rcases execTick_cases ht with rfl | rfl
    · exact h
    · obtain ⟨desc, sched, -⟩ := s.wholeTick_plan
      exact h.thin (by rw [sched]) fun d _ => by rw [desc]
  · exact (exec_planned i s tick commit t ht).listed hs h

/-- R42, R82, R140: a row taken on time leaves the listed intervals in order, apart, and apart from the line. -/
theorem exec_timely (i : Instr) {s t : State} (hs : s.Sound) (staged : ∀ f : ProfileField,
    f.inRange (s.stagedProfile.field f) = true) (list : s.ListTimely) (line : s.LineTimely) (ht : exec i s = .next t) :
    t.ListedApart ∧ t.ListOrdered ∧ t.ApartFromLine := by
  have done {u : State} (h : u.ListTimely ∧ u.LineTimely) : u.ListedApart ∧ u.ListOrdered ∧ u.ApartFromLine :=
    ⟨h.1.apart, h.1.ordered, h.2.apart⟩
  by_cases tick : i = .tick
  · subst tick
    rcases execTick_cases ht with rfl | rfl
    · exact done ⟨list, line⟩
    · obtain ⟨desc, sched, -, prof, -⟩ := s.wholeTick_plan
      exact ⟨list.apart.thin (by rw [sched]) fun d _ => by rw [desc],
        list.ordered.thin (by rw [sched]) (fun d _ => by rw [desc]) (by rw [prof]), .tick list line hs.sched⟩
  · by_cases commit : ∃ p tag fields, i = .commit p tag fields
    · obtain ⟨p, tag, fields, rfl⟩ := commit
      rcases execCommit_booked ⟨hs, list.store, staged, list.apart, list.ordered⟩ ht with same | ⟨apart, ordered, free⟩
      · exact done (same.keepsPlan.timely hs list line)
      · exact ⟨apart, ordered, fun i hi => by simp [free] at hi⟩
    · simp only [not_exists] at commit
      exact done ((exec_planned i s tick commit t ht).timely hs list line)

/-- Settles O58: admissions check every standing interval, starts fit before the list, a guard lies inside what the frame
occupied, and a COMMIT keeps a frame only behind the ends it kept before. -/
theorem listedStayApart : Obligations.ListedStayApart := by
  refine ⟨fun s t sched line apart commit hstep => ?_,
    fun p tag fields s t sched line store profile apart ordered hexec => ?_,
    fun s t sched line store profile onTime apart ordered fromLine hstep => ?_⟩
  · unfold step at hstep
    split at hstep
    · exact Host.Outcome.next.inj hstep ▸ apart
    · next c rest hpending =>
      refine exec_listedApart c (s := { s with pending := rest }) ⟨sched.of_standing rfl fun _ => .of_eq rfl,
        line.congr .rfl rfl rfl rfl fun _ => .rfl⟩ apart (fun p tag fields e => ?_) hstep
      exact commit p tag fields (by rw [hpending, e]; rfl)
  · rcases execCommit_booked ⟨⟨sched, line⟩, store, profile.stagedProfile, apart, ordered⟩ hexec with same | ⟨k, k', -⟩
    · exact ⟨apart.thin same.thins.timed same.thins.spans, ordered.thin same.thins.timed same.thins.spans same.active⟩
    · exact ⟨k, k'⟩
  · have list : s.ListTimely := ⟨store, profile.active, onTime.listed, apart, ordered⟩
    have frame : s.LineTimely := ⟨onTime.line, fromLine⟩
    unfold step at hstep
    split at hstep
    · exact Host.Outcome.next.inj hstep ▸ ⟨apart, ordered, fromLine⟩
    · next c rest _ =>
      have taken : s.KeepsPlan { s with pending := rest } := State.SamePlan.keepsPlan (.of_eq rfl)
      obtain ⟨list', frame'⟩ := taken.timely ⟨sched, line⟩ list frame
      exact exec_timely c (taken.sound ⟨sched, line⟩).1 profile.stagedProfile list' frame' hstep

end Sys2Proof.Machine
end

section
/-! CANCEL on the line, and the stored times that mark frames (O18, O24). -/

namespace Sys2Proof.Machine

/-! ### CANCEL on the line -/

/-- R68: a taken CANCEL that finds its frame ON_LINE. -/
theorem State.doCancel_onLine {s : State} {p : Port} {ftag : Byte} {d : DescIdx} (tag : Byte) (session : s.InSession p)
    (names : s.Names p ftag d) (on : (s.desc d).state = .onLine) :
    State.doCancel p tag [ftag] (s.taken p Config.codeCancel tag [ftag]) =
      (s.taken p Config.codeCancel tag [ftag]).cancelOnLine p tag d := by
  have yes := mt (State.noSession_taken p Config.codeCancel tag [ftag]).1 (not_not_intro session)
  simp only [State.doCancel, if_neg yes, readCancel, State.findTag_taken, names.findTag, State.desc_taken, on, if_true]

/-- R68: whether a repetition remains to be cut, as a taken request finds it. -/
theorem State.canTruncate_taken_iff (s : State) (p : Port) (code tag : Byte) (fields : List Byte) (x : Desc) :
    (s.taken p code tag fields).canTruncate x = true ↔ s.disp.phase = some .gap ∨ x.repsSent + 1 < x.reps := by
  rw [State.taken_eq, State.canTruncate, decide_eq_true_iff]
  rfl

/-- Settles O18: the gap or a repetition to come decides between the truncate mark and the refusal. -/
theorem cancelOnLine : Obligations.CancelOnLine := by
  intro p tag ftag d s h session names on
  have found := State.doCancel_onLine tag session names on
  have named : (s.desc d).tag = ftag := names.2.1
  have left := s.canTruncate_taken_iff p Config.codeCancel tag [ftag] (s.desc d)
  refine ⟨fun cut => ?_, fun phase done => ?_⟩
  · have marked : (s.taken p Config.codeCancel tag [ftag]).cancelOnLine p tag d =
        ((s.taken p Config.codeCancel tag [ftag]).modDesc d fun y => { y with truncate := true }).reply p
          Config.codeCancel tag .truncated (.cancelOnLine ftag (s.desc d).repsSent (s.desc d).reps) := by
      simp only [State.cancelOnLine, State.desc_taken, left.2 cut, if_true, named]
    have desc (e : DescIdx) := (s.taken p Config.codeCancel tag [ftag]).desc_modDesc d e
      fun y => { y with truncate := true }
    simp only [State.desc_taken] at desc
    refine ⟨_, congrArg Host.Outcome.next ((s.request_taken p Config.codeCancel tag [ftag] _ h).trans (found.trans marked)),
      (desc d).trans (if_pos rfl), fun e he => (desc e).trans (if_neg he), fun a => ?_, ?_, fun q hq => ?_, ?_⟩
    · rw [State.taken_eq]
      rfl
    · rw [State.taken_eq]
      exact ⟨rfl, rfl, rfl, fun _ => rfl, fun _ => rfl, rfl, rfl, rfl, rfl, rfl, rfl⟩
    · rw [State.port_reply, if_neg hq, State.modDesc_port, State.taken_eq, State.port_modPort, if_neg hq]
    · rw [State.port_reply, if_pos rfl, State.modDesc_port]
      exact s.agrees_taken_reply p Config.codeCancel tag [ftag] _ h
  · have late := mt left.1 (not_or.2 ⟨phase, Nat.not_lt.2 done⟩)
    exact s.replies_of_reply _ p Config.codeCancel tag [ftag] _ _ _ h rfl (found.trans (by
      simp only [State.cancelOnLine, State.desc_taken, late, named]
      rfl))

/-! ### Stored times that mark frames -/

/-- R64: a stored expiry of a HELD frame that is reached. -/
theorem State.heldExpiryDue_of_reached {s : State} {d : DescIdx} {e : Time} (running : s.inReset = false)
    (held : (s.desc d).state = .held) (expiry : (s.desc d).expiry = .at e) (due : reached e s.clock.time = true) :
    s.heldExpiryDue d = true := by
  simp [State.heldExpiryDue, running, held, expiry, State.now, due]

/-- R46: a stored not_before of a queued frame that is reached. -/
theorem State.notBeforeDue_of_reached {s : State} {d : DescIdx} {n : Time} (running : s.inReset = false)
    (waiting : (s.desc d).state = .waiting) (cls : (s.desc d).cls ≠ .timed) (eligible : (s.desc d).eligible = false)
    (notBefore : (s.desc d).notBefore = some n) (due : reached n s.clock.time = true) : s.notBeforeDue d = true := by
  simp [State.notBeforeDue, running, waiting, cls, eligible, notBefore, State.now, due]

/-- A change of one record changes nothing else. -/
theorem State.samePart_modDesc (s : State) (d : DescIdx) (f : Desc → Desc) :
    s.SameBytes (s.modDesc d f) ∧ s.SamePart { s.modDesc d f with store := s.store } :=
  ⟨fun _ => rfl, rfl, rfl, rfl, fun _ => rfl, fun _ => rfl, rfl, rfl, rfl, rfl, rfl, rfl⟩

/-- Settles O24: each event marks the one record it is due for. -/
theorem storedTimesMarkFrames : Obligations.StoredTimesMarkFrames := by
  intro s d running
  refine ⟨fun e held expiry due => ?_, fun n waiting cls eligible notBefore due => ?_⟩
  · have desc (f : DescIdx) := s.desc_modDesc d f fun x => { x with expiry := .passed }
    obtain ⟨bytes, part⟩ := s.samePart_modDesc d fun x => { x with expiry := .passed }
    exact ⟨_, if_pos (State.heldExpiryDue_of_reached running held expiry due), (desc d).trans (if_pos rfl),
      fun f hf => (desc f).trans (if_neg hf), bytes, part, rfl⟩
  · have desc (f : DescIdx) := s.desc_modDesc d f fun x => { x with eligible := true }
    obtain ⟨bytes, part⟩ := s.samePart_modDesc d fun x => { x with eligible := true }
    exact ⟨_, if_pos (State.notBeforeDue_of_reached running waiting cls eligible notBefore due),
      (desc d).trans (if_pos rfl), fun f hf => (desc f).trans (if_neg hf), bytes, part, rfl,
      fun idle => State.startDecision_of_not_idle _ idle⟩

end Sys2Proof.Machine
end

section
/-! SUBMIT: the checks and the admissions of the three classes (O19, O20, O21). -/

namespace Sys2Proof.Machine

/-! ### What SUBMIT checks -/

/-- R48, R49 order 3: fields that are no timing's. -/
theorem readTiming_eq_none {fields : List Byte} (h : ∀ x : Timing, x.inRange → fields ≠ x.bytes) :
    readTiming fields = none := by
  cases read : readTiming fields with
  | none => rfl
  | some x =>
    obtain ⟨range, hf⟩ := eq_bytes_of_readTiming read
    exact absurd hf (h x range)

/-- R4: the class of a time too far ahead. -/
theorem classOf_eq_far_iff (now t : Time) :
    classOf now t = .far ↔ 2 ^ 30 < distance now t ∧ distance now t ≤ 2 ^ 31 := by
  unfold classOf Config.lead Config.horizon
  dsimp only
  split_ifs <;> simp <;> omega

/-- R4: the class of a time behind. -/
theorem classOf_eq_past_iff (now t : Time) : classOf now t = .past ↔ 2 ^ 31 < distance now t := by
  unfold classOf Config.lead Config.horizon
  dsimp only
  split_ifs <;> simp <;> omega

/-- R4: the class of a time too near ahead. -/
theorem classOf_eq_near_iff (now t : Time) : classOf now t = .near ↔ distance now t < 32 := by
  unfold classOf Config.lead Config.horizon
  dsimp only
  split_ifs <;> simp <;> omega

/-- R49: a complete LOADING frame whose timing fits its class is submitted by it. -/
def State.submitByClass (s : State) (p : Port) (tag : Byte) (d : DescIdx) (x : Timing) : State :=
  match (s.desc d).cls with
  | .timed => s.submitTimed p tag d x (x.start.getD 0)
  | .asap => s.submitAsap p tag d x
  | .chained => s.submitChained p tag d x (x.pred.getD 0)

section
variable {s : State} {p : Port} {d : DescIdx} {x : Timing} (tag : Byte)

/-- R49: what SUBMIT does with a timing in an OPEN session: the checks behind the session's. -/
theorem State.doSubmit_opened (opened : (s.port p).session.state = .opened) (range : x.inRange) :
    State.doSubmit p tag x.bytes s = match s.findTag p x.tag with
      | none => s.submitReply p tag .notFound
      | some d =>
        if (s.desc d).state ≠ .loading then s.submitReply p tag .wrongState
        else if x.fits (s.desc d).cls = false then s.submitReply p tag .badField
        else if (s.desc d).fill < (s.desc d).bodyBytes then
          s.submitReply p tag .incomplete (.fillLevel (s.desc d).fill)
        else s.submitByClass p tag d x := by
  have session : s.noSession p = false := by simp [State.noSession, State.hasSession, Session.active, opened]
  simp only [State.doSubmit, session, opened, readTiming_bytes range, Bool.false_eq_true, if_false, reduceCtorEq,
    Bool.not_eq_true'] <;> rfl

/-- R49: the frame that a taken SUBMIT goes on with by its class. -/
theorem State.doSubmit_admissible (opened : (s.port p).session.state = .opened) (range : x.inRange)
    (names : s.Names p x.tag d) (loading : (s.desc d).state = .loading) (fits : x.fits (s.desc d).cls = true)
    (complete : (s.desc d).bodyBytes ≤ (s.desc d).fill) :
    State.doSubmit p tag x.bytes (s.taken p Config.codeSubmit tag x.bytes) =
      (s.taken p Config.codeSubmit tag x.bytes).submitByClass p tag d x := by
  rw [State.doSubmit_opened tag ((s.sessionState_taken ..).trans opened) range, State.findTag_taken, names.findTag]
  simp only [State.desc_taken, loading, fits, Nat.not_lt.2 complete, ne_eq, not_true_eq_false, if_false, reduceCtorEq]

end

/-- R53, R56: what an admission and its REPLY leave alone of a taken request. -/
theorem State.sameOthers_taken_reply (s : State) (p : Port) (code tag : Byte) (fields : List Byte) {t : State}
    (ports : t.ports = (s.taken p code tag fields).ports) {r : ResultCode} {data : ReplyData} :
    s.SameOthers (t.reply p code tag r data) p := by
  intro q hq
  rw [State.port_reply, if_neg hq, State.port, ports]
  show (s.taken p code tag fields).port q = s.port q
  rw [State.taken_eq, State.port_modPort, if_neg hq]

theorem State.agrees_submitted {s : State} {p : Port} {tag : Byte} {fields : List Byte} (h : s.Takes p fields) {t : State}
    (ports : t.ports = (s.taken p Config.codeSubmit tag fields).ports) {r : ResultCode} {data : ReplyData} :
    ((t.submitReply p tag r data).port p).Agrees ((s.port p).renewed.withEntries [.reply 0x30 tag r data]) := by
  rw [State.submitReply, State.port_reply, if_pos rfl, State.port, ports]
  exact s.agrees_taken_reply p Config.codeSubmit tag fields _ h

/-! ### TIMED frames -/

/-- R42: where a start goes in the list: behind those it is not before, and before the first it is before. -/
theorem insertByStart_split (s : State) (d : DescIdx) (t : Time) (list : List DescIdx) :
    ∃ l r, list = l ++ r ∧ insertByStart s d t list = l ++ d :: r ∧
      (∀ e ∈ l, ∀ a, (s.desc e).start = some a → before t a = false) ∧
      (∀ e, r.head? = some e → ∃ a, (s.desc e).start = some a ∧ before t a = true) := by
  induction list with
  | nil => exact ⟨[], [], rfl, rfl, nofun, nofun⟩
  | cons e list ih =>
    obtain ⟨l, r, split, inserted, behind, ahead⟩ := ih
    have further (hbehind : ∀ a, (s.desc e).start = some a → before t a = false) : ∃ l' r', e :: list = l' ++ r' ∧
        e :: insertByStart s d t list = l' ++ d :: r' ∧
        (∀ f ∈ l', ∀ a, (s.desc f).start = some a → before t a = false) ∧
        (∀ f, r'.head? = some f → ∃ a, (s.desc f).start = some a ∧ before t a = true) :=
      ⟨e :: l, r, congrArg (e :: ·) split, congrArg (e :: ·) inserted, List.forall_mem_cons.2 ⟨hbehind, behind⟩, ahead⟩
    unfold insertByStart
    split
    · next u hu =>
      split
      · next hbefore =>
        refine ⟨[], e :: list, rfl, rfl, nofun, fun f hf => ?_⟩
        obtain rfl := Option.some.inj hf
        exact ⟨u, hu, hbefore⟩
      · next hbefore =>
        refine further fun a ha => ?_
        obtain rfl := Option.some.inj (hu.symm.trans ha)
        exact Bool.eq_false_iff.2 hbefore
    · next hu => exact further fun a ha => by simp [hu] at ha

/-- R44: the first of the standing intervals that a candidate overlaps. -/
theorem State.firstConflict_eq_some {s : State} {a b : Time} {l r : List (Time × Time)} {i : Time × Time}
    (standing : s.standing = l ++ i :: r) (hit : overlap a b i.1 i.2 = true)
    (first : ∀ j ∈ l, overlap a b j.1 j.2 = false) : s.firstConflict a b = some i :=
  List.find?_eq_some_iff_append.2 ⟨hit, l, r, standing, fun j hj => by simp [first j hj]⟩

theorem State.firstConflict_eq_none {s : State} {a b : Time} (h : ∀ i ∈ s.standing, overlap a b i.1 i.2 = false) :
    s.firstConflict a b = none :=
  List.find?_eq_none.2 fun i hi => by simp [h i hi]

/-- R44: a taken request finds the standing intervals as they are. -/
theorem State.standing_taken (s : State) (p : Port) (code tag : Byte) (fields : List Byte) :
    (s.taken p code tag fields).standing = s.standing := by
  rw [State.taken_eq]
  rfl

theorem State.firstConflict_taken (s : State) (p : Port) (code tag : Byte) (fields : List Byte) (a b : Time) :
    (s.taken p code tag fields).firstConflict a b = s.firstConflict a b := by
  rw [State.firstConflict, State.standing_taken, State.firstConflict]

/-- R50, R51: SUBMIT of a TIMED frame, as a taken request finds the part. -/
theorem State.submitTimed_taken (s : State) (p : Port) (tag : Byte) (fields : List Byte) (d : DescIdx) (x : Timing)
    (start : Time) : (s.taken p Config.codeSubmit tag fields).submitTimed p tag d x start =
      match classOf s.clock.time start with
      | .past | .near => (s.taken p Config.codeSubmit tag fields).submitReply p tag .tooLate
      | .far => (s.taken p Config.codeSubmit tag fields).submitReply p tag .tooFar
      | .ahead =>
        match s.firstConflict start (plus start ((s.desc d).reservation s.prof.active)) with
        | some i => (s.taken p Config.codeSubmit tag fields).submitReply p tag .conflict (.conflictEnd i.2)
        | none => (((s.taken p Config.codeSubmit tag fields).admitTimed d start (x.slip.getD 0)).submitReply p tag .admitted
            (.admittedTimed x.tag start (plus start ((s.desc d).reservation s.prof.active)))).startDecision := by
  rw [← State.firstConflict_taken s p Config.codeSubmit tag fields]
  have clock : (s.taken p Config.codeSubmit tag fields).now = s.clock.time := by rw [State.taken_eq]; rfl
  have prof : (s.taken p Config.codeSubmit tag fields).prof = s.prof := by rw [State.taken_eq]; rfl
  rw [State.submitTimed, clock, prof, State.desc_taken] <;> rfl

/-- R51: the admission of a TIMED frame by a taken request. -/
theorem State.admitTimed_taken (s : State) (p : Port) (tag : Byte) (fields : List Byte) (d : DescIdx) (start : Time)
    (slip : Nat) : (s.taken p Config.codeSubmit tag fields).admitTimed d start slip =
      { (s.taken p Config.codeSubmit tag fields).setDesc d
          ((s.desc d).admitTimed start slip s.prof.active s.sched.counter) with
        sched := { s.sched with
          timed := insertByStart (s.taken p Config.codeSubmit tag fields) d start s.sched.timed
          counter := s.sched.counter + 1 } } := by
  have sched : (s.taken p Config.codeSubmit tag fields).sched = s.sched := by rw [State.taken_eq]; rfl
  have prof : (s.taken p Config.codeSubmit tag fields).prof = s.prof := by rw [State.taken_eq]; rfl
  simp only [State.admitTimed, State.desc_taken, State.setDesc_sched, sched, prof]

/-- R51, R53: what an admission that takes a number does but for the place it gives the frame. -/
structure State.Admits (s u : State) (p : Port) (d : DescIdx) (x : Desc) : Prop where
  record : u.desc d = x
  others : ∀ e, e ≠ d → u.desc e = s.desc e
  counter : u.sched.counter = s.sched.counter + 1
  bytes : s.SameBytes u
  part : s.SamePart { u with store := s.store, sched := s.sched }
  ports : s.SameOthers u p
  decision : s.NoDecision u

theorem State.admits_taken (s : State) (p : Port) (tag : Byte) (fields : List Byte) (d : DescIdx) (x : Desc)
    {sched : Schedule} (counter : sched.counter = s.sched.counter + 1) (r : ResultCode) (data : ReplyData) :
    s.Admits (State.submitReply { (s.taken p Config.codeSubmit tag fields).setDesc d x with sched := sched } p tag r data)
      p d x := by
  have desc (e : DescIdx) := (s.taken p Config.codeSubmit tag fields).desc_setDesc d e x
  simp only [State.desc_taken] at desc
  refine ⟨(desc d).trans (if_pos rfl), fun e he => (desc e).trans (if_neg he), counter, fun a => ?_, ?_,
    s.sameOthers_taken_reply p Config.codeSubmit tag fields rfl, fun idle => State.startDecision_of_not_idle _ ?_⟩
  · rw [State.taken_eq]
    rfl
  · rw [State.taken_eq]
    exact ⟨rfl, rfl, rfl, fun _ => rfl, fun _ => rfl, rfl, rfl, rfl, rfl, rfl, rfl⟩
  · rw [State.taken_eq]
    exact idle

/-- Settles O19: the checks in their order, the class of the start, the first conflict, and the place by start. -/
theorem submitTimedChecksAndAdmits : Obligations.SubmitTimedChecksAndAdmits := by
  intro p tag fields s h
  have no := State.noSession_taken (s := s) p Config.codeSubmit tag fields
  have state := s.sessionState_taken p Config.codeSubmit tag fields
  refine ⟨fun hno => ?_, fun closing => ?_, fun opened => ⟨fun bad => ?_, fun x range hf => ?_⟩⟩
  · exact s.replies_of_reply _ p Config.codeSubmit tag fields _ _ _ h rfl (by
      simp only [State.doSubmit, no.2 hno, if_true]
      rfl)
  · have yes := Bool.eq_false_iff.2 (mt no.1 (not_not_intro (.inr closing)))
    exact s.replies_of_reply _ p Config.codeSubmit tag fields _ _ _ h rfl (by
      simp only [State.doSubmit, yes, state, closing, Bool.false_eq_true, if_false, if_true]
      rfl)
  · have yes := Bool.eq_false_iff.2 (mt no.1 (not_not_intro (.inl opened)))
    exact s.replies_of_reply _ p Config.codeSubmit tag fields _ _ _ h rfl (by
      simp only [State.doSubmit, yes, state, opened, readTiming_eq_none bad, Bool.false_eq_true, if_false, reduceCtorEq]
      rfl)
  subst hf
  have checks := State.doSubmit_opened (s := s.taken p Config.codeSubmit tag x.bytes) tag (state.trans opened) range
  simp only [State.findTag_taken, State.desc_taken] at checks
  refine ⟨fun none => ?_, fun d names => ?_⟩
  · exact s.replies_of_reply _ p Config.codeSubmit tag x.bytes _ _ _ h rfl (by
      rw [checks, (s.findTag_eq_none_iff p x.tag).2 none]
      rfl)
  simp only [names.findTag] at checks
  refine ⟨fun wrong => ?_, fun loading unfit => ?_, fun loading fit short => ?_, fun loading cls fit complete start hx => ?_⟩
  · exact s.replies_of_reply _ p Config.codeSubmit tag x.bytes _ _ _ h rfl (by
      rw [checks, if_pos wrong]
      rfl)
  · exact s.replies_of_reply _ p Config.codeSubmit tag x.bytes _ _ _ h rfl (by
      rw [checks, if_neg (not_not_intro loading), if_pos unfit]
      rfl)
  · exact s.replies_of_reply _ p Config.codeSubmit tag x.bytes _ _ _ h rfl (by
      rw [checks, if_neg (not_not_intro loading), if_neg (by simp [fit]), if_pos short]
      rfl)
  have acts := State.doSubmit_admissible tag opened range names loading (cls ▸ fit) complete
  simp only [State.submitByClass, State.desc_taken, cls, hx, Option.getD_some] at acts
  rw [State.submitTimed_taken] at acts
  intro ahead stop
  refine ⟨fun late => ?_, fun beyond within => ?_, fun lead horizon => ⟨fun l i r split hit first => ?_, fun room => ?_⟩⟩
  · exact s.replies_of_reply _ p Config.codeSubmit tag x.bytes _ _ _ h rfl (by
      rcases late with near | past
      · rw [acts, (classOf_eq_near_iff s.clock.time start).2 near]
        rfl
      · rw [acts, (classOf_eq_past_iff s.clock.time start).2 past]
        rfl)
  · exact s.replies_of_reply _ p Config.codeSubmit tag x.bytes _ _ _ h rfl (by
      rw [acts, (classOf_eq_far_iff s.clock.time start).2 ⟨beyond, within⟩]
      rfl)
  · exact s.replies_of_reply _ p Config.codeSubmit tag x.bytes _ _ _ h rfl (by
      rw [acts, (classOf_eq_ahead_iff s.clock.time start).2 ⟨lead, horizon⟩, State.firstConflict_eq_some split hit first]
      rfl)
  · rw [(classOf_eq_ahead_iff s.clock.time start).2 ⟨lead, horizon⟩, State.firstConflict_eq_none room] at acts
    obtain ⟨l, r, split, inserted, behind, before_⟩ :=
      insertByStart_split (s.taken p Config.codeSubmit tag x.bytes) d start s.sched.timed
    simp only [State.desc_taken] at behind before_
    dsimp only at acts
    rw [State.admitTimed_taken] at acts
    obtain ⟨record, others, counter, bytes, part, ports, decision⟩ := s.admits_taken p tag x.bytes d
      ((s.desc d).admitTimed start (x.slip.getD 0) s.prof.active s.sched.counter) (sched := { s.sched with
        timed := insertByStart (s.taken p Config.codeSubmit tag x.bytes) d start s.sched.timed
        counter := s.sched.counter + 1 }) rfl .admitted (.admittedTimed x.tag start stop)
    exact ⟨_, congrArg Host.Outcome.next ((s.request_taken p Config.codeSubmit tag x.bytes _ h).trans acts), record,
      others, ⟨l, r, split, inserted, behind, before_⟩, rfl, counter, bytes, part, ports, decision,
      State.agrees_submitted h rfl⟩

end Sys2Proof.Machine
end

section
/-! SUBMIT of ASAP and of CHAINED frames (O20, O21). -/

namespace Sys2Proof.Machine

/-! ### ASAP frames -/

section
variable {now : Time} {x : Timing}

/-- R52: a not_before or an expiry too far ahead. -/
theorem asapRefusal_of_far {t : Time} (ht : x.notBefore = some t ∨ x.expiry = some t) (far : classOf now t = .far) :
    asapRefusal now x = some .tooFar := by
  rcases ht with ht | ht
  · simp only [asapRefusal, ht, Option.map_some, far, if_true]
  · simp only [asapRefusal, ht, Option.map_some, far, if_true, ite_self]

/-- R52: an expiry behind. -/
theorem asapRefusal_of_past (near : ∀ t, x.notBefore = some t → classOf now t ≠ .far) {e : Time} (he : x.expiry = some e)
    (past : classOf now e = .past) : asapRefusal now x = some .tooLate := by
  have notBefore : x.notBefore.map (classOf now) ≠ some .far := by simpa using near
  simp only [asapRefusal, if_neg notBefore, he, Option.map_some, past, Option.some.injEq, reduceCtorEq, if_false, if_true]

/-- R52: what is left of the checks where both times are in range: the not_before lies before the expiry. -/
theorem asapRefusal_of_inRange (near : ∀ t, x.notBefore = some t ∨ x.expiry = some t → classOf now t ≠ .far)
    (standing : ∀ e, x.expiry = some e → classOf now e ≠ .past) :
    asapRefusal now x = match x.notBefore, x.expiry with
      | some n, some e => if before n e then none else some .badField
      | _, _ => none := by
  have notBefore : x.notBefore.map (classOf now) ≠ some .far := by simpa using fun t ht => near t (.inl ht)
  have expiry : x.expiry.map (classOf now) ≠ some .far := by simpa using fun t ht => near t (.inr ht)
  have past : x.expiry.map (classOf now) ≠ some .past := by simpa using standing
  simp only [asapRefusal, if_neg notBefore, if_neg expiry, if_neg past] <;> rfl

end

/-- R46: a queued frame is eligible at once where its not_before is absent or reached. -/
theorem eligibleAt_eq_true_iff (now : Time) (notBefore : Option Time) :
    eligibleAt now notBefore = true ↔ ∀ n, notBefore = some n → reached n now = true := by
  cases notBefore <;> simp [eligibleAt]

/-- R64: the expiry that a SUBMIT stores. -/
theorem expiryOf_eq_match (e : Option Time) : expiryOf e = match e with
    | some t => .at t
    | none => .absent := by
  cases e <;> rfl

/-- R52, R53: SUBMIT of an ASAP frame, as a taken request finds the part. -/
theorem State.submitAsap_taken (s : State) (p : Port) (tag : Byte) (fields : List Byte) (d : DescIdx) (x : Timing) :
    (s.taken p Config.codeSubmit tag fields).submitAsap p tag d x = match asapRefusal s.clock.time x with
      | some r => (s.taken p Config.codeSubmit tag fields).submitReply p tag r
      | none => (State.submitReply { (s.taken p Config.codeSubmit tag fields).setDesc d
            ((s.desc d).admitAsap x s.clock.time s.sched.counter) with
          sched := { s.sched with
            asap := s.sched.asap.join ((s.desc d).priority.getD 0) d
            counter := s.sched.counter + 1 } } p tag .admitted
          (.admittedAsap x.tag (eligibleAt s.clock.time x.notBefore))).startDecision := by
  have clock : (s.taken p Config.codeSubmit tag fields).now = s.clock.time := by rw [State.taken_eq]; rfl
  have sched : (s.taken p Config.codeSubmit tag fields).sched = s.sched := by rw [State.taken_eq]; rfl
  simp only [State.submitAsap, State.admitAsap, clock, sched, State.desc_taken, State.setDesc_sched] <;> rfl

/-- Settles O20: the three refusals in their order, and the tail of the priority's queue. -/
theorem submitAsapChecksAndAdmits : Obligations.SubmitAsapChecksAndAdmits := by
  intro p tag d x s h opened range names loading cls fit complete ahead far
  have acts := State.doSubmit_admissible tag opened range names loading (cls ▸ fit) complete
  simp only [State.submitByClass, State.desc_taken, cls, State.submitAsap_taken] at acts
  have refused {r : ResultCode} (refusal : asapRefusal s.clock.time x = some r) :
      s.Replies (.submit p tag x.bytes) p 0x30 tag r .none :=
    s.replies_of_reply _ p Config.codeSubmit tag x.bytes _ _ _ h rfl (by
      rw [acts, refusal]
      rfl)
  have far_iff (t : Time) : classOf s.clock.time t = .far ↔ far t := classOf_eq_far_iff s.clock.time t
  have past_iff (t : Time) : classOf s.clock.time t = .past ↔ 2 ^ 31 < ahead t := classOf_eq_past_iff s.clock.time t
  refine ⟨fun ⟨t, ht, beyond⟩ => refused (asapRefusal_of_far ht ((far_iff t).2 beyond)), fun near =>
    ⟨fun e he late => refused (asapRefusal_of_past (fun t ht => mt (far_iff t).1 (near t (.inl ht))) he ((past_iff e).2 late)),
      fun standing => ?_⟩⟩
  have order := asapRefusal_of_inRange (fun t ht => mt (far_iff t).1 (near t ht))
    (fun e he => mt (past_iff e).1 (Nat.not_lt.2 (standing e he)))
  refine ⟨fun n e hn he late => refused ?_, fun ordered => ?_⟩
  · simp only [order, hn, he, late, Bool.false_eq_true, if_false]
  have passes : asapRefusal s.clock.time x = none := by
    rw [order]
    split
    · next n e hn he => rw [if_pos (ordered n e hn he)]
    · rfl
  rw [passes] at acts
  obtain ⟨record, others, counter, bytes, part, ports, decision⟩ := s.admits_taken p tag x.bytes d
    ((s.desc d).admitAsap x s.clock.time s.sched.counter) (sched := { s.sched with
      asap := s.sched.asap.join ((s.desc d).priority.getD 0) d
      counter := s.sched.counter + 1 }) rfl .admitted (.admittedAsap x.tag (eligibleAt s.clock.time x.notBefore))
  refine ⟨_, _, congrArg Host.Outcome.next ((s.request_taken p Config.codeSubmit tag x.bytes _ h).trans acts),
    eligibleAt_eq_true_iff s.clock.time x.notBefore, record.trans ?_,
    others, rfl, rfl, counter, bytes, part, ports, decision, State.agrees_submitted h rfl⟩
  rw [Desc.admitAsap, expiryOf_eq_match] <;> rfl

/-! ### CHAINED frames -/

/-- R55, R56: SUBMIT of a CHAINED frame, as a taken request finds the part. -/
theorem State.submitChained_taken (s : State) (p : Port) (tag : Byte) (fields : List Byte) (d : DescIdx) (x : Timing)
    (pred : Byte) : (s.taken p Config.codeSubmit tag fields).submitChained p tag d x pred =
      match s.findTag p pred with
      | none => (s.taken p Config.codeSubmit tag fields).submitReply p tag .noPredecessor (.noPredecessor .notLive)
      | some e =>
        if e = d ∨ e ∈ (s.taken p Config.codeSubmit tag fields).chainAfter chainFuel d then
          (s.taken p Config.codeSubmit tag fields).submitReply p tag .noPredecessor (.noPredecessor .loop)
        else
          match (s.desc e).successor with
          | some c => (s.taken p Config.codeSubmit tag fields).submitReply p tag .chainTaken (.chainTaken (s.desc c).tag)
          | none =>
            match x.expiry.map (classOf s.clock.time) with
            | some .far => (s.taken p Config.codeSubmit tag fields).submitReply p tag .tooFar
            | some .past => (s.taken p Config.codeSubmit tag fields).submitReply p tag .tooLate
            | _ => ((s.taken p Config.codeSubmit tag fields).admitChained d e x pred).submitReply p tag .admitted
                (.admittedChained x.tag pred) := by
  have clock : (s.taken p Config.codeSubmit tag fields).now = s.clock.time := by rw [State.taken_eq]; rfl
  simp only [State.submitChained, clock, State.findTag_taken, State.desc_taken] <;> rfl

/-- R56: what the admission of a CHAINED frame behind a predecessor does to the descriptors. -/
theorem State.desc_admitChained (s : State) {d e : DescIdx} (x : Timing) (pred : Byte) (apart : e ≠ d) (f : DescIdx) :
    (s.admitChained d e x pred).desc f =
      if f = d then (s.desc d).admitChained x pred
      else if f = e then { s.desc e with successor := some d } else s.desc f := by
  rw [State.admitChained, State.desc_modDesc, State.desc_setDesc, State.desc_setDesc]
  by_cases hd : f = d
  · subst hd
    rw [if_neg apart.symm, if_pos rfl, if_pos rfl]
  · by_cases he : f = e
    · subst he
      rw [if_pos rfl, if_neg hd, if_neg hd, if_pos rfl]
    · rw [if_neg he, if_neg hd, if_neg hd, if_neg he]

/-- Settles O21: the predecessor named, the loop, the link that is taken and the expiry, in that order. -/
theorem submitChainedChecksAndAdmits : Obligations.SubmitChainedChecksAndAdmits := by
  intro p tag pred d x s h opened range names loading cls fit complete hpred
  have acts := State.doSubmit_admissible tag opened range names loading (cls ▸ fit) complete
  simp only [State.submitByClass, State.desc_taken, cls, hpred, Option.getD_some] at acts
  rw [State.submitChained_taken] at acts
  refine ⟨fun absent => ?_, fun e cs hpe chain => ?_⟩
  · exact s.replies_of_reply _ p Config.codeSubmit tag x.bytes _ _ _ h rfl (by
      rw [acts, (s.findTag_eq_none_iff p pred).2 absent]
      rfl)
  rw [hpe.findTag, (s.chainFrom_taken p Config.codeSubmit tag x.bytes chain).chainAfter] at acts
  dsimp only at acts
  refine ⟨fun loop => ?_, fun apart behind => ?_⟩
  · exact s.replies_of_reply _ p Config.codeSubmit tag x.bytes _ _ _ h rfl (by
      rw [acts, if_pos loop]
      rfl)
  rw [if_neg (not_or.2 ⟨apart, behind⟩)] at acts
  refine ⟨fun c hc => ?_, fun free => ?_⟩
  · exact s.replies_of_reply _ p Config.codeSubmit tag x.bytes _ _ _ h rfl (by
      rw [acts, hc]
      rfl)
  rw [free] at acts
  dsimp only at acts
  refine ⟨fun t ht beyond within => ?_, fun t ht late => ?_, fun inRange => ?_⟩
  · exact s.replies_of_reply _ p Config.codeSubmit tag x.bytes _ _ _ h rfl (by
      rw [acts, ht, Option.map_some, (classOf_eq_far_iff s.clock.time t).2 ⟨beyond, within⟩]
      rfl)
  · exact s.replies_of_reply _ p Config.codeSubmit tag x.bytes _ _ _ h rfl (by
      rw [acts, ht, Option.map_some, (classOf_eq_past_iff s.clock.time t).2 late]
      rfl)
  have joins : State.doSubmit p tag x.bytes (s.taken p Config.codeSubmit tag x.bytes) =
      ((s.taken p Config.codeSubmit tag x.bytes).admitChained d e x pred).submitReply p tag .admitted
        (.admittedChained x.tag pred) := by
    rw [acts]
    split
    · next beyond =>
      obtain ⟨t, ht, far⟩ := Option.map_eq_some_iff.1 beyond
      exact absurd ((classOf_eq_far_iff s.clock.time t).1 far).1 (Nat.not_lt.2 (inRange t ht))
    · next late =>
      obtain ⟨t, ht, past⟩ := Option.map_eq_some_iff.1 late
      have := (classOf_eq_past_iff s.clock.time t).1 past
      have near : distance s.clock.time t ≤ 2 ^ 30 := inRange t ht
      omega
    · rfl
  have desc := (s.taken p Config.codeSubmit tag x.bytes).desc_admitChained x pred apart
  simp only [State.desc_taken] at desc
  refine ⟨_, congrArg Host.Outcome.next ((s.request_taken p Config.codeSubmit tag x.bytes _ h).trans joins),
    (desc d).trans ?_, (desc e).trans ((if_neg apart).trans (if_pos rfl)),
    fun f hd he => (desc f).trans ((if_neg hd).trans (if_neg he)), fun a => ?_, ?_,
    s.sameOthers_taken_reply p Config.codeSubmit tag x.bytes rfl, State.agrees_submitted h rfl⟩
  · rw [if_pos rfl, Desc.admitChained, expiryOf_eq_match] <;> rfl
  · rw [State.taken_eq]
    rfl
  · rw [State.taken_eq]
    exact ⟨rfl, rfl, rfl, fun _ => rfl, fun _ => rfl, rfl, rfl, rfl, rfl, rfl, rfl⟩

end Sys2Proof.Machine
end

section
/-! QUERY_FREE: the search for a start at which a duration fits (O22). -/

namespace Sys2Proof.Machine

/-! ### Candidates and standing intervals -/

/-- R60: d ticks from c overlap no standing interval. -/
def State.FitsAt (s : State) (d : Nat) (c : Time) : Prop :=
  ∀ i ∈ s.standing, overlap c (plus c d) i.1 i.2 = false

/-- R60: no start at least `low` and less than `high` ticks ahead fits. -/
def State.NoRoom (s : State) (d low high : Nat) : Prop :=
  ∀ e, low ≤ distance s.now e → distance s.now e < high → ¬ s.FitsAt d e

/-- Every standing interval has at most 2^30 ticks (log 2). -/
def State.ShortStanding (s : State) : Prop := ∀ i ∈ s.standing, distance i.1 i.2 ≤ 2 ^ 30

/-- How many standing intervals end later than c: each move of the search leaves one behind. -/
def State.endsAfter (s : State) (c : Time) : Nat :=
  s.standing.countP fun i => decide (distance s.now c < distance s.now i.2)

theorem State.firstConflict_eq_none_iff {s : State} {d : Nat} {c : Time} :
    s.firstConflict c (plus c d) = none ↔ s.FitsAt d c := by
  simp only [State.firstConflict, List.find?_eq_none, State.FitsAt, Bool.not_eq_true]

theorem State.NoRoom.trans {s : State} {d a b c : Nat} (low : s.NoRoom d a b) (high : s.NoRoom d b c) :
    s.NoRoom d a c := fun e he hlt =>
  (Nat.lt_or_ge (distance s.now e) b).elim (low e he) (fun hb => high e hb hlt)

theorem State.noRoom_self (s : State) (d a : Nat) : s.NoRoom d a a := fun _ he hlt => absurd hlt (Nat.not_lt.2 he)

/-- R3: a distance is the difference of the distances from now. -/
theorem distance_eq_sub (now a b : Time) :
    distance a b = (distance now b + (2 ^ 32 - distance now a)) % 2 ^ 32 := by
  simp only [distance, BitVec.toNat_sub]
  omega

theorem distance_lt (a b : Time) : distance a b < 2 ^ 32 := (b - a).isLt

theorem distance_plus_right (now t : Time) (n : Nat) :
    distance now (plus t n) = (distance now t + n) % 2 ^ 32 := by
  simp only [distance, plus, BitVec.toNat_sub, BitVec.toNat_add, BitVec.toNat_ofNat]
  omega

section
variable {now c a b : Time} {d : Nat}

/-- R60: an interval that a candidate within the horizon conflicts with ends later than the candidate. -/
theorem distance_lt_of_overlap (horizon : distance now c ≤ 2 ^ 30) (conflict : overlap c (plus c d) a b = true) :
    distance now c < distance now b := by
  have ends : before c b = true := (Bool.and_eq_true_iff.1 conflict).1
  rw [before, decide_eq_true_iff, distance_eq_sub now] at ends
  have := distance_lt now b
  omega

/-- R60: a start between a candidate and the end of an interval of at most 2^30 ticks that it conflicts with conflicts
too: the interval begins before the candidate's end, and so before the later one's. -/
theorem overlap_of_between {e : Time} (dur : d ≤ 72224752) (horizon : distance now c ≤ 2 ^ 30)
    (short : distance a b ≤ 2 ^ 30) (conflict : overlap c (plus c d) a b = true)
    (low : distance now c ≤ distance now e) (high : distance now e < distance now b) :
    overlap e (plus e d) a b = true := by
  have ha := distance_lt now a
  have hb := distance_lt now b
  rw [overlap, Bool.and_eq_true_iff] at conflict ⊢
  simp only [before, decide_eq_true_iff] at conflict ⊢
  rw [distance_eq_sub now c b, distance_eq_sub now a, distance_plus_right now c] at conflict
  rw [distance_eq_sub now a b] at short
  rw [distance_eq_sub now e b, distance_eq_sub now a, distance_plus_right now e]
  omega

end

section
variable {s : State} {d : Nat} {c : Time} {i : Time × Time}

theorem State.mem_of_firstConflict {x y : Time} (h : s.firstConflict x y = some i) :
    i ∈ s.standing ∧ overlap x y i.1 i.2 = true :=
  ⟨List.mem_of_find?_eq_some h, List.find?_some (p := fun j : Time × Time => overlap x y j.1 j.2) h⟩

/-- R60: where the search moves from c to the end of a conflicting interval, nothing in between fits. -/
theorem State.noRoom_of_conflict (dur : d ≤ 72224752) (horizon : distance s.now c ≤ 2 ^ 30) (short : s.ShortStanding)
    (h : s.firstConflict c (plus c d) = some i) : s.NoRoom d (distance s.now c) (distance s.now i.2) := by
  obtain ⟨mem, conflict⟩ := s.mem_of_firstConflict h
  intro e low high fits
  exact Bool.false_ne_true ((fits i mem).symm.trans (overlap_of_between dur horizon (short i mem) conflict low high))

/-- R60: each move of the search leaves the interval behind that it conflicted with. -/
theorem State.endsAfter_lt_of_conflict (horizon : distance s.now c ≤ 2 ^ 30)
    (h : s.firstConflict c (plus c d) = some i) : s.endsAfter i.2 < s.endsAfter c := by
  obtain ⟨mem, conflict⟩ := s.mem_of_firstConflict h
  have moves := distance_lt_of_overlap horizon conflict
  have fewer (list : List (Time × Time)) :
      (list.countP fun j => decide (distance s.now i.2 < distance s.now j.2)) ≤
        list.countP fun j => decide (distance s.now c < distance s.now j.2) :=
    List.countP_mono_left fun j _ hj => decide_eq_true (moves.trans (of_decide_eq_true hj))
  obtain ⟨l, r, split⟩ := List.append_of_mem mem
  have hl := fewer l
  have hr := fewer r
  simp only [State.endsAfter, split, List.countP_append, List.countP_cons, moves, decide_true, Nat.lt_irrefl, decide_false,
    Bool.false_eq_true, if_true, if_false]
  omega

/-! ### The search -/

/-- R60: within the horizon the search answers a candidate that fits, and otherwise goes on at the end of the interval it
conflicts with. -/
theorem State.freeFrom_succ (s : State) (d fuel : Nat) {c : Time} (horizon : distance s.now c ≤ 2 ^ 30) :
    s.freeFrom d (fuel + 1) c = match s.firstConflict c (plus c d) with
      | none => some c
      | some i => s.freeFrom d fuel i.2 := by
  rw [State.freeFrom, if_neg (show ¬ Config.horizon < distance s.now c from Nat.not_lt.2 horizon)] <;> rfl

theorem State.freeFrom_beyond (s : State) (d fuel : Nat) {c : Time} (beyond : 2 ^ 30 < distance s.now c) :
    s.freeFrom d fuel c = none := by
  cases fuel with
  | zero => rfl
  | succ fuel => rw [State.freeFrom, if_pos (show Config.horizon < distance s.now c from beyond)]

theorem State.freeFrom_of_fits (fuel : Nat) (horizon : distance s.now c ≤ 2 ^ 30) (fits : s.FitsAt d c) :
    s.freeFrom d (fuel + 1) c = some c := by
  rw [s.freeFrom_succ d fuel horizon, State.firstConflict_eq_none_iff.2 fits]

/-- R60: what the search finds from c. -/
structure State.Finds (s : State) (d : Nat) (c found : Time) : Prop where
  fits : s.FitsAt d found
  low : distance s.now c ≤ distance s.now found
  high : distance s.now found ≤ 2 ^ 30
  place : found = c ∨ ∃ i ∈ s.standing, found = i.2
  least : s.ShortStanding → s.NoRoom d (distance s.now c) (distance s.now found)

/-- R60: the search with fuel for every interval that ends later. -/
theorem State.freeFrom_search (s : State) {d : Nat} (dur : d ≤ 72224752) (fuel : Nat) (c : Time)
    (enough : s.endsAfter c < fuel) : (∃ found, s.freeFrom d fuel c = some found ∧ s.Finds d c found) ∨
      s.freeFrom d fuel c = none ∧ (s.ShortStanding → s.NoRoom d (distance s.now c) (2 ^ 30 + 1)) := by
  induction fuel generalizing c with
  | zero => exact absurd enough (Nat.not_lt_zero _)
  | succ fuel ih =>
    rcases Nat.lt_or_ge (2 ^ 30) (distance s.now c) with beyond | horizon
    · exact .inr ⟨s.freeFrom_beyond d _ beyond, fun _ e low high => absurd high (by omega)⟩
    cases conflict : s.firstConflict c (plus c d) with
    | none =>
      have fits := State.firstConflict_eq_none_iff.1 conflict
      exact .inl ⟨c, State.freeFrom_of_fits fuel horizon fits, fits, Nat.le_refl _, horizon, .inl rfl,
        fun _ => s.noRoom_self d _⟩
    | some i =>
      have step : s.freeFrom d (fuel + 1) c = s.freeFrom d fuel i.2 := by rw [s.freeFrom_succ d fuel horizon, conflict]
      obtain ⟨mem, hit⟩ := s.mem_of_firstConflict conflict
      have moves := distance_lt_of_overlap horizon hit
      have skipped := fun short => s.noRoom_of_conflict dur horizon short conflict
      have fewer := s.endsAfter_lt_of_conflict horizon conflict
      rcases ih i.2 (by omega) with ⟨found, hfound, fits, low, high, place, least⟩ | ⟨none, full⟩
      · exact .inl ⟨found, step.trans hfound, fits, by omega, high,
          .inr (place.elim (fun heq => ⟨i, mem, heq⟩) id), fun short => (skipped short).trans (least short)⟩
      · exact .inr ⟨step.trans none, fun short => (skipped short).trans (full short)⟩

end

/-- R59: the candidate the search begins with lies within the horizon. -/
theorem State.firstCandidate_eq {s : State} {t : Time} (near : classOf s.now t ≠ .far) :
    s.firstCandidate t = if 32 ≤ distance s.now t ∧ distance s.now t ≤ 2 ^ 30 then t else s.now + 32 := by
  by_cases ahead : 32 ≤ distance s.now t ∧ distance s.now t ≤ 2 ^ 30
  · rw [if_pos ahead, State.firstCandidate, (classOf_eq_ahead_iff s.now t).2 ahead]
  · rw [if_neg ahead, State.firstCandidate]
    split
    · rfl
    · rfl
    · next h => exact absurd ((classOf_eq_ahead_iff s.now t).1 h) ahead
    · next h => exact absurd h near

theorem State.distance_firstCandidate {s : State} {t : Time} (near : classOf s.now t ≠ .far) :
    distance s.now (s.firstCandidate t) ≤ 2 ^ 30 := by
  rw [State.firstCandidate_eq near]
  split
  · next ahead => exact ahead.2
  · rw [distance, add_sub_cancel_left]
    decide

/-- R60: the search of a QUERY_FREE. -/
theorem State.freeStart_search (s : State) (t : Time) {d : Nat} (dur : d ≤ 72224752) :
    (∃ found, s.freeStart t d = some found ∧ s.Finds d (s.firstCandidate t) found) ∨
      s.freeStart t d = none ∧
        (s.ShortStanding → s.NoRoom d (distance s.now (s.firstCandidate t)) (2 ^ 30 + 1)) :=
  s.freeFrom_search dur _ _ (Nat.lt_succ_of_le List.countP_le_length)

theorem State.freeStart_of_fits {s : State} {t : Time} {d : Nat} (near : classOf s.now t ≠ .far)
    (fits : s.FitsAt d (s.firstCandidate t)) : s.freeStart t d = some (s.firstCandidate t) :=
  State.freeFrom_of_fits _ (State.distance_firstCandidate near) fits

/-! ### QUERY_FREE -/

theorem natOfBytes_be32 {n : Nat} (h : n < 2 ^ 32) : natOfBytes (be32 n) = n := by
  simp only [be32, natOfBytes, List.foldl, toNat_byteOf]
  omega

/-- R58: the fields of QUERY_FREE. -/
theorem readQueryFree_bytes (t : Time) {d : Nat} (h : d < 2 ^ 32) :
    readQueryFree (timeBytes t ++ be32 d) = if d = 0 ∨ 72224752 < d then none else some (t, d) := by
  conv_rhs => rw [← natOfBytes_be32 h, ← timeOfBytes_timeBytes t]
  rfl

theorem readQueryFree_of_length {fields : List Byte} (h : fields.length ≠ 8) : readQueryFree fields = none := by
  unfold readQueryFree
  split
  · exact absurd rfl h
  · rfl

section
variable {s : State} {p : Port} (code tag : Byte) (fields : List Byte)

/-- R60: a taken request searches the part as it stands. -/
theorem State.freeFrom_taken (d fuel : Nat) (c : Time) :
    (s.taken p code tag fields).freeFrom d fuel c = s.freeFrom d fuel c := by
  have clock : (s.taken p code tag fields).now = s.now := by rw [State.taken_eq]; rfl
  induction fuel generalizing c with
  | zero => rfl
  | succ fuel ih => simp only [State.freeFrom, clock, State.firstConflict_taken, ih]

theorem State.freeStart_taken (t : Time) (d : Nat) : (s.taken p code tag fields).freeStart t d = s.freeStart t d := by
  have clock : (s.taken p code tag fields).now = s.now := by rw [State.taken_eq]; rfl
  simp only [State.freeStart, State.freeFrom_taken, State.standing_taken, State.firstCandidate, clock]

theorem State.nextListedAfter_taken (c : Time) :
    (s.taken p code tag fields).nextListedAfter c = s.nextListedAfter c := by
  have sched : (s.taken p code tag fields).sched = s.sched := by rw [State.taken_eq]; rfl
  simp only [State.nextListedAfter, sched, State.desc_taken]

end

/-- R59, R60: QUERY_FREE in a session, as a taken request finds the part. -/
theorem State.doQueryFree_taken {s : State} {p : Port} (tag : Byte) (fields : List Byte) (session : s.InSession p) :
    State.doQueryFree p tag fields (s.taken p Config.codeQueryFree tag fields) =
      (let answer (r : ResultCode) (data : ReplyData) : State :=
        (s.taken p Config.codeQueryFree tag fields).reply p Config.codeQueryFree tag r data
      match readQueryFree fields with
      | none => answer .badField .none
      | some (t, d) =>
        if classOf s.now t = .far then answer .tooFar .none
        else match s.freeStart t d with
          | some c => answer .ok (.room c (s.nextListedAfter c))
          | none => answer .none .none) := by
  have yes := mt (State.noSession_taken p Config.codeQueryFree tag fields).1 (not_not_intro session)
  have clock : (s.taken p Config.codeQueryFree tag fields).now = s.now := by rw [State.taken_eq]; rfl
  simp only [State.doQueryFree, if_neg yes, clock, State.freeStart_taken, State.nextListedAfter_taken] <;> rfl

/-- Settles O22: the search moves to the end of each interval that it conflicts with, so that nothing it passes fits, and it
has fuel for every standing interval. -/
theorem queryFreeFindsRoom : Obligations.QueryFreeFindsRoom := by
  intro p tag fields s h
  refine ⟨fun none => ?_, fun session => ?_⟩
  · have no := (State.noSession_taken p Config.codeQueryFree tag fields).2 none
    exact s.replies_of_reply _ p Config.codeQueryFree tag fields _ _ _ h rfl (by
      simp only [State.doQueryFree, no, if_true])
  have acts := State.doQueryFree_taken tag fields session
  refine ⟨fun length => ?_, fun t d hf hd => ?_⟩
  · exact s.replies_of_reply _ p Config.codeQueryFree tag fields _ _ _ h rfl (by
      rw [acts, readQueryFree_of_length length])
  subst hf
  rw [readQueryFree_bytes t hd] at acts
  refine ⟨fun bad => ?_, fun positive dur => ?_⟩
  · exact s.replies_of_reply _ p Config.codeQueryFree tag _ _ _ _ h rfl (by
      rw [acts, if_pos bad])
  rw [if_neg (by omega)] at acts
  dsimp only at acts
  intro ahead
  refine ⟨fun beyond within => ?_, fun near => ?_⟩
  · exact s.replies_of_reply _ p Config.codeQueryFree tag _ _ _ _ h rfl (by
      rw [acts, if_pos ((classOf_eq_far_iff s.now t).2 ⟨beyond, within⟩)])
  intro first fits short answer
  have near := mt (classOf_eq_far_iff s.now t).1 near
  rw [if_neg near] at acts
  have candidate : s.firstCandidate t = first := State.firstCandidate_eq near
  have answers {c : Time} (found : s.freeStart t d = Option.some c) : answer c :=
    s.replies_of_reply _ p Config.codeQueryFree tag _ _ _ _ h rfl (by
      rw [acts, found]
      rfl)
  refine ⟨fun fit => answers ((State.freeStart_of_fits near (candidate ▸ fit)).trans (congrArg Option.some candidate)), ?_⟩
  rcases s.freeStart_search t dur with ⟨c, found, fit, low, high, place, least⟩ | ⟨none, full⟩
  · rw [candidate] at low place least
    exact .inl ⟨c, answers found, fit, low, high, place, least⟩
  · rw [candidate] at full
    exact .inr ⟨s.replies_of_reply _ p Config.codeQueryFree tag _ _ _ _ h rfl (by rw [acts, none]),
      fun hshort e he horizon => full hshort e he (Nat.lt_succ_of_le horizon)⟩

end Sys2Proof.Machine
end

section
/-! Purges: the chains that a walk over a port's descriptors takes, and their retirement (O45). -/

namespace Sys2Proof.Machine

/-! ### Chains, link by link -/

section
variable {s : State} {p : Port} {d : DescIdx} {cs : List DescIdx}

/-- R47: what holds of the first of a chain and passes on along links holds of all of it. -/
theorem State.ChainFrom.forall_mem (h : s.ChainFrom p d cs) {P : DescIdx → Prop} (first : P d)
    (next : ∀ x y, (s.desc x).successor = some y → (s.desc y).state = .held → (s.desc y).ownedBy p = true → P x → P y) :
    ∀ x ∈ d :: cs, P x := by
  induction cs generalizing d with
  | nil => simpa using first
  | cons e cs ih =>
    obtain ⟨-, succ, held, -, rest⟩ := h
    exact List.forall_mem_cons.2 ⟨first, ih rest (next d e succ held rest.owned first)⟩

theorem State.ChainFrom.owned_of_mem (h : s.ChainFrom p d cs) : ∀ x ∈ d :: cs, (s.desc x).ownedBy p = true :=
  h.forall_mem h.owned fun _ _ _ _ own _ => own

/-- R47: a member behind the first is HELD, and a member comes before it. -/
theorem State.ChainFrom.predecessor (h : s.ChainFrom p d cs) {y : DescIdx} (hy : y ∈ cs) :
    (s.desc y).state = .held ∧ ∃ x ∈ d :: cs, (s.desc x).successor = some y := by
  induction cs generalizing d with
  | nil => cases hy
  | cons e cs ih =>
    obtain ⟨-, succ, held, -, rest⟩ := h
    rcases List.mem_cons.1 hy with rfl | hy
    · exact ⟨held, d, List.mem_cons_self, succ⟩
    · obtain ⟨hheld, x, hx, hxy⟩ := ih rest hy
      exact ⟨hheld, x, List.mem_cons_of_mem d hx, hxy⟩

/-- R47: in a chain a successor stands directly after its predecessor. -/
theorem State.ChainFrom.split_of_successor (h : s.ChainFrom p d cs) {x y : DescIdx} (hx : x ∈ d :: cs)
    (hy : (s.desc x).successor = some y) : ∃ l r, d :: cs = l ++ x :: y :: r := by
  induction cs generalizing d with
  | nil => exact absurd (h.successor_mem hx hy) List.not_mem_nil
  | cons e cs ih =>
    obtain ⟨-, succ, -, -, rest⟩ := h
    rcases List.mem_cons.1 hx with rfl | hx
    · obtain rfl := Option.some.inj (succ.symm.trans hy)
      exact ⟨[], cs, rfl⟩
    · obtain ⟨l, r, split⟩ := ih rest hx
      exact ⟨d :: l, r, congrArg (d :: ·) split⟩

/-- R65: what a purge walk passes over at its own place is HELD behind a descriptor off the line. -/
theorem State.ChainsSound.passedOver_iff (h : s.ChainsSound) :
    s.passedOver d = true ↔
      (s.desc d).state = .held ∧ ∃ e, (s.desc e).successor = some d ∧ (s.desc e).offLine = true := by
  rw [State.passedOver, Bool.and_eq_true_iff, decide_eq_true_iff]
  refine and_congr_right fun _ => ?_
  cases hpred : s.predOf d with
  | none =>
    have none (e : DescIdx) : (s.desc e).successor ≠ some d := by
      simpa using List.find?_eq_none.1 hpred e (List.mem_finRange e)
    simp [none]
  | some e =>
    have he : (s.desc e).successor = some d := by simpa using List.find?_some hpred
    exact ⟨fun hoff => ⟨e, he, hoff⟩, fun ⟨e', he', hoff⟩ => h.one e' e d he' he ▸ hoff⟩

/-- R47, R65: the chain behind a descriptor off the line is passed over. -/
theorem State.ChainFrom.passedOver (h : s.ChainFrom p d cs) (chains : s.ChainsSound) (off : (s.desc d).offLine = true) :
    ∀ x ∈ cs, s.passedOver x = true := by
  have offLine : ∀ x ∈ d :: cs, (s.desc x).offLine = true :=
    h.forall_mem off fun _ y _ held _ _ => by simp [Desc.offLine, held]
  intro x hx
  obtain ⟨held, e, he, hex⟩ := h.predecessor hx
  exact chains.passedOver_iff.2 ⟨held, e, hex, offLine e he⟩

end

/-! ### What a walk takes -/

/-- R65, R159: what a purge walk over some places takes, in its order: each place that is not passed over, with the chain
behind it. -/
def State.purgedBy (s : State) (places : List DescIdx) : List DescIdx :=
  (places.filter fun d => !s.passedOver d).flatMap fun d => d :: s.chainAfter chainFuel d

/-- R159: the places of a purge walk of p. -/
def State.Places (s : State) (p : Port) (places : List DescIdx) : Prop :=
  ∀ d ∈ places, (s.desc d).ownedBy p = true ∧ (s.desc d).offLine = true

theorem State.purgedBy_append (s : State) (l r : List DescIdx) : s.purgedBy (l ++ r) = s.purgedBy l ++ s.purgedBy r := by
  rw [State.purgedBy, List.filter_append, List.flatMap_append, State.purgedBy, State.purgedBy]

theorem State.purgedBy_of_passedOver {s : State} {d : DescIdx} (h : s.passedOver d = true) : s.purgedBy [d] = [] := by
  simp [State.purgedBy, h]

theorem State.purgedBy_of_head {s : State} {p : Port} {d : DescIdx} {cs : List DescIdx} (h : s.passedOver d = false)
    (chain : s.ChainFrom p d cs) : s.purgedBy [d] = d :: cs := by
  simp [State.purgedBy, h, chain.chainAfter]

section
variable {s : State} {p : Port} {places : List DescIdx} (chains : s.ChainsSound) (off : s.Places p places)
include chains off

theorem State.mem_purgedBy {x : DescIdx} : x ∈ s.purgedBy places ↔
    ∃ d ∈ places, s.passedOver d = false ∧ ∃ cs, s.ChainFrom p d cs ∧ x ∈ d :: cs := by
  simp only [State.purgedBy, List.mem_flatMap, List.mem_filter, Bool.not_eq_true', and_assoc]
  refine exists_congr fun d => and_congr_right fun hd => and_congr_right fun _ => ?_
  obtain ⟨cs, chain⟩ := chains.chainFrom (off d hd).1
  refine ⟨fun hx => ⟨cs, chain, chain.chainAfter ▸ hx⟩, fun ⟨cs', chain', hx⟩ => ?_⟩
  rwa [chain'.chainAfter]

/-- R159: a walk takes descriptors of the port off the line. -/
theorem State.purgedBy_off {x : DescIdx} (hx : x ∈ s.purgedBy places) :
    (s.desc x).ownedBy p = true ∧ (s.desc x).offLine = true := by
  obtain ⟨d, hd, -, cs, chain, hmem⟩ := (State.mem_purgedBy chains off).1 hx
  exact chain.forall_mem (P := fun x => (s.desc x).ownedBy p = true ∧ (s.desc x).offLine = true) (off d hd)
    (fun _ y _ held own _ => ⟨own, by simp [Desc.offLine, held]⟩) x hmem

/-- R65: a walk takes a successor with its predecessor. -/
theorem State.purgedBy_successor {x y : DescIdx} (hx : x ∈ s.purgedBy places) (hy : (s.desc x).successor = some y) :
    y ∈ s.purgedBy places := by
  obtain ⟨d, hd, head, cs, chain, hmem⟩ := (State.mem_purgedBy chains off).1 hx
  exact (State.mem_purgedBy chains off).2 ⟨d, hd, head, cs, chain, List.mem_cons_of_mem d (chain.successor_mem hmem hy)⟩

/-- R65: what a walk takes behind a descriptor off the line it takes with that one. -/
theorem State.purgedBy_predecessor {x y : DescIdx} (hy : y ∈ s.purgedBy places) (hxy : (s.desc x).successor = some y)
    (hx : (s.desc x).offLine = true) : x ∈ s.purgedBy places := by
  obtain ⟨d, hd, head, cs, chain, hmem⟩ := (State.mem_purgedBy chains off).1 hy
  rcases List.mem_cons.1 hmem with rfl | hmem
  · have := chains.passedOver_iff.2 ⟨(chains.link x y hxy).2.1, x, hxy, hx⟩
    exact absurd (head.symm.trans this) (by decide)
  · obtain ⟨-, x', hx', hxy'⟩ := chain.predecessor hmem
    obtain rfl := chains.one x x' y hxy hxy'
    exact (State.mem_purgedBy chains off).2 ⟨d, hd, head, cs, chain, hx'⟩

/-- R159: what a walk takes stands at one of its places or is passed over at its own. -/
theorem State.purgedBy_origin {x : DescIdx} (hx : x ∈ s.purgedBy places) : x ∈ places ∨ s.passedOver x = true := by
  obtain ⟨d, hd, head, cs, chain, hmem⟩ := (State.mem_purgedBy chains off).1 hx
  rcases List.mem_cons.1 hmem with rfl | hmem
  · exact .inl hd
  · exact .inr (chain.passedOver chains (off d hd).2 x hmem)

/-- R159: a place that the walk comes to, with the chain behind it, has not been taken before. -/
theorem State.purgedBy_disjoint {d : DescIdx} {cs : List DescIdx} (hd : d ∉ places) (offLine : (s.desc d).offLine = true)
    (head : s.passedOver d = false) (chain : s.ChainFrom p d cs) : ∀ x ∈ d :: cs, x ∉ s.purgedBy places := by
  have apart : ∀ x ∈ d :: cs, (s.desc x).offLine = true ∧ x ∉ s.purgedBy places := by
    refine chain.forall_mem ⟨offLine, fun hmem => ?_⟩ fun x y hxy held _ ⟨hoff, hx⟩ =>
      ⟨by simp [Desc.offLine, held], fun hy => hx (State.purgedBy_predecessor chains off hy hxy hoff)⟩
    exact (State.purgedBy_origin chains off hmem).elim hd fun passed => absurd (head.symm.trans passed) (by decide)
  exact fun x hx => (apart x hx).2

/-- R65, R159: a walk over all that a port owns off the line takes all of it. -/
theorem State.purgedBy_all (all : ∀ d, (s.desc d).ownedBy p = true → (s.desc d).offLine = true → d ∈ places) (d : DescIdx) :
    d ∈ s.purgedBy places ↔ (s.desc d).ownedBy p = true ∧ (s.desc d).offLine = true := by
  refine ⟨State.purgedBy_off chains off, fun ⟨own, offLine⟩ => ?_⟩
  obtain ⟨rank, rises⟩ := chains.noLoop
  induction hn : rank d using Nat.strong_induction_on generalizing d with
  | _ n ih =>
    cases head : s.passedOver d with
    | false =>
      obtain ⟨cs, chain⟩ := chains.chainFrom own
      exact (State.mem_purgedBy chains off).2 ⟨d, all d own offLine, head, cs, chain, List.mem_cons_self⟩
    | true =>
      obtain ⟨-, e, hed, hoff⟩ := chains.passedOver_iff.1 head
      obtain ⟨live, -, owner⟩ := chains.link e d hed
      have ownE : (s.desc e).ownedBy p = true :=
        (Desc.ownedBy_iff _ p).2 ⟨live, owner.symm.trans (((s.desc d).ownedBy_iff p).1 own).2⟩
      exact State.purgedBy_successor chains off (ih (rank e) (hn ▸ rises e d hed) e ⟨ownE, hoff⟩ ownE hoff rfl) hed

end

/-! ### Retirements one after another -/

theorem Desc.unlinked_append (x : Desc) (ds ds' : List DescIdx) : x.unlinked (ds ++ ds') = (x.unlinked ds).unlinked ds' := by
  unfold Desc.unlinked
  cases hx : x.successor with
  | none => simp [hx]
  | some e =>
    by_cases he : e ∈ ds
    · simp [he]
    · simp [he, hx]

/-- R34: the links of a blank record. -/
theorem Desc.unlinked_blank (ds : List DescIdx) : Desc.blank.unlinked ds = Desc.blank := rfl

/-- R34: retirements after retirements. -/
theorem State.Retired.trans {s t u : State} {ds ds' : List DescIdx} (h : s.Retired t ds) (h' : t.Retired u ds') :
    s.Retired u (ds ++ ds') := by
  have both : (fun e => decide (e ∉ ds ++ ds')) = fun e => decide (e ∉ ds) && decide (e ∉ ds') := by
    funext e
    simp
  refine ⟨fun d hd => ?_, fun e he => ?_, ?_, ?_, h'.counter.trans h.counter, ?_, fun a => (h'.bytes a).trans (h.bytes a),
    h'.inReset.trans h.inReset, h'.lsense.trans h.lsense, h'.clock.trans h.clock, h'.enc.trans h.enc, h'.echo.trans h.echo,
    h'.prof.trans h.prof, h'.pending.trans h.pending⟩
  · by_cases hd' : d ∈ ds'
    · exact h'.free d hd'
    · rw [h'.others d hd', h.free d ((List.mem_append.1 hd).resolve_right hd'), Desc.unlinked_blank]
  · obtain ⟨hds, hds'⟩ := not_or.1 (mt List.mem_append.2 he)
    rw [h'.others e hds', h.others e hds, Desc.unlinked_append]
  · rw [h'.timed, h.timed, both, List.filter_filter]
    simp only [Bool.and_comm]
  · rw [h'.queued, h.queued, AsapQueues.remove_remove, both]
  · rw [h'.slot, h.slot]
    simp only [List.mem_append, or_and_right, exists_or]
    by_cases hds : ∃ d ∈ ds, s.disp.slot = some d
    · simp [hds]
    · simp [hds]

/-- R34, R35: a command's retirements of a port's descriptors, one after another. -/
theorem State.RetiresWith.trans {s t u : State} {p : Port} {ds ds' : List DescIdx} {es es' : List Entry}
    (h : s.RetiresWith t p ds es (some p)) (h' : t.RetiresWith u p ds' es' (some p)) :
    s.RetiresWith u p (ds ++ ds') (es ++ es') (some p) where
  retired := h.retired.trans h'.retired
  others q hq := (h'.others q hq).trans (h.others q hq)
  count := by
    rw [List.length_append, ← h.count, ← h'.count]
    omega
  port := by rw [if_pos rfl, h'.port, if_pos rfl, h.port, if_pos rfl, PortState.withEntries_append]

theorem State.RetiresWith.nil (s : State) (p : Port) : s.RetiresWith s p [] [] (some p) where
  retired := .refl s
  others _ _ := rfl
  count := rfl
  port := by rw [if_pos rfl, PortState.withEntries_nil]

/-! ### The walk -/

section
variable {s t : State} {p : Port} {ds : List DescIdx}

/-- R34 step 2: what has not retired is a live record as before but for its link. -/
theorem State.Retired.ownedBy_of_not_mem (r : s.Retired t ds) {x : DescIdx} (hx : x ∉ ds) :
    (t.desc x).ownedBy p = (s.desc x).ownedBy p := by
  rw [r.others x hx, Desc.unlinked_ownedBy]

theorem State.Retired.state_of_not_mem (r : s.Retired t ds) {x : DescIdx} (hx : x ∉ ds) :
    (t.desc x).state = (s.desc x).state := by
  rw [r.others x hx, Desc.unlinked_state]

theorem State.Retired.offLine_of_not_mem (r : s.Retired t ds) {x : DescIdx} (hx : x ∉ ds) :
    (t.desc x).offLine = (s.desc x).offLine := by
  rw [Desc.offLine, r.state_of_not_mem hx, Desc.offLine]

theorem State.Retired.successor_of_not_mem (r : s.Retired t ds) {x : DescIdx} (hx : x ∉ ds) {y : DescIdx} :
    (t.desc x).successor = some y ↔ (s.desc x).successor = some y ∧ y ∉ ds := by
  rw [r.others x hx, Desc.unlinked_successor]

/-- R34, R47: a chain of which nothing has retired stands. -/
theorem State.Retired.chainFrom (r : s.Retired t ds) {d : DescIdx} {cs : List DescIdx} (chain : s.ChainFrom p d cs)
    (apart : ∀ x ∈ d :: cs, x ∉ ds) : t.ChainFrom p d cs := by
  refine chain.congr (fun x hx => by rw [r.ownedBy_of_not_mem (apart x hx)]; exact id) (fun x hx => Option.ext fun y => ?_)
    fun x hx => r.state_of_not_mem (apart x (List.mem_cons_of_mem d hx))
  rw [r.successor_of_not_mem (apart x hx), and_iff_left_iff_imp]
  exact fun hy => apart y (List.mem_cons_of_mem d (chain.successor_mem hx hy))

/-- R35: the entry of a record says nothing of its link. -/
theorem frameDone_unlinked (x : Desc) (ds : List DescIdx) (o : FrameOutcome) (stop : Time) :
    frameDone (x.unlinked ds) o stop = frameDone x o stop := by
  unfold Desc.unlinked
  split
  · split <;> rfl
  · rfl

/-- R35, R65: the entries of a purged chain of which nothing has retired. -/
theorem State.Retired.chainEntries (r : s.Retired t ds) {d : DescIdx} {cs : List DescIdx} (apart : ∀ x ∈ d :: cs, x ∉ ds) :
    t.chainEntries d cs .purged .purged s.clock.time = s.purgeEntries (d :: cs) :=
  List.map_congr_left (l := d :: cs) (f := fun x => frameDone (t.desc x) .purged s.clock.time)
    fun x hx => by rw [r.others x (apart x hx), frameDone_unlinked]

end

section
variable {s t : State} {p : Port} {places : List DescIdx} (chains : s.ChainsSound) (off : s.Places p places)
  (r : s.Retired t (s.purgedBy places)) {d : DescIdx}
include chains off r

theorem State.Retired.chainsSound_purged : t.ChainsSound :=
  chains.retired r fun _ hx _ hy => State.purgedBy_successor chains off hx hy

/-- R65, R159: a place that was passed over at first is passed over, or its descriptor has retired already. -/
theorem State.purgeOne_of_passedOver (passed : s.passedOver d = true) : State.purgeOne p t d = t := by
  refine if_neg ?_
  by_cases hd : d ∈ s.purgedBy places
  · simp [r.free d hd, Desc.ownedBy, Desc.live, Desc.blank]
  · obtain ⟨held, e, hed, hoff⟩ := chains.passedOver_iff.1 passed
    have he : e ∉ s.purgedBy places := fun he => hd (State.purgedBy_successor chains off he hed)
    have passed' : t.passedOver d = true := (r.chainsSound_purged chains off).passedOver_iff.2
      ⟨(r.state_of_not_mem hd).trans held, e, (r.successor_of_not_mem he).2 ⟨hed, hd⟩, (r.offLine_of_not_mem he).trans hoff⟩
    simp [passed']

/-- R65, R159: a place that was not passed over at first is taken with the chain behind it. -/
theorem State.purgeOne_of_head {cs : List DescIdx} (hd : d ∉ places) (offLine : (s.desc d).offLine = true)
    (head : s.passedOver d = false) (chain : s.ChainFrom p d cs) :
    t.RetiresWith (State.purgeOne p t d) p (d :: cs) (s.purgeEntries (d :: cs)) (some p) := by
  have apart := State.purgedBy_disjoint chains off hd offLine head chain
  have fresh := apart d List.mem_cons_self
  have head' : t.passedOver d = false := by
    rw [Bool.eq_false_iff, Ne, (r.chainsSound_purged chains off).passedOver_iff]
    rintro ⟨held, e, hed, hoff⟩
    have he : e ∉ s.purgedBy places := fun he => by simp [r.free e he, Desc.offLine, Desc.blank] at hoff
    have passed := chains.passedOver_iff.2 ⟨(r.state_of_not_mem fresh).symm.trans held, e,
      ((r.successor_of_not_mem he).1 hed).1, (r.offLine_of_not_mem he).symm.trans hoff⟩
    exact absurd (head.symm.trans passed) (by decide)
  have takes : State.purgeOne p t d = t.retireNow d .purged s.clock.time (some p) := by
    rw [State.purgeOne, r.ownedBy_of_not_mem fresh, chain.owned, r.offLine_of_not_mem fresh, offLine, head', State.now, r.clock]
    rfl
  have done := State.retireNow_chain (r.chainFrom chain apart) (o := .purged) rfl s.clock.time (some p)
  rwa [takes, ← r.chainEntries apart]

end

/-- R65, R159: a purge walk over places of a port retires what it takes, each once. -/
theorem State.purge_places {s : State} {p : Port} (chains : s.ChainsSound) {places : List DescIdx} (off : s.Places p places)
    (once : places.Nodup) : (s.purgedBy places).Nodup ∧
      s.RetiresWith (places.foldl (State.purgeOne p) s) p (s.purgedBy places) (s.purgeEntries (s.purgedBy places)) (some p) := by
  induction places using List.reverseRecOn with
  | nil => exact ⟨List.nodup_nil, .nil s p⟩
  | append_singleton places d ih =>
    have offD := off d (by simp)
    replace off : s.Places p places := fun x hx => off x (List.mem_append_left _ hx)
    obtain ⟨once, -, fresh⟩ := List.nodup_append'.1 once
    have hd : d ∉ places := fun hmem => fresh hmem (List.mem_singleton_self d)
    obtain ⟨nodup, walked⟩ := ih off once
    rw [List.foldl_append, List.foldl_cons, List.foldl_nil, State.purgedBy_append]
    cases head : s.passedOver d with
    | true =>
      rw [State.purgedBy_of_passedOver head, List.append_nil, State.purgeOne_of_passedOver chains off walked.retired head]
      exact ⟨nodup, walked⟩
    | false =>
      obtain ⟨cs, chain⟩ := chains.chainFrom offD.1
      have apart := State.purgedBy_disjoint chains off hd offD.2 head chain
      rw [State.purgedBy_of_head head chain, State.purgeEntries, List.map_append]
      exact ⟨nodup.append chain.nodup fun x hx hx' => apart x hx' hx,
        walked.trans (State.purgeOne_of_head chains off walked.retired hd offD.2 head chain)⟩

end Sys2Proof.Machine
end

section
/-! CLOSE: the order of the purge walk, and what a purge leaves (O45). -/

namespace Sys2Proof.Machine

/-! ### The places of the walk -/

/-- R159: how two places of a purge walk stand, the first before the second: WAITING ones by admission, then the others in
table order. -/
def State.WalkedBefore (s : State) (d e : DescIdx) : Prop :=
  if (s.desc d).state = .waiting then
    (s.desc e).state = .waiting → ((s.desc d).admission.getD 0).toNat ≤ ((s.desc e).admission.getD 0).toNat
  else (s.desc e).state ≠ .waiting ∧ d < e

theorem insertByAdmission_perm (s : State) (d : DescIdx) (list : List DescIdx) :
    (insertByAdmission s d list).Perm (d :: list) := by
  induction list with
  | nil => exact .refl _
  | cons e list ih =>
    unfold insertByAdmission
    split
    · exact .refl _
    · exact (ih.cons e).trans (.swap d e list)

/-- R159: a list in the order of the admission numbers stays so. -/
theorem insertByAdmission_pairwise (s : State) (d : DescIdx) {list : List DescIdx}
    (h : list.Pairwise fun d e => ((s.desc d).admission.getD 0).toNat ≤ ((s.desc e).admission.getD 0).toNat) :
    (insertByAdmission s d list).Pairwise fun d e =>
      ((s.desc d).admission.getD 0).toNat ≤ ((s.desc e).admission.getD 0).toNat := by
  induction list with
  | nil => exact List.pairwise_singleton _ _
  | cons e list ih =>
    obtain ⟨first, rest⟩ := List.pairwise_cons.1 h
    unfold insertByAdmission
    split
    · next lower =>
      exact List.pairwise_cons.2 ⟨List.forall_mem_cons.2 ⟨lower.le, fun x hx => lower.le.trans (first x hx)⟩, h⟩
    · next higher =>
      refine List.pairwise_cons.2 ⟨fun x hx => ?_, ih rest⟩
      rcases List.mem_cons.1 ((insertByAdmission_perm s d list).mem_iff.1 hx) with rfl | hx
      · exact Nat.not_lt.1 higher
      · exact first x hx

/-- R159: the WAITING ones of a port, each once, by admission. -/
theorem State.admittedOf_perm (s : State) (p : Port) : (s.admittedOf p).Perm
    (allDescs.filter fun d => (s.desc d).ownedBy p && decide ((s.desc d).state = .waiting)) := by
  rw [State.admittedOf]
  generalize allDescs.filter _ = list
  induction list with
  | nil => exact .refl _
  | cons d list ih => exact (insertByAdmission_perm s d _).trans (ih.cons d)

theorem State.admittedOf_pairwise (s : State) (p : Port) : (s.admittedOf p).Pairwise fun d e =>
    ((s.desc d).admission.getD 0).toNat ≤ ((s.desc e).admission.getD 0).toNat := by
  rw [State.admittedOf]
  generalize allDescs.filter _ = list
  induction list with
  | nil => exact .nil
  | cons d list ih => exact insertByAdmission_pairwise s d ih

section
variable {s : State} {p : Port} {d : DescIdx}

theorem State.mem_admittedOf : d ∈ s.admittedOf p ↔ (s.desc d).ownedBy p = true ∧ (s.desc d).state = .waiting := by
  simp [(s.admittedOf_perm p).mem_iff, allDescs]

theorem State.mem_unadmittedOf : d ∈ s.unadmittedOf p ↔
    (s.desc d).ownedBy p = true ∧ ((s.desc d).state = .loading ∨ (s.desc d).state = .held) := by
  simp [State.unadmittedOf, allDescs]

/-- R159: the walk has a place for every descriptor of the port off the line. -/
theorem State.mem_places : d ∈ s.admittedOf p ++ s.unadmittedOf p ↔
    (s.desc d).ownedBy p = true ∧ (s.desc d).offLine = true := by
  simp only [List.mem_append, State.mem_admittedOf, State.mem_unadmittedOf, ← and_or_left, Desc.offLine, decide_eq_true_iff]
  refine and_congr_right fun _ => ?_
  rw [or_comm, or_assoc]

/-- R37, R159: what a port owns is off the line or ON_LINE. -/
theorem Desc.offLine_iff_of_owned {x : Desc} (own : x.ownedBy p = true) : x.offLine = true ↔ x.state ≠ .onLine := by
  have live := (x.live_iff).1 ((x.ownedBy_iff p).1 own).1
  rw [Desc.offLine, decide_eq_true_iff]
  cases hx : x.state <;> simp_all

end

theorem State.places_pairwise (s : State) (p : Port) :
    (s.admittedOf p ++ s.unadmittedOf p).Pairwise s.WalkedBefore := by
  refine List.pairwise_append.2 ⟨?_, ?_, fun d hd e he => ?_⟩
  · refine (s.admittedOf_pairwise p).imp_of_mem fun {d e} hd _ lower => ?_
    rw [State.WalkedBefore, if_pos (State.mem_admittedOf.1 hd).2]
    exact fun _ => lower
  · refine ((List.pairwise_lt_finRange 48).filter _).imp_of_mem fun {d e} hd he lower => ?_
    have notWaiting {x : DescIdx} (hx : x ∈ s.unadmittedOf p) : (s.desc x).state ≠ .waiting := fun waiting => by
      simpa [waiting] using (State.mem_unadmittedOf.1 hx).2
    rw [State.WalkedBefore, if_neg (notWaiting hd)]
    exact ⟨notWaiting he, lower⟩
  · rw [State.WalkedBefore, if_pos (State.mem_admittedOf.1 hd).2]
    intro waiting
    simpa [waiting] using (State.mem_unadmittedOf.1 he).2

theorem State.places_nodup (s : State) (p : Port) : (s.admittedOf p ++ s.unadmittedOf p).Nodup := by
  refine List.nodup_append'.2 ⟨(s.admittedOf_perm p).nodup_iff.2 ((List.nodup_finRange 48).filter _),
    (List.nodup_finRange 48).filter _, fun d hd hd' => ?_⟩
  have waiting := (State.mem_admittedOf.1 hd).2
  simpa [waiting] using (State.mem_unadmittedOf.1 hd').2

/-! ### The order of what a walk takes -/

/-- R65, R159: the order in which a purge of p takes what it owns off the line. -/
def State.purgeOrder (s : State) (p : Port) : List DescIdx := s.purgedBy (s.admittedOf p ++ s.unadmittedOf p)

theorem State.OwnPlace.not_waiting {s : State} {d : DescIdx} (h : s.OwnPlace d) : (s.desc d).state ≠ .waiting := by
  rcases h with loading | ⟨held, -⟩
  · simp [loading]
  · simp [held]

section
variable {s : State} {p : Port} (chains : s.ChainsSound)
include chains

/-- R65: a descriptor taken at its own place heads what is taken with it. -/
theorem State.ChainFrom.eq_head {d : DescIdx} {cs : List DescIdx} (h : s.ChainFrom p d cs)
    (off : (s.desc d).offLine = true) {x : DescIdx} (hx : x ∈ d :: cs)
    (own : (s.desc x).state = .waiting ∨ s.OwnPlace x) : x = d := by
  refine (List.mem_cons.1 hx).resolve_right fun hmem => ?_
  obtain ⟨held, e, hex, hoff⟩ := chains.passedOver_iff.1 (h.passedOver chains off x hmem)
  rcases own with waiting | loading | ⟨-, e', hex', onLine⟩
  · simp [waiting] at held
  · simp [loading] at held
  · obtain rfl := chains.one e e' x hex hex'
    simp [Desc.offLine, onLine] at hoff

/-- R65, R159: a relation between descriptors taken at their own places holds in the order of the walk where it holds of
the places. -/
theorem State.purgeOrder_pairwise {R : DescIdx → DescIdx → Prop}
    (places : ∀ d e, s.WalkedBefore d e →
      ((s.desc d).state = .waiting ∨ s.OwnPlace d) → ((s.desc e).state = .waiting ∨ s.OwnPlace e) → R d e) :
    (s.purgeOrder p).Pairwise fun d e =>
      ((s.desc d).state = .waiting ∨ s.OwnPlace d) → ((s.desc e).state = .waiting ∨ s.OwnPlace e) → R d e := by
  have ofHead {d : DescIdx} (hd : d ∈ s.admittedOf p ++ s.unadmittedOf p) :
      ∃ cs, s.chainAfter chainFuel d = cs ∧ s.ChainFrom p d cs ∧ (s.desc d).offLine = true := by
    obtain ⟨own, off⟩ := State.mem_places.1 hd
    obtain ⟨cs, chain⟩ := chains.chainFrom own
    exact ⟨cs, chain.chainAfter, chain, off⟩
  refine List.pairwise_flatMap.2 ⟨fun d hd => ?_, ((s.places_pairwise p).filter _).imp_of_mem fun {d e} hd he walked => ?_⟩
  · obtain ⟨cs, eq, chain, off⟩ := ofHead (List.mem_of_mem_filter hd)
    rw [eq]
    refine chain.nodup.imp_of_mem fun {x y} hx hy hxy ownX ownY => ?_
    exact absurd ((chain.eq_head chains off hx ownX).trans (chain.eq_head chains off hy ownY).symm) hxy
  · obtain ⟨cs, eq, chain, off⟩ := ofHead (List.mem_of_mem_filter hd)
    obtain ⟨cs', eq', chain', off'⟩ := ofHead (List.mem_of_mem_filter he)
    rw [eq, eq']
    intro x hx y hy ownX ownY
    obtain rfl := chain.eq_head chains off hx ownX
    obtain rfl := chain'.eq_head chains off' hy ownY
    exact places x y walked ownX ownY

theorem State.mem_purgeOrder (d : DescIdx) :
    d ∈ s.purgeOrder p ↔ (s.desc d).ownedBy p = true ∧ (s.desc d).state ≠ .onLine := by
  rw [State.purgeOrder, State.purgedBy_all chains (fun _ hd => State.mem_places.1 hd)
    fun _ own off => State.mem_places.2 ⟨own, off⟩]
  exact and_congr_right Desc.offLine_iff_of_owned

/-- R65, R159: the walk's order is the one the rules give. -/
theorem State.purgeOrder_spec : s.PurgeOrder p (s.purgeOrder p) := by
  have off : s.Places p (s.admittedOf p ++ s.unadmittedOf p) := fun _ hd => State.mem_places.1 hd
  refine ⟨State.mem_purgeOrder chains, (State.purge_places chains off (s.places_nodup p)).1, fun d e hd hde => ?_, ?_, ?_, ?_⟩
  · obtain ⟨h, hh, head, cs, chain, hmem⟩ := (State.mem_purgedBy chains off).1 hd
    obtain ⟨l, r, split⟩ := chain.split_of_successor hmem hde
    obtain ⟨l', r', places⟩ := List.append_of_mem hh
    refine ⟨s.purgedBy l' ++ l, r ++ s.purgedBy r', ?_⟩
    have taken : s.purgedBy (h :: r') = (h :: cs) ++ s.purgedBy r' := by
      rw [← List.singleton_append, s.purgedBy_append, State.purgedBy_of_head head chain]
    rw [State.purgeOrder, places, s.purgedBy_append, taken, split]
    simp
  · refine (State.purgeOrder_pairwise chains (R := fun d e => (s.desc d).state = .waiting → (s.desc e).state = .waiting →
      ((s.desc d).admission.getD 0).toNat ≤ ((s.desc e).admission.getD 0).toNat) fun d e walked _ _ waiting => ?_).imp
      fun h waiting waiting' => h (.inl waiting) (.inl waiting') waiting waiting'
    rwa [State.WalkedBefore, if_pos waiting] at walked
  · refine (State.purgeOrder_pairwise chains (R := fun d e => s.OwnPlace d → (s.desc e).state ≠ .waiting)
      fun d e walked _ _ own => ?_).imp fun h own waiting => h (.inr own) (.inl waiting) own waiting
    rw [State.WalkedBefore, if_neg own.not_waiting] at walked
    exact walked.1
  · refine (State.purgeOrder_pairwise chains (R := fun d e => s.OwnPlace d → s.OwnPlace e → d < e)
      fun d e walked _ _ own _ => ?_).imp fun h own own' => h (.inr own) (.inr own') own own'
    rw [State.WalkedBefore, if_neg own.not_waiting] at walked
    exact walked.2

/-- R159: the purge walk. -/
theorem State.purgeWalk_spec : s.RetiresWith (s.purgeWalk p) p (s.purgeOrder p) (s.purgeEntries (s.purgeOrder p)) (some p) :=
  (State.purge_places chains (fun _ hd => State.mem_places.1 hd) (s.places_nodup p)).2

end

end Sys2Proof.Machine
end

section
/-! CLOSE: what a purge leaves of the part, and the command (O45). -/

namespace Sys2Proof.Machine

/-! ### The mark on the frame on the line -/

/-- R18: the truncate mark of the port's ON_LINE descriptor, and nothing else. -/
theorem State.desc_markOnLine (s : State) (p : Port) (e : DescIdx) : (s.markOnLine p).desc e =
    if s.disp.slot = some e ∧ (s.desc e).ownedBy p = true then { s.desc e with truncate := true } else s.desc e := by
  unfold State.markOnLine
  cases hslot : s.disp.slot with
  | none => simp
  | some d =>
    by_cases hed : e = d
    · subst hed
      cases own : (s.desc e).ownedBy p <;> simp [own]
    · have : d ≠ e := Ne.symm hed
      cases own : (s.desc d).ownedBy p <;> simp [own, hed, this]

theorem State.markOnLine_eq (s : State) (p : Port) :
    ∃ ds, s.markOnLine p = { s with store := { s.store with descs := ds } } := by
  unfold State.markOnLine
  split
  · split
    · exact ⟨_, rfl⟩
    · exact ⟨_, rfl⟩
  · exact ⟨_, rfl⟩

theorem State.markOnLine_port (s : State) (p q : Port) : (s.markOnLine p).port q = s.port q := by
  obtain ⟨ds, eq⟩ := s.markOnLine_eq p
  rw [eq]
  rfl

theorem State.liveCount_markOnLine (s : State) (p : Port) : (s.markOnLine p).liveCount p = s.liveCount p :=
  State.liveCount_congr fun d => by
    rw [State.desc_markOnLine]
    split <;> rfl

/-! ### What a purge leaves -/

theorem Desc.unlinked_of_mem {x : Desc} {ds : List DescIdx} (h : ∀ e, x.successor = some e → e ∈ ds) :
    x.unlinked ds = { x with successor := none } := by
  unfold Desc.unlinked
  cases hx : x.successor with
  | none => exact congrArg (fun l => { x with successor := l }) hx
  | some e => simp only [if_pos (h e hx)]

theorem Desc.unlinked_of_not_mem {x : Desc} {ds : List DescIdx} (h : ∀ e, x.successor = some e → e ∉ ds) :
    x.unlinked ds = x := by
  unfold Desc.unlinked
  cases hx : x.successor with
  | none => rfl
  | some e => simp only [if_neg (h e hx)]

theorem AsapQueues.remove_congr (q : AsapQueues) {f g : DescIdx → Bool} (h : ∀ d ∈ q.order, f d = g d) :
    q.remove f = q.remove g := by
  simp only [AsapQueues.order, List.mem_append, or_imp, forall_and] at h
  obtain ⟨⟨⟨h0, h1⟩, h2⟩, h3⟩ := h
  simp only [AsapQueues.remove, List.filter_congr h0, List.filter_congr h1, List.filter_congr h2, List.filter_congr h3]

/-- R34, R65, R157: what the retirements of a purge and the mark leave of the part, the claim released. -/
theorem State.PurgeOrder.purged {s u : State} {p : Port} {order : List DescIdx} {ps : Ports} (ordered : s.PurgeOrder p order)
    (sched : s.ScheduleSound) (line : s.LineSound) (chains : s.ChainsSound)
    (r : State.Retired { s with prof := s.profReleased p, ports := ps } u order) : s.Purged (u.markOnLine p) p := by
  have disp : u.disp = s.disp := r.slot.trans (if_neg fun ⟨d, hd, hslot⟩ =>
    ((ordered.all d).1 hd).2 ((line.onLine d).2 hslot))
  have waits {d : DescIdx} (waiting : (s.desc d).state = .waiting) : decide (d ∉ order) = !(s.desc d).ownedBy p := by
    simp [ordered.all, waiting]
  have stays {d : DescIdx} (hd : d ∉ order) : u.desc d = (s.desc d).unlinked order := r.others d hd
  obtain ⟨ds, eq⟩ := u.markOnLine_eq p
  refine ⟨fun d own off => ?_, fun d own on => ?_, fun d foreign => ?_, ?_, ?_, ?_, ?_, fun a => ?_, ?_, ?_, ?_, ?_, ?_, ?_, ?_⟩
  · rw [State.desc_markOnLine, r.free d ((ordered.all d).2 ⟨own, off⟩), if_neg (by simp [Desc.ownedBy, Desc.live, Desc.blank])]
  · have whole : (s.desc d).unlinked order = { s.desc d with successor := none } := Desc.unlinked_of_mem fun e hde => by
      obtain ⟨-, held, owner⟩ := chains.link d e hde
      refine (ordered.all e).2 ⟨(Desc.ownedBy_iff _ p).2 ⟨by simp [Desc.live, held], ?_⟩, by simp [held]⟩
      exact owner.trans (((s.desc d).ownedBy_iff p).1 own).2
    have hd : d ∉ order := fun hd => ((ordered.all d).1 hd).2 on
    rw [State.desc_markOnLine, disp, stays hd, Desc.unlinked_ownedBy, if_pos ⟨(line.onLine d).1 on, own⟩, whole]
  · have hd : d ∉ order := fun hd => by simp [((ordered.all d).1 hd).1] at foreign
    have whole : (s.desc d).unlinked order = s.desc d := Desc.unlinked_of_not_mem fun e hde he => by
      obtain ⟨live, -, owner⟩ := chains.link d e hde
      have own := (((s.desc e).ownedBy_iff p).1 ((ordered.all e).1 he).1).2
      have := (Desc.ownedBy_iff (s.desc d) p).2 ⟨live, owner.symm.trans own⟩
      simp [foreign] at this
    rw [State.desc_markOnLine, stays hd, whole, if_neg (by simp [foreign])]
  · rw [eq]
    exact r.timed.trans (List.filter_congr fun d hd => waits ((sched.timed d).1 hd).1)
  · rw [eq]
    exact r.queued.trans (AsapQueues.remove_congr _ fun d hd => waits ((sched.queued d).1 hd).1)
  all_goals rw [eq]
  · exact r.counter
  · exact r.prof
  · exact r.bytes a
  · exact r.inReset
  · exact r.lsense
  · exact r.clock
  · exact disp
  · exact r.enc
  · exact r.echo
  · exact r.pending

/-- R34: a purge looks at no port. -/
theorem State.Purged.ports {s t : State} {p : Port} (h : s.Purged t p) (ps : Ports) : s.Purged { t with ports := ps } p :=
  ⟨h.1, h.2, h.3, h.4, h.5, h.6, h.7, h.8, h.9, h.10, h.11, h.12, h.13, h.14, h.15⟩

theorem State.Purged.noDecision {s u : State} {p : Port} (h : s.Purged u p) : s.NoDecision u := fun idle =>
  u.startDecision_of_not_idle (h.disp ▸ idle)

/-! ### A session that closes -/

/-- R156: the port of a session that has become CLOSING with a form. -/
def PortState.closing (q : PortState) (f : CloseForm) : PortState :=
  { q with session := { q.session with state := .closing, form := some f } }

/-- R134, R156: a taken CLOSE releases the claim and moves the session. -/
theorem State.startClosing_taken (s : State) (p : Port) (tag : Byte) (fields : List Byte) (f : CloseForm) :
    (s.taken p Config.codeClose tag fields).startClosing p f = { s with
      prof := s.profReleased p
      ports := ((s.taken p Config.codeClose tag fields).startClosing p f).ports } := by
  rw [State.startClosing, State.releaseClaim_eq, State.taken_eq]
  rfl

section
variable {s : State} {p : Port} (tag : Byte) (fields : List Byte) (f : CloseForm)

theorem State.port_startClosing : ((s.taken p Config.codeClose tag fields).startClosing p f).port p =
    { (s.port p).renewed.closing f with link := s.sentLink p Config.codeClose tag fields } := by
  rw [State.startClosing, State.port_modSession, if_pos rfl, State.releaseClaim_eq, State.taken_eq]
  exact congrArg (PortState.closing · f) ((s.port_modPort p p _).trans (if_pos rfl))

theorem State.sameOthers_startClosing : s.SameOthers ((s.taken p Config.codeClose tag fields).startClosing p f) p := by
  intro q hq
  rw [State.startClosing, State.port_modSession, if_neg hq, State.releaseClaim_eq, State.taken_eq]
  exact (s.port_modPort p q _).trans (if_neg hq)

theorem State.liveCount_startClosing :
    ((s.taken p Config.codeClose tag fields).startClosing p f).liveCount p = s.liveCount p := by
  rw [State.startClosing_taken]
  rfl

/-- R34, R158: the record of the port that a CLOSE leaves. -/
theorem State.agrees_startClosing (h : s.Takes p fields) (es : List Entry) (n : Nat) :
    (((((s.taken p Config.codeClose tag fields).startClosing p f).port p).withEntries es).afterRetirements n).Agrees
      ((((s.port p).renewed.closing f).withEntries es).afterRetirements n) := by
  rw [State.port_startClosing]
  have link := PortState.afterRetirements_link (((s.port p).renewed.closing f).withEntries es)
    (s.sentLink p Config.codeClose tag fields) n
  refine Eq.mpr (congrArg (PortState.Agrees · _) link) ?_
  exact s.agrees_sentLink p Config.codeClose tag fields h (PortState.link_afterRetirements _ n)

end

/-- R158: an entry and the completion that may follow it leave all but the port. -/
theorem State.complete_place_eq (s : State) (p : Port) (e : Entry) :
    ∃ ps, (s.place p e).complete p = { s with ports := ps } := by
  rcases (s.place p e).complete_cases p with ⟨-, eq⟩ | ⟨-, -, eq⟩ <;> rw [eq] <;> exact ⟨_, rfl⟩

theorem State.port_complete_place (s : State) (p : Port) (e : Entry) :
    ((s.place p e).complete p).port p = ((s.port p).withEntries [e]).afterRetirements (s.liveCount p) := by
  rw [State.port_complete, State.port_place, if_pos rfl]
  rfl

theorem State.port_complete_place_other (s : State) {p q : Port} (hq : q ≠ p) (e : Entry) :
    ((s.place p e).complete p).port q = s.port q := by
  rw [State.port_complete_other _ hq, State.port_place, if_neg hq]

/-- R65, R157, R159: the purge of a taken CLOSE, its REPLY and the completion. -/
theorem State.closePurge_taken {s : State} {p : Port} (tag : Byte) (fields : List Byte) (h : s.Takes p fields)
    (sched : s.ScheduleSound) (line : s.LineSound) (chains : s.ChainsSound) :
    ∃ u order, State.closePurge p tag (s.taken p Config.codeClose tag fields) =
        (if u.sched.timed.length < s.sched.timed.length then u.startDecision else u) ∧
      s.PurgeOrder p order ∧ s.Purged u p ∧ s.SameOthers u p ∧
      (u.port p).Agrees ((((s.port p).renewed.closing .purge).withEntries (s.purgeEntries order ++
        [.reply 0x12 tag .ok (.closed .purge (s.liveCount p - order.length))])).afterRetirements
          (s.liveCount p - order.length)) := by
  have counts := State.liveCount_startClosing (s := s) (p := p) tag fields .purge
  have agrees := State.agrees_startClosing (p := p) tag fields .purge h
  have others := State.sameOthers_startClosing (s := s) (p := p) tag fields .purge
  have part := s.startClosing_taken p tag fields .purge
  have acts : State.closePurge p tag (s.taken p Config.codeClose tag fields) =
      (((((s.taken p Config.codeClose tag fields).startClosing p .purge).purgeWalk p).markOnLine p).reply p Config.codeClose
        tag .ok (.closed .purge ((((s.taken p Config.codeClose tag fields).startClosing p .purge).purgeWalk p).markOnLine
          p |>.liveCount p)) |>.complete p).decideIfLeft (s.taken p Config.codeClose tag fields) := rfl
  have sched_taken : (s.taken p Config.codeClose tag fields).sched = s.sched := by rw [State.taken_eq]; rfl
  rw [acts, State.decideIfLeft, sched_taken]
  generalize (s.taken p Config.codeClose tag fields).startClosing p .purge = v at *
  have chainsV : v.ChainsSound := part ▸ ⟨chains.link, chains.one, chains.held, chains.noLoop⟩
  obtain ⟨all, once, chained, admitted, passes, placed⟩ := State.purgeOrder_spec (p := p) chainsV
  have desc (d : DescIdx) : v.desc d = s.desc d := by rw [part]; rfl
  have clock : v.clock = s.clock := by rw [part]
  have walked := State.purgeWalk_spec (p := p) chainsV
  generalize v.purgeOrder p = order at *
  have ordered : s.PurgeOrder p order := by
    simp only [State.OwnPlace, desc] at all chained admitted passes placed
    exact ⟨all, once, chained, admitted, passes, placed⟩
  have entries : v.purgeEntries order = s.purgeEntries order := by simp only [State.purgeEntries, desc, clock]
  have left : ((v.purgeWalk p).markOnLine p).liveCount p = s.liveCount p - order.length := by
    rw [State.liveCount_markOnLine, ← counts]
    exact Nat.eq_sub_of_add_eq walked.count
  have purged : s.Purged ((v.purgeWalk p).markOnLine p) p := ordered.purged sched line chains
    ((congrArg (State.Retired · (v.purgeWalk p) order) part).mp walked.retired)
  obtain ⟨ps, eq⟩ := ((v.purgeWalk p).markOnLine p).complete_place_eq p
    (.reply 0x12 tag .ok (.closed .purge (((v.purgeWalk p).markOnLine p).liveCount p)))
  refine ⟨_, order, rfl, ordered, ?_, fun q hq => ?_, ?_⟩
  · exact eq ▸ purged.ports ps
  · exact (State.port_complete_place_other _ hq _).trans ((State.markOnLine_port ..).trans ((walked.others q hq).trans (others q hq)))
  · refine Eq.mpr (congrArg (PortState.Agrees · _) (State.port_complete_place _ p _)) ?_
    rw [left, State.markOnLine_port, walked.port, if_pos rfl, PortState.withEntries_append, entries]
    exact agrees _ _

theorem readClose_eq_none {fields : List Byte} (drain : fields ≠ [0]) (purge : fields ≠ [1]) : readClose fields = none := by
  unfold readClose
  split
  · next b =>
    unfold closeFormOf
    split
    · next h => exact absurd (congrArg (fun c => [c]) (BitVec.eq_of_toNat_eq (x := b) (y := 0) h)) drain
    · next h => exact absurd (congrArg (fun c => [c]) (BitVec.eq_of_toNat_eq (x := b) (y := 1) h)) purge
    · rfl
  · rfl

/-- R156: the drain of a taken CLOSE in OPEN moves the session only; its REPLY and the completion follow. -/
theorem State.closeDrain_taken {s : State} {p : Port} (tag : Byte) (fields : List Byte) (h : s.Takes p fields) :
    let v := (s.taken p Config.codeClose tag fields).startClosing p .drain
    let t := (v.reply p Config.codeClose tag .ok (.closed .drain (v.liveCount p))).complete p
    t.prof = s.profReleased p ∧ s.SamePart { t with prof := s.prof } ∧ s.SameOthers t p ∧
      (t.port p).Agrees ((((s.port p).renewed.closing .drain).withEntries
        [.reply 0x12 tag .ok (.closed .drain (s.liveCount p))]).afterRetirements (s.liveCount p)) := by
  intro v t
  have part : v = { s with prof := s.profReleased p, ports := v.ports } := s.startClosing_taken p tag fields .drain
  have counts : v.liveCount p = s.liveCount p := State.liveCount_startClosing tag fields .drain
  obtain ⟨ps, eq⟩ := v.complete_place_eq p (.reply 0x12 tag .ok (.closed .drain (v.liveCount p)))
  have whole : t = { s with prof := s.profReleased p, ports := ps } :=
    eq.trans (congrArg (fun w : State => { w with ports := ps }) part)
  refine ⟨congrArg State.prof whole, ?_, fun q hq => ?_, ?_⟩
  · rw [whole]
    exact ⟨rfl, rfl, rfl, fun _ => rfl, fun _ => rfl, rfl, rfl, rfl, rfl, rfl, rfl⟩
  · exact (State.port_complete_place_other _ hq _).trans (State.sameOthers_startClosing tag fields .drain q hq)
  · refine Eq.mpr (congrArg (PortState.Agrees · _) (State.port_complete_place _ p _)) ?_
    rw [counts]
    exact State.agrees_startClosing tag fields .drain h _ _

/-- Settles O45: the form of the CLOSE decides between the drain, which moves the session, and the purge, whose walk takes
each place that is not passed over with its chain. -/
theorem closeEndsSession : Obligations.CloseEndsSession := by
  intro p tag fields s h
  have no := State.noSession_taken (s := s) p Config.codeClose tag fields
  have state := s.sessionState_taken p Config.codeClose tag fields
  refine ⟨fun none => ?_, fun session => ?_⟩
  · exact s.replies_of_reply _ p Config.codeClose tag fields _ _ _ h rfl (by
      simp only [State.doClose, no.2 none, if_true])
  have yes := mt no.1 (not_not_intro session)
  intro closing
  refine ⟨fun drain purge => ?_, fun hf => ⟨fun going f form => ?_, fun opened => ?_⟩, fun hf sched line chains => ?_⟩
  · exact s.replies_of_reply _ p Config.codeClose tag fields _ _ _ h rfl (by
      simp only [State.doClose, if_neg yes, readClose_eq_none drain purge])
  · subst hf
    have form_taken : ((s.taken p Config.codeClose tag [0]).port p).session.form = some f := by
      rw [State.taken_eq, State.port_modPort, if_pos rfl]
      exact (s.port p).renewed_keeps.2.2.1.trans form
    exact s.replies_of_reply _ p Config.codeClose tag [0] _ _ _ h rfl (by
      rw [State.doClose, if_neg yes, state, form_taken, State.liveCount_taken]
      exact if_pos going)
  · subst hf
    refine ⟨_, congrArg Host.Outcome.next ((s.request_taken p Config.codeClose tag [0] _ h).trans ?_),
      State.closeDrain_taken tag [0] h⟩
    rw [State.doClose, if_neg yes, state]
    exact if_neg (by simp [opened])
  · subst hf
    obtain ⟨u, order, acts, ordered, purged, others, agrees⟩ := State.closePurge_taken tag [1] h sched line chains
    refine ⟨u, order, congrArg Host.Outcome.next ((s.request_taken p Config.codeClose tag [1] _ h).trans (Eq.trans ?_ acts)),
      purged.noDecision, ordered, purged, others, agrees⟩
    simp only [State.doClose, if_neg yes]
    rfl

end Sys2Proof.Machine
end

section
/-! The commands over the line: LINE_ENABLE, LINE_DISABLE and QUERY_LINE (O28, O29, O30). -/

namespace Sys2Proof.Machine

/-! ### The holder's checks -/

section
variable {s : State} {p : Port} {fields : List Byte}

/-- R87, R88, R124, R133, R138: the first check of a holder's command that fails. -/
theorem State.holderRefusal_noSession (h : ¬ s.InSession p) : s.holderRefusal p fields = some .noSession := by
  rw [State.inSession_iff] at h
  simp [State.holderRefusal, State.noSession, State.hasSession, h]

theorem State.holderRefusal_badField (h : s.InSession p) (hf : fields ≠ []) :
    s.holderRefusal p fields = some .badField := by
  rw [State.inSession_iff] at h
  simp [State.holderRefusal, State.noSession, State.hasSession, h, hf]

theorem State.holderRefusal_notHolder (h : s.InSession p) (hf : fields = []) (hh : s.prof.holder ≠ some p) :
    s.holderRefusal p fields = some .notHolder := by
  rw [State.inSession_iff] at h
  simp [State.holderRefusal, State.noSession, State.hasSession, State.holds, h, hf, hh]

/-- R87, R88, R124, R133, R138: the holder in session passes with no fields. -/
theorem State.holderRefusal_none (h : s.InSession p) (hf : fields = []) (hh : s.prof.holder = some p) :
    s.holderRefusal p fields = none := by
  rw [State.inSession_iff] at h
  simp [State.holderRefusal, State.noSession, State.hasSession, State.holds, h, hf, hh]

/-- R151: the renewal changes nothing that the holder's checks look at. -/
theorem State.holderRefusal_taken (s : State) (p : Port) (code tag : Byte) (fields : List Byte) :
    (s.taken p code tag fields).holderRefusal p fields = s.holderRefusal p fields := by
  obtain ⟨-, -, prof, -⟩ := s.taken_part p code tag fields
  simp only [State.holderRefusal, State.noSession, State.hasSession_taken, State.holds, prof]
  rfl

/-- A command that answers what the holder's checks refuse with that refusal makes them in their order. -/
theorem State.holderChecked_of_refusal (h : s.Takes p fields) {i : Instr} {code tag : Byte} {act : State → State}
    (hi : exec i s = .next (s.request p code tag fields act))
    (ha : ∀ (t : State) (r : ResultCode), t.holderRefusal p fields = some r → act t = t.reply p code tag r) :
    s.HolderChecked i p code tag fields := by
  have checked := s.holderRefusal_taken p code tag fields
  have refused (r : ResultCode) (hr : s.holderRefusal p fields = some r) : s.Replies i p code tag r .none :=
    s.replies_of_reply i p code tag fields act r .none h hi (ha _ r (checked.trans hr))
  exact ⟨fun no => refused _ (State.holderRefusal_noSession no),
    fun yes hf => refused _ (State.holderRefusal_badField yes hf),
    fun yes hf hh => refused _ (State.holderRefusal_notHolder yes hf hh)⟩

end

/-! ### A line moved by a command -/

/-- R71: the flag of a changed condition does not look at the link. -/
theorem PortState.lineFlagged_link (q : PortState) (l : Link) :
    PortState.lineFlagged { q with link := l } = { q.lineFlagged with link := l } := by
  unfold PortState.lineFlagged
  dsimp only
  split <;> rfl

theorem PortState.link_lineFlagged (q : PortState) : q.lineFlagged.link = q.link := by
  unfold PortState.lineFlagged
  split <;> rfl

/-- R71, R72: a move that changes the condition. -/
theorem State.moveLine_changed (s : State) (l : LineState) (cause : Cause) (h : l.condition ≠ s.disp.line.condition) :
    s.moveLine l cause =
      { s with disp := { s.disp with line := l, cause := cause }, ports := s.ports.map PortState.lineFlagged } := by
  rcases s.moveLine_cases l cause with ⟨same, -⟩ | ⟨-, e⟩
  · exact absurd same h
  · exact e

/-- R71: a move that keeps the condition. -/
theorem State.moveLine_kept (s : State) (l : LineState) (cause : Cause) (h : l.condition = s.disp.line.condition) :
    s.moveLine l cause = { s with disp := { s.disp with line := l } } := by
  rcases s.moveLine_cases l cause with ⟨-, e⟩ | ⟨changed, -⟩
  · exact e
  · exact absurd h changed

/-- R71: the line, the encoder and the Echo Monitor put in a new condition, with the ports flagged. -/
def State.flagged (s : State) (disp : Dispatcher) (enc : Encoder) (echo : EchoMonitor) : State :=
  { s with disp := disp, enc := enc, echo := echo, ports := s.ports.map PortState.lineFlagged }

theorem State.moveLine_flagged (s : State) (l : LineState) (cause : Cause) (h : l.condition ≠ s.disp.line.condition) :
    s.moveLine l cause = s.flagged { s.disp with line := l, cause := cause } s.enc s.echo :=
  s.moveLine_changed l cause h

theorem State.enterDisabled_flagged (s : State) (cause : Cause) (h : s.disp.line ≠ .disabled) :
    s.enterDisabled cause = s.flagged { s.disp with line := .disabled, phase := none, slot := none, cause := cause }
      { s.enc with activity := .resting } { s.echo with streak := 0 } :=
  s.enterDisabled_eq cause h

section
variable (s : State) (p : Port) (code tag : Byte) (fields : List Byte)

/-- R151: a taken request's command finds the line as it was. -/
theorem State.taken_line : (s.taken p code tag fields).disp = s.disp ∧ (s.taken p code tag fields).enc = s.enc ∧
    (s.taken p code tag fields).echo = s.echo := by
  rw [State.taken_eq]
  exact ⟨rfl, rfl, rfl⟩

/-- R71, R151: what of the part, and of the other ports, is as it was where the command of a taken request has changed
the line condition. -/
theorem State.flagged_taken (disp : Dispatcher) (enc : Encoder) (echo : EchoMonitor) :
    (∀ ps, s.SamePart { (s.taken p code tag fields).flagged disp enc echo with
      disp := s.disp, enc := s.enc, echo := s.echo, ports := ps }) ∧
    ∀ q, q ≠ p → ((s.taken p code tag fields).flagged disp enc echo).port q = (s.port q).lineFlagged := by
  rw [State.taken_eq]
  refine ⟨fun ps => ⟨rfl, rfl, rfl, fun _ => rfl, fun _ => rfl, rfl, rfl, rfl, rfl, rfl, rfl⟩, fun q hq => ?_⟩
  rw [State.port, State.flagged, Ports.get_map]
  exact congrArg PortState.lineFlagged ((State.port_modPort s p q _).trans (if_neg hq))

/-- R71, R151: the command's own port. -/
theorem State.flagged_taken_own (h : s.Takes p fields) (disp : Dispatcher) (enc : Encoder) (echo : EchoMonitor)
    (es : List Entry) : ((((s.taken p code tag fields).flagged disp enc echo).port p).withEntries es).Agrees
      ((s.port p).renewed.lineFlagged.withEntries es) := by
  have port : ((s.taken p code tag fields).flagged disp enc echo).port p =
      { (s.port p).renewed.lineFlagged with link := s.sentLink p code tag fields } := by
    rw [State.taken_eq, State.port, State.flagged, Ports.get_map, ← PortState.lineFlagged_link]
    exact congrArg PortState.lineFlagged ((State.port_modPort s p p _).trans (if_pos rfl))
  rw [port]
  exact s.agrees_sentLink p code tag fields h (r := (s.port p).renewed.lineFlagged.withEntries es)
    (PortState.link_lineFlagged _)

/-- R71, R166: a taken request whose command changes the line condition and places its REPLY. -/
theorem State.flagged_taken_reply (h : s.Takes p fields) (disp : Dispatcher) (enc : Encoder) (echo : EchoMonitor)
    (r : ResultCode) (data : ReplyData) {t : State}
    (ht : t = ((s.taken p code tag fields).flagged disp enc echo).reply p code tag r data) :
    t.disp = disp ∧ t.enc = enc ∧ t.echo = echo ∧
    s.SamePart { t with disp := s.disp, enc := s.enc, echo := s.echo } ∧
    (∀ q, q ≠ p → t.port q = (s.port q).lineFlagged) ∧
    (t.port p).Agrees ((s.port p).renewed.lineFlagged.withEntries [.reply code tag r data]) := by
  subst ht
  obtain ⟨part, others⟩ := s.flagged_taken p code tag fields disp enc echo
  refine ⟨rfl, rfl, rfl, part _, fun q hq => ?_, ?_⟩
  · rw [State.port_reply, if_neg hq, others q hq]
  · rw [State.port_reply, if_pos rfl]
    exact s.flagged_taken_own p code tag fields h disp enc echo _

end

/-! ### LINE_ENABLE -/

/-- R87: a LINE_ENABLE that passes its checks. -/
theorem State.doLineEnable_passes {s : State} {p : Port} {fields : List Byte} (tag : Byte)
    (passes : s.holderRefusal p fields = none) (line : s.disp.line ≠ .fault) : State.doLineEnable p tag fields s =
      s.enableLine.reply p Config.codeLineEnable tag .ok (.lineState s.enableLine.disp.line) := by
  simp only [State.doLineEnable, passes, if_neg line]

/-- Settles O28: the holder's checks, and then a case for each line state. -/
theorem lineEnableActs : Obligations.LineEnableActs := by
  intro p tag fields s h
  refine ⟨State.holderChecked_of_refusal h (act := State.doLineEnable p tag fields) rfl fun t r hr => ?_,
    fun session hf holder => ?_⟩
  · simp only [State.doLineEnable, hr]
    rfl
  have passes := (s.holderRefusal_taken p Config.codeLineEnable tag fields).trans
    (State.holderRefusal_none session hf holder)
  obtain ⟨disp, enc, echo⟩ := s.taken_line p Config.codeLineEnable tag fields
  have acts (going : s.disp.line ≠ .fault) := (s.request_taken p Config.codeLineEnable tag fields _ h).trans
    (State.doLineEnable_passes tag passes (disp ▸ going))
  refine ⟨fun fault => ?_, fun enabled => ?_, fun draining => ?_, fun disabled => ?_⟩
  · refine s.replies_of_reply _ p Config.codeLineEnable tag fields (State.doLineEnable p tag fields) _ _ h rfl ?_
    simp only [State.doLineEnable, passes, disp, fault, if_true]
  · have stays : (s.taken p Config.codeLineEnable tag fields).enableLine =
        s.taken p Config.codeLineEnable tag fields := by
      rcases enabled with e | e <;> simp only [State.enableLine, disp, e]
    refine s.replies_of_reply _ p Config.codeLineEnable tag fields (State.doLineEnable p tag fields) _ _ h rfl ?_
    rw [State.doLineEnable_passes tag passes (by rcases enabled with e | e <;> simp [disp, e]), stays, disp]
  · have moved : (s.taken p Config.codeLineEnable tag fields).enableLine =
        (s.taken p Config.codeLineEnable tag fields).flagged
          { s.disp with line := .busy, cause := .hostEnable } s.enc s.echo := by
      simp only [State.enableLine, disp, draining]
      rw [State.moveLine_flagged _ _ _ (by rw [disp, draining]; decide), disp, enc, echo]
    obtain ⟨line, sent, heard, part, others, own⟩ :=
      s.flagged_taken_reply p Config.codeLineEnable tag fields h _ _ _ _ _ (congrArg (fun u : State =>
        u.reply p Config.codeLineEnable tag .ok (.lineState u.disp.line)) moved)
    refine ⟨_, congrArg Host.Outcome.next (acts (by simp [draining])), line, ?_, others, own⟩
    rw [← sent, ← heard] at part
    exact part
  · have moved : (s.taken p Config.codeLineEnable tag fields).moveLine .idle .hostEnable =
        (s.taken p Config.codeLineEnable tag fields).flagged { s.disp with line := .idle, cause := .hostEnable } s.enc
          s.echo := by
      rw [State.moveLine_flagged _ _ _ (by rw [disp, disabled]; decide), disp, enc, echo]
    obtain ⟨part, others⟩ := s.flagged_taken p Config.codeLineEnable tag fields
      { s.disp with line := .idle, cause := .hostEnable } s.enc s.echo
    have own := s.flagged_taken_own p Config.codeLineEnable tag fields h
      { s.disp with line := .idle, cause := .hostEnable } s.enc s.echo []
    rw [PortState.withEntries_nil, PortState.withEntries_nil] at own
    refine ⟨_, congrArg Host.Outcome.next ((acts (by simp [disabled])).trans ?_), rfl, part _, others, own⟩
    simp only [State.enableLine, disp, disabled, moved]
    rfl

/-! ### LINE_DISABLE -/

/-- R88: a LINE_DISABLE that passes its checks. -/
theorem State.doLineDisable_passes {s : State} {p : Port} {fields : List Byte} (tag : Byte)
    (passes : s.holderRefusal p fields = none) : State.doLineDisable p tag fields s =
      s.disableLine.reply p Config.codeLineDisable tag .ok (.lineState s.disableLine.disp.line) := by
  simp only [State.doLineDisable, passes]

/-- Settles O29: the holder's checks, and then a case for each line state. -/
theorem lineDisableActs : Obligations.LineDisableActs := by
  intro p tag fields s h
  refine ⟨State.holderChecked_of_refusal h (act := State.doLineDisable p tag fields) rfl fun t r hr => ?_,
    fun session hf holder => ?_⟩
  · simp only [State.doLineDisable, hr]
    rfl
  have passes := (s.holderRefusal_taken p Config.codeLineDisable tag fields).trans
    (State.holderRefusal_none session hf holder)
  obtain ⟨disp, enc, echo⟩ := s.taken_line p Config.codeLineDisable tag fields
  have acts := (s.request_taken p Config.codeLineDisable tag fields _ h).trans (State.doLineDisable_passes tag passes)
  refine ⟨fun off => ?_, fun busy => ?_, fun free => ?_⟩
  · have stays : (s.taken p Config.codeLineDisable tag fields).disableLine =
        s.taken p Config.codeLineDisable tag fields := by
      rcases off with e | e <;> simp only [State.disableLine, disp, e]
    refine s.replies_of_reply _ p Config.codeLineDisable tag fields (State.doLineDisable p tag fields) _ _ h rfl ?_
    rw [State.doLineDisable_passes tag passes, stays, disp]
  · have moved : (s.taken p Config.codeLineDisable tag fields).disableLine =
        (s.taken p Config.codeLineDisable tag fields).flagged
          { s.disp with line := .draining, cause := .hostDisable } s.enc s.echo := by
      simp only [State.disableLine, disp, busy]
      rw [State.moveLine_flagged _ _ _ (by rw [disp, busy]; decide), disp, enc, echo]
    obtain ⟨line, sent, heard, part, others, own⟩ :=
      s.flagged_taken_reply p Config.codeLineDisable tag fields h _ _ _ _ _ (congrArg (fun u : State =>
        u.reply p Config.codeLineDisable tag .ok (.lineState u.disp.line)) moved)
    refine ⟨_, congrArg Host.Outcome.next acts, line, ?_, others, own⟩
    rw [← sent, ← heard] at part
    exact part
  · have moved : (s.taken p Config.codeLineDisable tag fields).disableLine =
        (s.taken p Config.codeLineDisable tag fields).flagged
          { s.disp with line := .disabled, phase := none, slot := none, cause := .hostDisable }
          { s.enc with activity := .resting } { s.echo with streak := 0 } := by
      have enters : (s.taken p Config.codeLineDisable tag fields).disableLine =
          (s.taken p Config.codeLineDisable tag fields).enterDisabled .hostDisable := by
        rcases free with e | e <;> simp only [State.disableLine, disp, e]
      rw [enters, State.enterDisabled_flagged _ _ (by rcases free with e | e <;> simp [disp, e]), disp, enc, echo]
    obtain ⟨line, sent, heard, part, others, own⟩ :=
      s.flagged_taken_reply p Config.codeLineDisable tag fields h _ _ _ _ _ (congrArg (fun u : State =>
        u.reply p Config.codeLineDisable tag .ok (.lineState u.disp.line)) moved)
    exact ⟨_, congrArg Host.Outcome.next acts, line, sent, heard, part, others, own⟩

/-! ### QUERY_LINE -/

/-- R93: the values of the report, of the line, the frame on it, its guard and the first frame of the list. -/
theorem State.lineReport_eq {s : State} {owner : Option Port} {guardEnd next : Option Time}
    (slot : ∀ d, s.disp.slot = some d → owner = (s.desc d).owner) (noSlot : s.disp.slot = none → owner = none)
    (guard : s.disp.phase = some .guard → guardEnd = some s.disp.guardEnd)
    (noGuard : s.disp.phase ≠ some .guard → guardEnd = none)
    (first : ∀ d r, s.sched.timed = d :: r → next = (s.desc d).start) (noFirst : s.sched.timed = [] → next = none) :
    s.lineReport = .lineReport s.disp.line s.disp.phase s.disp.cause s.echo.streak owner guardEnd next := by
  have howner : (s.disp.slot.bind fun d => (s.desc d).owner) = owner := by
    cases hs : s.disp.slot with
    | none => exact (noSlot hs).symm
    | some d => exact (slot d hs).symm
  have hguard : (if s.disp.phase = some .guard then some s.disp.guardEnd else none) = guardEnd := by
    split
    · next hp => exact (guard hp).symm
    · next hp => exact (noGuard hp).symm
  have hnext : s.nextListed = next := by
    rw [State.nextListed]
    cases ht : s.sched.timed with
    | nil => exact (noFirst ht).symm
    | cons d r => exact (first d r ht).symm
  rw [State.lineReport, howner, hguard, hnext]

/-- R93: a taken QUERY_LINE finds the line as it was. -/
theorem State.lineReport_taken (s : State) (p : Port) (code tag : Byte) (fields : List Byte) :
    (s.taken p code tag fields).lineReport = s.lineReport := by
  rw [State.taken_eq]
  rfl

/-- Settles O30: the one check, and the report with the asking port's flag cleared. -/
theorem queryLineAnswers : Obligations.QueryLineAnswers := by
  intro p tag fields s h
  refine ⟨fun hf => ?_, fun hf owner guardEnd next slot noSlot guard noGuard first noFirst => ?_⟩
  · exact s.replies_of_reply _ p Config.codeQueryLine tag fields _ _ _ h rfl (by rw [State.doQueryLine, if_pos hf])
  · refine s.serves_of_modPort (.queryLine p tag fields) p Config.codeQueryLine tag fields
      (State.doQueryLine p tag fields)
      (fun q => { q with queue := { q.queue with lineChanged := false } }.withEntries [.reply 0x42 tag .ok
        (.lineReport s.disp.line s.disp.phase s.disp.cause s.echo.streak owner guardEnd next)])
      h rfl ?_ (fun _ _ => rfl) rfl
    rw [State.doQueryLine, if_neg (not_not_intro hf), State.lineReport_taken,
      State.lineReport_eq slot noSlot guard noGuard first noFirst]
    exact State.modPort_modPort _ p _ _

end Sys2Proof.Machine
end

section
/-! Start decisions: the frame that starts on time or late, the ASAP walk, the end of the guard and frames that expire
(O23, O25, O26, O27, O33). -/

namespace Sys2Proof.Machine

/-! ### Quiet checks -/

/-- R115, R116: the first quiet check in Safety's terms. -/
theorem State.quietFirst_iff (s : State) : s.quietFirst = true ↔ s.Quiet s.prof.active.quiet := by
  simp [State.quietFirst, State.Quiet]

/-- R115, R117: the later quiet check in Safety's terms. -/
theorem State.quietLater_iff (s : State) (gap : Nat) :
    s.quietLater gap = true ↔ s.Quiet (min s.prof.active.quiet gap) := by
  simp [State.quietLater, State.Quiet]

/-- R82, R83: an attempt by its quiet check. -/
theorem State.attempt_quiet {s : State} (h : s.Quiet s.prof.active.quiet) (d : DescIdx) (l : List DescIdx) :
    s.attempt d l = (s.bump l).goOnLine d := by
  rw [State.attempt, if_pos (s.quietFirst_iff.2 h)]

theorem State.attempt_not_quiet {s : State} (h : ¬ s.Quiet s.prof.active.quiet) (d : DescIdx) (l : List DescIdx) :
    s.attempt d l = s.faultEntry .blocked := by
  rw [State.attempt, if_neg (mt s.quietFirst_iff.1 h)]

/-! ### A frame that goes on the line -/

/-- R110: a strobe reaches its owner's PSTRB, where it is asked for. -/
theorem State.port_strobeFor (s : State) (owner : Option Port) (asked : Bool) (q : Port) :
    (s.strobeFor owner asked).port q = (s.port q).strobed (decide (owner = some q) && asked) := by
  cases owner with
  | none => simp [State.strobeFor, PortState.strobed]
  | some p =>
    cases asked with
    | false => simp [State.strobeFor, PortState.strobed]
    | true =>
      by_cases hq : q = p
      · simp [State.strobeFor, PortState.strobed, hq]
      · simp [State.strobeFor, PortState.strobed, hq, Ne.symm hq]

/-- R82 steps 2 to 5: the part as a frame goes on an IDLE line, its strobe aside. -/
def State.started (s : State) (d : DescIdx) : State :=
  { (s.keepScheduled fun e => decide (e ≠ d)).setDesc d
      { s.desc d with state := .onLine, actualStart := some s.now, repsSent := 0, mismatches := 0 } with
    disp := { s.disp with
      line := .busy, phase := some (s.desc d).firstPhase, slot := some d
      plannedEnd := plus s.now ((s.desc d).reservation s.prof.active) }
    enc := s.enc.begun 1
    echo := { s.echo with abortPending := false, counted := false } }

/-- R82: a move from IDLE to BUSY keeps the line condition. -/
theorem State.goOnLine_of_idle {s : State} (idle : s.disp.line = .idle) (d : DescIdx) :
    s.goOnLine d = (s.started d).strobeFor (s.desc d).owner (s.desc d).strobeStart := by
  unfold State.goOnLine
  dsimp only
  rw [State.moveLine_kept _ _ _ (by simp [idle, LineState.condition])]
  rfl

/-! ### Which frame a decision attempts -/

/-- R3: of two times one is before the other at most. -/
theorem before_asymm {a b : Time} (h : before a b = true) : before b a = false := by
  have : (a - b).toNat = (2 ^ 32 - (b - a).toNat) % 2 ^ 32 := by
    simp only [BitVec.toNat_sub]
    omega
  rw [before, decide_eq_true_iff] at h
  rw [before, decide_eq_false_iff_not]
  unfold distance at *
  omega

theorem ne_of_before {a b : Time} (h : before a b = true) : a ≠ b := by
  rintro rfl
  simp [before_asymm h] at h

section
variable {s : State} {d : DescIdx} {rest : List DescIdx} {a : Time}

/-- R77, R78: a decision on an IDLE line looks at the list first. -/
theorem State.startDecision_of_idle (idle : s.disp.line = .idle) :
    s.startDecision = State.decideLoop (s.sched.timed.length + 1) s := if_pos idle

/-- R78 step 1: the first listed frame, on time. -/
theorem State.startDecision_onTime (idle : s.disp.line = .idle) (timed : s.sched.timed = d :: rest)
    (start : (s.desc d).start = some s.clock.time) : s.startDecision = s.attempt d [] := by
  rw [State.startDecision_of_idle idle]
  simp only [State.decideLoop, timed, start]
  exact if_pos rfl

/-- R78 step 1, R79: the first listed frame, late. -/
theorem State.startDecision_late (idle : s.disp.line = .idle) (timed : s.sched.timed = d :: rest)
    (start : (s.desc d).start = some a) (late : before a s.clock.time = true) : s.startDecision =
      if (s.desc d).inWindow a s.now && s.fitsBefore (s.desc d) (rest.head?.bind fun e => (s.desc e).start) then
        s.attempt d []
      else State.decideLoop s.sched.timed.length
        (s.retireNow d (.expired (s.lateDetail (s.desc d) a)) s.clock.time none) := by
  rw [State.startDecision_of_idle idle]
  have notNow : a ≠ s.now := ne_of_before late
  have late : before a s.now = true := late
  simp only [State.decideLoop, timed, start, if_neg notNow, if_pos late]
  rfl

/-- R78 steps 2 and 3: with no listed start due the ASAP walk follows. -/
theorem State.startDecision_asap (idle : s.disp.line = .idle)
    (ahead : ∀ a, s.nextListed = some a → before s.clock.time a = true) : s.startDecision = s.asapFirstFit := by
  rw [State.startDecision_of_idle idle]
  simp only [State.decideLoop]
  split
  · rfl
  · next d rest timed =>
    split
    · rfl
    · next a start =>
      have future := ahead a (by rw [State.nextListed, timed]; exact start)
      have notNow : a ≠ s.now := (ne_of_before future).symm
      have notLate : ¬ before a s.now = true := Bool.eq_false_iff.1 (before_asymm future)
      rw [if_neg notNow, if_neg notLate]

end

/-! ### On time -/

/-- R77: the start of the first listed frame that is now is due. -/
theorem execTimedStartReached_now {s : State} {d : DescIdx} {rest : List DescIdx} (running : s.inReset = false)
    (timed : s.sched.timed = d :: rest) (start : (s.desc d).start = some s.clock.time) :
    exec .timedStartReached s = .next s.startDecision := by
  have due : s.startDue = true := by simp [State.startDue, running, State.nextListed, timed, start, reached, State.now]
  exact if_pos due

/-- Settles O25: the head of the list is attempted, and its quiet check passes or does not. -/
theorem timedFrameStarts : Obligations.TimedFrameStarts := by
  intro s d rest running idle timed start
  rw [execTimedStartReached_now running timed start, State.startDecision_onTime idle timed start]
  refine ⟨fun loud => by rw [State.attempt_not_quiet loud], fun quiet => ?_⟩
  obtain ⟨ps, hps⟩ := (s.started d).strobeFor_ports (s.desc d).owner (s.desc d).strobeStart
  have whole : s.goOnLine d = { s.started d with ports := ps } := (State.goOnLine_of_idle idle d).trans hps
  refine ⟨{ s.started d with ports := ps }, congrArg _ ((State.attempt_quiet quiet d []).trans whole),
    (State.desc_setDesc _ d d _).trans (if_pos rfl), fun e he => (State.desc_setDesc _ d e _).trans (if_neg he),
    fun _ => rfl, rfl, rfl, rfl, rfl, rfl, rfl,
    ⟨rfl, rfl, rfl, fun _ => rfl, fun _ => rfl, rfl, rfl, rfl, rfl, rfl, rfl⟩, fun q => ?_⟩
  rw [← hps, State.port_strobeFor]
  rfl

/-! ### Late -/

/-- R79: whether a frame that is late is clear of the start that follows it. -/
theorem State.fitsBefore_iff {s : State} {x : Desc} {rest : List DescIdx} :
    s.fitsBefore x (rest.head?.bind fun e => (s.desc e).start) = true ↔
      ∀ e b, rest.head? = some e → (s.desc e).start = some b →
        before b (plus s.clock.time (x.reservation s.prof.active)) = false := by
  cases rest with
  | nil => simp [State.fitsBefore]
  | cons e rest =>
    have next : (∀ e' b, (e :: rest).head? = some e' → (s.desc e').start = some b →
        before b (plus s.clock.time (x.reservation s.prof.active)) = false) ↔ ∀ b, (s.desc e).start = some b →
        before b (plus s.clock.time (x.reservation s.prof.active)) = false :=
      ⟨fun h b => h e b rfl, fun h e' b he => Option.some.inj he ▸ h b⟩
    rw [next]
    cases hs : (s.desc e).start <;> simp [State.fitsBefore, State.now, hs]

/-- R40: a listed frame that retires leaves the list, which stays sound. -/
theorem State.retireNow_listed {s : State} (h : s.ScheduleSound) {d : DescIdx} (hd : d ∈ s.sched.timed)
    (o : FrameOutcome) (stop : Time) : (s.retireNow d o stop none).ScheduleSound ∧
      (s.retireNow d o stop none).sched.timed.length < s.sched.timed.length := by
  have sound := (s.keepsTable_retire chainFuel d o stop none).1.sched h
  have thinned := (s.thins_retire chainFuel d o stop none).1.timed
  refine ⟨sound, Nat.lt_of_le_of_ne thinned.length_le fun same => ?_⟩
  have listed : d ∈ (s.retireNow d o stop none).sched.timed := by
    have : (s.retireNow d o stop none).sched.timed = s.sched.timed := thinned.eq_of_length same
    rwa [this]
  have freed := s.retireNow_desc d o stop none
  have waiting : ((s.retireNow d o stop none).desc d).state = .waiting := ((sound.timed d).1 listed).1
  simp [Desc.live, waiting] at freed

/-- R78: a decision has enough fuel for its list, and more makes no difference. -/
theorem State.decideLoop_fuel {s : State} (h : s.ScheduleSound) {m n : Nat} (hm : s.sched.timed.length < m)
    (hn : s.sched.timed.length < n) : State.decideLoop m s = State.decideLoop n s := by
  induction m generalizing s n with
  | zero => exact absurd hm (Nat.not_lt_zero _)
  | succ m ih =>
    obtain ⟨n, rfl⟩ := Nat.exists_eq_succ_of_ne_zero (Nat.ne_zero_of_lt hn)
    simp only [State.decideLoop]
    split
    · rfl
    · next d rest timed =>
      split
      · rfl
      · next a _ =>
        obtain ⟨sound, shorter⟩ := State.retireNow_listed h (timed ▸ List.mem_cons_self)
          (.expired (s.lateDetail (s.desc d) a)) s.now
        rw [ih (n := n) sound (by omega) (by omega)]

/-- R79: the decision that goes on behind a late frame that has retired is a decision of its own. -/
theorem State.decideLoop_retired {s : State} (h : s.ScheduleSound) (idle : s.disp.line = .idle) {d : DescIdx}
    (hd : d ∈ s.sched.timed) (o : FrameOutcome) (stop : Time) :
    State.decideLoop s.sched.timed.length (s.retireNow d o stop none) = (s.retireNow d o stop none).startDecision := by
  obtain ⟨sound, shorter⟩ := State.retireNow_listed h hd o stop
  rw [State.startDecision_of_idle ((s.keepsLine_retireNow d o stop none).line.trans idle)]
  exact State.decideLoop_fuel sound shorter (Nat.lt_succ_self _)

/-- Settles O26: the late head of the list is attempted, or retires with what kept it from starting. -/
theorem lateFrameStartsOrExpires : Obligations.LateFrameStartsOrExpires := by
  intro s d rest a sound idle timed start late inSlip stop clear
  have window : (s.desc d).inWindow a s.now = true ↔ inSlip := by simp [Desc.inWindow, State.now, inSlip]
  have fits : s.fitsBefore (s.desc d) (rest.head?.bind fun e => (s.desc e).start) = true ↔ clear := State.fitsBefore_iff
  have decision := State.startDecision_late idle timed start late
  have expires := State.decideLoop_retired sound idle (d := d) (timed ▸ List.mem_cons_self)
    (.expired (s.lateDetail (s.desc d) a)) s.clock.time
  have attempted (h : inSlip) (k : clear) : s.startDecision = s.attempt d [] := by
    rw [decision, window.2 h, fits.2 k]
    rfl
  refine ⟨fun h k quiet => ?_, fun h k loud => ?_, fun h k => ?_, fun h => ?_⟩
  · rw [attempted h k, State.attempt_quiet quiet]
    obtain ⟨desc, -, line, -, slot, -⟩ := s.goOnLine_spec d
    have record := (desc d).trans (if_pos rfl)
    exact ⟨congrArg Desc.state record, congrArg Desc.actualStart record, slot, line, s.goOnLine_plannedEnd d⟩
  · rw [attempted h k, State.attempt_not_quiet loud]
  · have detail : s.lateDetail (s.desc d) a = .wouldOverlap := if_pos (window.2 h)
    rw [detail] at decision expires
    rw [decision, if_neg (by simp [mt fits.1 k]), expires]
  · have detail : s.lateDetail (s.desc d) a = .window := if_neg (mt window.1 h)
    rw [detail] at decision expires
    rw [decision, if_neg (by simp [mt window.1 h]), expires]

/-! ### The ASAP walk -/

/-- R80: whether an eligible frame fits before the next listed start. -/
theorem State.fits_iff {s : State} {x : Desc} : s.fits x = true ↔ ∀ a, s.nextListed = some a →
    before a (plus s.clock.time (x.reservation s.prof.active)) = false := by
  cases h : s.nextListed <;> simp [State.fits, State.now, h]

/-- R80, R81: the walk counts the eligible frames that do not fit and do not block, and passes the others. -/
theorem State.asapWalk_passed {s : State} {l : List DescIdx}
    (passed : ∀ e ∈ l, (s.desc e).eligible = true → s.fits (s.desc e) = false ∧ (s.desc e).bypass < 8)
    (r counted : List DescIdx) :
    s.asapWalk (l ++ r) counted = s.asapWalk r (counted ++ l.filter fun e => (s.desc e).eligible) := by
  induction l generalizing counted with
  | nil => simp
  | cons e l ih =>
    have ih := ih fun x hx => passed x (List.mem_cons_of_mem e hx)
    cases el : (s.desc e).eligible with
    | false => simp [State.asapWalk, el, ih]
    | true =>
      obtain ⟨fits, below⟩ := passed e List.mem_cons_self el
      simp [State.asapWalk, el, fits, below, Config.bypassLimit, ih]

/-- R80, R81: the walk at an eligible frame: it fits, or is counted, or blocks. -/
theorem State.asapWalk_eligible {s : State} {d : DescIdx} (el : (s.desc d).eligible = true) (r counted : List DescIdx) :
    s.asapWalk (d :: r) counted = if s.fits (s.desc d) then some (d, counted)
      else if (s.desc d).bypass < 8 then s.asapWalk r (counted ++ [d]) else none := by
  simp only [State.asapWalk, el, Bool.not_true, Bool.false_eq_true, if_false]
  rfl

/-- R81: the bypass counts of the frames counted rise by 1. -/
theorem State.desc_bump (s : State) {l : List DescIdx} (once : l.Nodup) (e : DescIdx) : (s.bump l).desc e =
    if e ∈ l then { s.desc e with bypass := (s.desc e).bypass + 1 } else s.desc e := by
  unfold State.bump
  induction l generalizing s with
  | nil => simp
  | cons d l ih =>
    obtain ⟨hd, once⟩ := List.nodup_cons.1 once
    rw [List.foldl_cons, ih _ once, State.desc_modDesc]
    by_cases he : e = d
    · simp [he, hd]
    · simp [he]

/-- R82: a frame of the ASAP order started behind the frames counted. -/
theorem State.goOnLine_bumped (s : State) {d : DescIdx} {l : List DescIdx} (once : l.Nodup) (hd : d ∉ l) :
    (∀ e, ((s.bump l).goOnLine d).desc e =
      if e = d then { s.desc d with state := .onLine, actualStart := some s.clock.time, repsSent := 0, mismatches := 0 }
      else if e ∈ l then { s.desc e with bypass := (s.desc e).bypass + 1 } else s.desc e) ∧
    ((s.bump l).goOnLine d).disp.slot = some d ∧ ((s.bump l).goOnLine d).disp.line = .busy ∧
    ((s.bump l).goOnLine d).disp.plannedEnd = plus s.clock.time ((s.desc d).reservation s.prof.active) := by
  obtain ⟨desc, -, line, -, slot, -⟩ := (s.bump l).goOnLine_spec d
  have base := s.keepsBase_bump l
  have record : (s.bump l).desc d = s.desc d := by rw [s.desc_bump once, if_neg hd]
  have now : (s.bump l).now = s.clock.time := by rw [State.now, base.clock]
  refine ⟨fun e => ?_, slot, line, ?_⟩
  · rw [desc, record, now, s.desc_bump once]
  · rw [State.goOnLine_plannedEnd, record, now, base.prof]

/-- Settles O27: the walk passes the frames before the first that fits or blocks, and counts the eligible ones. -/
theorem asapFirstFitWalk : Obligations.AsapFirstFitWalk := by
  intro s idle once ahead fits passed
  have fits_iff (e : DescIdx) : s.fits (s.desc e) = true ↔ fits e := State.fits_iff
  have passes {e : DescIdx} (h : passed e) (el : (s.desc e).eligible = true) :
      s.fits (s.desc e) = false ∧ (s.desc e).bypass < 8 :=
    ⟨Bool.eq_false_iff.2 (mt (fits_iff e).1 (h el).1), (h el).2⟩
  rw [State.startDecision_asap idle ahead, State.asapFirstFit]
  refine ⟨fun all => ?_, fun l d r order before_ el => ?_⟩
  · have walk := State.asapWalk_passed (fun e he => passes (all e he)) [] []
    rw [List.append_nil] at walk
    rw [walk]
    rfl
  have walk := State.asapWalk_passed (fun e he => passes (before_ e he)) (d :: r) []
  rw [order] at once ⊢
  rw [walk, List.nil_append, State.asapWalk_eligible el]
  refine ⟨fun tight blocks => ?_, fun fit loud => ?_, fun fit quiet => ?_⟩
  · rw [if_neg (mt (fits_iff d).1 tight), if_neg (Nat.not_lt.2 blocks)]
  · rw [if_pos ((fits_iff d).2 fit)]
    exact State.attempt_not_quiet loud d _
  · rw [if_pos ((fits_iff d).2 fit)]
    dsimp only
    rw [State.attempt_quiet quiet]
    obtain ⟨onceL, -, apart⟩ := List.nodup_append.1 once
    have hd : d ∉ l := fun h => apart d h d List.mem_cons_self rfl
    obtain ⟨desc, slot, line, plannedEnd⟩ := s.goOnLine_bumped
      (onceL.filter fun e => (s.desc e).eligible) (mt List.mem_of_mem_filter hd)
    refine ⟨(desc d).trans (if_pos rfl), slot, line, plannedEnd, fun e he hel => ?_, fun e he out => ?_⟩
    · have hne : e ≠ d := fun h => hd (h ▸ he)
      rw [desc, if_neg hne, if_pos (List.mem_filter.2 ⟨he, hel⟩)]
    · rw [desc, if_neg he, if_neg (mt List.mem_filter.1 out)]

/-! ### The end of the guard -/

/-- Settles O33: the guard's end by what the line is in. -/
theorem guardEnds : Obligations.GuardEnds := by
  intro s running phase end_
  have ended : s.guardEnded = true := by
    simp only [State.guardEnded, running, phase, State.now, end_]
    rfl
  refine ⟨fun busy => ?_, fun draining => ?_⟩
  · show execGuardEnd s = _
    simp only [execGuardEnd, ended, if_true, busy]
    rw [State.moveLine_kept _ _ _ (by simp [LineState.condition])]
  · show execGuardEnd s = _
    simp only [execGuardEnd, ended, if_true, draining]
    rw [State.enterDisabled_eq s .drainEnd (by simp [draining])]

/-! ### Frames that expire -/

/-- R63, R84, R85: a frame off the line that expires, with its chain. -/
theorem State.expire_chain {s : State} {p : Port} {d : DescIdx} {cs : List DescIdx} (chain : s.ChainFrom p d cs) :
    s.Retired (s.retireNow d (.expired .window) s.clock.time none) (d :: cs) ∧
    s.SameOthers (s.retireNow d (.expired .window) s.clock.time none) p ∧
    (s.retireNow d (.expired .window) s.clock.time none).port p = ((s.port p).withEntries
      (s.chainEntries d cs (.expired .window) .chainBroken s.clock.time)).afterRetirements
        (s.liveCount p - (cs.length + 1)) := by
  obtain ⟨retired, others, count, port⟩ :=
    State.retireNow_chain chain (o := .expired .window) rfl s.clock.time none
  have left := Nat.eq_sub_of_add_eq count
  rw [if_neg nofun, left] at port
  exact ⟨retired, others, port⟩

/-- Settles O23: a window that has passed and an expiry that is reached are due, and the chain retires whole. -/
theorem waitingFramesExpire : Obligations.WaitingFramesExpire := by
  intro s p d cs running chain waiting goes
  have gone : goes (s.retireNow d (.expired .window) s.clock.time none) := State.expire_chain chain
  refine ⟨fun a timed start past => ?_, fun e queued expiry due => ?_⟩
  · have passed : s.windowPassed d = true := by
      simp [State.windowPassed, running, waiting, timed, start, Desc.inWindow, State.now, past]
    exact ⟨_, if_pos passed, gone, gone.1.noDecision⟩
  · have passed : s.asapExpiryDue d = true := by
      simp [State.asapExpiryDue, running, waiting, queued, expiry, State.now, due]
    exact ⟨_, if_pos passed, gone⟩

end Sys2Proof.Machine
end

section
/-! The frame on the line goes on, ends or is stopped (O31, O32). -/

namespace Sys2Proof.Machine

/-! ### The spans of a repetition -/

section
variable {s : State} {d : DescIdx}

theorem execPreambleEnd_of_ended (running : s.inReset = false) (slot : s.disp.slot = some d)
    (phase : s.disp.phase = some .preamble) (sending : s.enc.activity = .sending)
    (passed : (s.desc d).preBits ≤ s.enc.bitPos) :
    exec .preambleEnd s = .next { s with disp := { s.disp with phase := some .body } } := by
  have ended : s.preambleEnded = some d := by simp [State.preambleEnded, slot, running, phase, sending, passed]
  show execPreambleEnd s = _
  rw [execPreambleEnd, ended]

theorem execBodyEnd_of_ended (running : s.inReset = false) (slot : s.disp.slot = some d)
    (phase : s.disp.phase = some .body) (sending : s.enc.activity = .sending)
    (produced : s.prof.active.hbt ≤ s.enc.ticks) (last : s.enc.bitPos + 1 = (s.desc d).preBits + (s.desc d).bodyBits)
    (second : s.enc.half = .second) (quiet : s.echo.abortPending = false) :
    exec .bodyEnd s = .next (s.endBody d) := by
  have ended : s.bodyEnded = some d := by
    simp [State.bodyEnded, slot, running, phase, State.halfEnded, sending, produced, Encoder.lastOfBody, last, second,
      quiet]
  show execBodyEnd s = _
  rw [execBodyEnd, ended]

theorem execGapEnd_of_ended (running : s.inReset = false) (slot : s.disp.slot = some d)
    (phase : s.disp.phase = some .gap) (gap : s.enc.activity = .gap) (passed : (s.desc d).gap ≤ s.enc.ticks) :
    exec .gapEnd s = .next (if (s.desc d).truncate then s.frameEnd d else s.laterRepetition d) := by
  have ended : s.gapEnded = some d := by simp [State.gapEnded, slot, running, phase, gap, passed]
  show execGapEnd s = _
  rw [execGapEnd, ended]
  dsimp only
  split <;> rfl

/-- R35, R74: d with so many repetitions sent. -/
def State.counted (s : State) (d : DescIdx) (n : Nat) : State := s.modDesc d fun x => { x with repsSent := n }

theorem State.desc_counted (s : State) (d : DescIdx) (n : Nat) (e : DescIdx) :
    (s.counted d n).desc e = if e = d then { s.desc d with repsSent := n } else s.desc e :=
  s.desc_modDesc d e _

theorem State.counted_self (s : State) (d : DescIdx) : s.counted d (s.desc d).repsSent = s := by
  have descs : s.store.descs.set d.val (s.desc d) d.isLt = s.store.descs := Vector.set_getElem_self _
  show { s with store := { s.store with descs := s.store.descs.set d.val (s.desc d) d.isLt } } = s
  rw [descs]

/-- R74: what follows a body. -/
theorem State.endBody_eq (s : State) (d : DescIdx) : s.endBody d =
    if (s.desc d).truncate = false ∧ (s.desc d).repsSent + 1 < (s.desc d).reps then
      if (s.desc d).gap = 0 then (s.counted d ((s.desc d).repsSent + 1)).laterRepetition d
      else { s.counted d ((s.desc d).repsSent + 1) with
        disp := { s.disp with phase := some .gap }, enc := { s.enc with activity := .gap, ticks := 0 } }
    else (s.counted d ((s.desc d).repsSent + 1)).frameEnd d := by
  have record := (s.desc_counted d ((s.desc d).repsSent + 1) d).trans (if_pos rfl)
  have sent : (s.modDesc d fun x => { x with repsSent := x.repsSent + 1 }) = s.counted d ((s.desc d).repsSent + 1) := rfl
  simp only [State.endBody, sent, record, Bool.not_eq_true']
  rfl

/-- R74: with repetitions to come and no truncate mark a gap begins, or at once the next repetition. -/
theorem State.endBody_goesOn (unmarked : (s.desc d).truncate = false)
    (more : (s.desc d).repsSent + 1 < (s.desc d).reps) : s.endBody d =
      if (s.desc d).gap = 0 then (s.counted d ((s.desc d).repsSent + 1)).laterRepetition d
      else { s.counted d ((s.desc d).repsSent + 1) with
        disp := { s.disp with phase := some .gap }, enc := { s.enc with activity := .gap, ticks := 0 } } :=
  (s.endBody_eq d).trans (if_pos ⟨unmarked, more⟩)

/-- R74: with no repetition to come, or marked, the frame ends. -/
theorem State.endBody_ends (last : (s.desc d).truncate = true ∨ (s.desc d).reps ≤ (s.desc d).repsSent + 1) :
    s.endBody d = (s.counted d ((s.desc d).repsSent + 1)).frameEnd d := by
  refine (s.endBody_eq d).trans (if_neg fun ⟨unmarked, more⟩ => ?_)
  rcases last with mark | last
  · exact absurd (unmarked.symm.trans mark) Bool.false_ne_true
  · exact Nat.not_lt.2 last more

/-- R99, R117: the later quiet check passes. -/
theorem State.laterRepetition_quiet (quiet : s.Quiet (min s.prof.active.quiet (s.desc d).gap)) :
    s.laterRepetition d = { s with
      disp := { s.disp with phase := some (s.desc d).firstPhase }
      echo := { s.echo with counted := false }
      enc := s.enc.begun (s.enc.repetition + 1) } :=
  if_pos ((s.quietLater_iff _).2 quiet)

theorem State.laterRepetition_not_quiet (loud : ¬ s.Quiet (min s.prof.active.quiet (s.desc d).gap)) :
    s.laterRepetition d = s.echoAbort d .blocked .blocked :=
  if_neg (mt (s.quietLater_iff _).1 loud)

end

/-! ### Retirements of the frame on the line -/

section
variable {s v : State} {p : Port} {d : DescIdx} {cs ds : List DescIdx} {n : Nat} {disp : Dispatcher} {enc : Encoder}
  {echo : EchoMonitor}

/-- R47: the line and the repetitions sent are not in a chain. -/
theorem State.ChainFrom.counted (h : s.ChainFrom p d cs) (n : Nat) (disp : Dispatcher) (enc : Encoder)
    (echo : EchoMonitor) :
    State.ChainFrom { s.counted d n with disp := disp, enc := enc, echo := echo } p d cs := by
  have desc := s.desc_counted d n
  have read {α : Type} (f : Desc → α) (hf : f { s.desc d with repsSent := n } = f (s.desc d)) (x : DescIdx) :
      f ((s.counted d n).desc x) = f (s.desc x) := by
    rw [desc]
    split
    · next hx => rw [hf, hx]
    · rfl
  exact h.congr (fun x _ own => (read (Desc.ownedBy p) rfl x).trans own)
    (fun x _ => read Desc.successor rfl x) fun x _ => read Desc.state rfl x

/-- R20: neither the line nor the repetitions sent are counted as live. -/
theorem State.liveCount_counted (s : State) (d : DescIdx) (n : Nat) (p : Port) :
    (s.counted d n).liveCount p = s.liveCount p := State.liveCount_congr fun e => by
  rw [State.desc_counted]
  split
  · next h => rw [h]; rfl
  · rfl

/-- R35: the entries of d, as it ends, and of the chain behind it. -/
theorem State.ChainFrom.chainEntries_counted (h : s.ChainFrom p d cs) (n : Nat) (disp : Dispatcher) (enc : Encoder)
    (echo : EchoMonitor) (o next : FrameOutcome) (stop : Time) :
    State.chainEntries { s.counted d n with disp := disp, enc := enc, echo := echo } d cs o next stop =
      frameDone { s.desc d with repsSent := n } o stop :: cs.map fun c => frameDone (s.desc c) next stop := by
  refine congrArg₂ List.cons ?_ (List.map_congr_left fun c hc => ?_)
  · exact congrArg (frameDone · o stop) ((s.desc_counted d n d).trans (if_pos rfl))
  · have hcd : c ≠ d := fun e => (List.nodup_cons.1 h.nodup).1 (e ▸ hc)
    exact congrArg (frameDone · next stop) ((s.desc_counted d n c).trans (if_neg hcd))

/-- R34: what retires with d retires of the part as it was, whatever d had sent and whatever the line did besides; the
slot is given up. -/
theorem State.Retired.line (r : State.Retired { s.counted d n with disp := disp, enc := enc, echo := echo } v ds)
    (hd : d ∈ ds) {disp' : Dispatcher} (free : disp'.slot = none) (enc' : Encoder) (echo' : EchoMonitor) (ps : Ports) :
    State.Retired { s with disp := disp', enc := enc', echo := echo' }
      { v with disp := disp', enc := enc', echo := echo', ports := ps } ds where
  free := r.free
  others e he := (r.others e he).trans (congrArg (Desc.unlinked · ds)
    ((s.desc_counted d n e).trans (if_neg fun h : e = d => he (h ▸ hd))))
  timed := r.timed
  queued := r.queued
  counter := r.counter
  slot := by simp [free]
  bytes := r.bytes
  inReset := r.inReset
  lsense := r.lsense
  clock := r.clock
  enc := rfl
  echo := rfl
  prof := r.prof
  pending := r.pending

/-- R61, R62: the same of a frame that is sent and releases its successor. -/
theorem State.Released.line {c : DescIdx} {stop : Time}
    (r : State.Released { s.counted d n with disp := disp, enc := enc, echo := echo } v d c stop) (hcd : c ≠ d)
    {disp' : Dispatcher} (free : disp'.slot = none) (enc' : Encoder) (echo' : EchoMonitor) (ps : Ports) :
    State.Released { s with disp := disp', enc := enc', echo := echo' }
      { v with disp := disp', enc := enc', echo := echo', ports := ps } d c stop := by
  obtain ⟨gone, released, others, timed, queued, counter, -, bytes, part⟩ := r
  have hc : State.desc { s.counted d n with disp := disp, enc := enc, echo := echo } c = s.desc c :=
    (s.desc_counted d n c).trans (if_neg hcd)
  rw [hc] at released queued
  refine ⟨gone, released, fun e he hec => (others e he hec).trans ?_, timed, queued, counter, ?_, bytes, ?_⟩
  · exact congrArg (Desc.unlinked · [d]) ((s.desc_counted d n e).trans (if_neg he))
  · simp [free]
  · exact ⟨part.inReset, part.lsense, part.clock, fun _ => rfl, fun _ => rfl, rfl, rfl, rfl, rfl, part.prof,
      part.pending⟩

end

/-- R34: a descriptor of p's with no successor retires alone, whatever its outcome. -/
theorem State.retireNow_last {s : State} {p : Port} {d : DescIdx} (h : s.ChainFrom p d []) (o : FrameOutcome)
    (stop : Time) (defer : Option Port) :
    s.RetiresWith (s.retireNow d o stop defer) p [d] [frameDone (s.desc d) o stop] defer := by
  have live := ((s.desc d).ownedBy_iff p).1 h.owned
  have stands : State.followChain 48 d o stop defer ((s.announce d o stop).unlink d) =
      (s.announce d o stop).unlink d := by
    rw [State.followChain, h.successor_announced, h.2]
  rw [State.retireNow_of_owned h.owned, stands, ← live.2]
  refine State.RetiresWith.cons h.owned List.not_mem_nil (.refl _ ?_) defer
  exact State.liveCount_pos (d := d) (by rw [State.announced_ownedBy, h.owned])

/-- R39: an orphan retires without an entry, and no session completes with it. -/
theorem State.retireNow_orphan_ports {s : State} {d : DescIdx} (live : (s.desc d).live = true)
    (orphan : (s.desc d).owner = none) (alone : (s.desc d).successor = none) (o : FrameOutcome) (stop : Time) :
    (s.retireNow d o stop none).ports = s.ports := by
  have silent : s.announce d o stop = s := by rw [State.announce, orphan]
  have stands : State.followChain 48 d o stop none (s.unlink d) = s.unlink d := by
    have none : ((s.unlink d).desc d).successor = none := by
      rw [State.desc_unlink]
      split
      · rfl
      · exact alone
    rw [State.followChain, none]
  have steps : s.retireNow d o stop none = (s.unlink d).vacate d := by
    refine (s.retire_succ 48 d o stop none live).trans ?_
    rw [silent, stands, orphan]
    rfl
  rw [steps]
  exact Ports.ext_get fun q => (s.unlink d).vacate_port d q

/-! ### A frame that is stopped -/

theorem PortState.strobed_false (q : PortState) : q.strobed false = q := rfl

/-- R117, R120: the frame on the line stops, and its chain breaks, before the fault entry. -/
theorem State.echoAbort_chain {s : State} {p : Port} {d : DescIdx} {cs : List DescIdx} (chain : s.ChainFrom p d cs)
    (n : Nat) (why : AbortDetail) (cause : Cause) :
    ∃ u, (s.counted d n).echoAbort d why cause = u.faultEntry cause ∧
      State.Retired { s with
        disp := { s.disp with phase := none, slot := none }
        enc := { s.enc with activity := .resting }
        echo := if why = .echo then { s.echo with abortPending := false, counted := false } else s.echo } u (d :: cs) ∧
      s.SameOthers u p ∧
      u.port p = (((s.port p).withEntries (frameDone { s.desc d with repsSent := n } (.aborted why) s.enc.lastEnd ::
        cs.map fun c => frameDone (s.desc c) .chainBroken s.enc.lastEnd)).afterRetirements
          (s.liveCount p - (cs.length + 1))).strobed (s.desc d).strobeEnd := by
  have record := (s.desc_counted d n d).trans (if_pos rfl)
  have owner := (((s.desc d).ownedBy_iff p).1 chain.owned).2
  obtain ⟨retired, others, count, port⟩ := State.retireNow_chain
    (chain.counted n s.disp { s.enc with activity := .resting } s.echo) (o := .aborted why) rfl s.enc.lastEnd none
  rw [chain.chainEntries_counted n, if_neg nofun, Nat.eq_sub_of_add_eq count] at port
  have liveCount := s.liveCount_counted d n p
  generalize hv : State.retireNow { s.counted d n with
    disp := s.disp, enc := { s.enc with activity := .resting }, echo := s.echo } d (.aborted why) s.enc.lastEnd none = v
    at *
  have stops : (s.counted d n).echoAbort d why cause = State.faultEntry
      { v.strobeFor (some p) (s.desc d).strobeEnd with
        disp := { (v.strobeFor (some p) (s.desc d).strobeEnd).disp with phase := none, slot := none }
        echo := if why = .echo
          then { (v.strobeFor (some p) (s.desc d).strobeEnd).echo with abortPending := false, counted := false }
          else (v.strobeFor (some p) (s.desc d).strobeEnd).echo } cause := by
    rw [← hv, ← owner]
    unfold State.echoAbort
    dsimp only
    rw [record]
    rfl
  have strobed := v.port_strobeFor (some p) (s.desc d).strobeEnd
  obtain ⟨ps, hps⟩ := v.strobeFor_ports (some p) (s.desc d).strobeEnd
  rw [hps] at stops strobed
  refine ⟨_, stops, ?_, fun q hq => ?_, ?_⟩
  · have line := retired.line List.mem_cons_self (disp' := { s.disp with phase := none, slot := none }) rfl
      { s.enc with activity := .resting }
      (if why = .echo then { s.echo with abortPending := false, counted := false } else s.echo) ps
    have disp : { v.disp with phase := none, slot := none } = { s.disp with phase := none, slot := none } := by
      rw [retired.slot]
      split <;> rfl
    have enc : v.enc = { s.enc with activity := .resting } := retired.enc
    have echo : v.echo = s.echo := retired.echo
    dsimp only
    rw [disp, enc, echo]
    exact line
  · refine (strobed q).trans ?_
    rw [decide_eq_false (by simpa using Ne.symm hq)]
    exact others q hq
  · refine (strobed p).trans ?_
    rw [decide_eq_true rfl, port, Bool.true_and]
    have count : State.liveCount { s.counted d n with
      disp := s.disp, enc := { s.enc with activity := .resting }, echo := s.echo } p = s.liveCount p := liveCount
    rw [count]
    rfl

/-! ### Spans -/

/-- Settles O31: each end of a span by its phase, and the next repetition by its quiet check. -/
theorem spansFollow : Obligations.SpansFollow := by
  intro s d running slot first
  refine ⟨fun phase sending passed => execPreambleEnd_of_ended running slot phase sending passed,
    fun phase sending produced last second quiet unmarked more => ?_, fun phase gap passed unmarked => ?_⟩
  · have ends := execBodyEnd_of_ended running slot phase sending produced last second quiet
    have desc := s.desc_counted d ((s.desc d).repsSent + 1)
    rw [State.endBody_goesOn unmarked more] at ends
    by_cases none : (s.desc d).gap = 0
    · have gap : ((s.counted d ((s.desc d).repsSent + 1)).desc d).gap = 0 := by rw [desc, if_pos rfl]; exact none
      have preamble : ((s.counted d ((s.desc d).repsSent + 1)).desc d).firstPhase = first := by
        rw [desc, if_pos rfl]
        rfl
      rw [if_pos none, State.laterRepetition_quiet (by rw [gap]; exact .inr (by simp)), preamble] at ends
      exact ⟨_, ends, (desc d).trans (if_pos rfl), fun e he => (desc e).trans (if_neg he), fun _ => rfl, rfl,
        ⟨rfl, rfl, rfl, fun _ => rfl, fun _ => rfl, rfl, rfl, rfl, rfl, rfl, rfl⟩, fun some => absurd none some,
        fun _ => ⟨rfl, rfl, rfl⟩⟩
    · rw [if_neg none] at ends
      exact ⟨_, ends, (desc d).trans (if_pos rfl), fun e he => (desc e).trans (if_neg he), fun _ => rfl, rfl,
        ⟨rfl, rfl, rfl, fun _ => rfl, fun _ => rfl, rfl, rfl, rfl, rfl, rfl, rfl⟩, fun _ => ⟨rfl, rfl, rfl⟩,
        fun zero => absurd zero none⟩
  · have ends := execGapEnd_of_ended running slot phase gap passed
    rw [unmarked, if_neg Bool.false_ne_true] at ends
    refine ⟨fun quiet => ?_, fun loud p cs chain => ?_⟩
    · rw [ends, State.laterRepetition_quiet quiet]
      rfl
    · obtain ⟨u, stops, retired, others, port⟩ := State.echoAbort_chain chain (s.desc d).repsSent .blocked .blocked
      rw [s.counted_self d] at stops
      exact ⟨u, by rw [ends, State.laterRepetition_not_quiet loud, stops], retired, others, port⟩

/-! ### A frame that ends -/

/-- R75 step 1: the outcome of a frame that ends, in Safety's terms. -/
theorem Desc.EndsWith.endOutcome {x : Desc} {o : FrameOutcome} (h : x.EndsWith o) : x.endOutcome = o := by
  unfold Desc.endOutcome
  rcases h with ⟨short, rfl⟩ | ⟨whole, queued, rfl⟩ | ⟨whole, timed, a, b, start, actual, sent⟩
  · exact if_pos short
  · rw [if_neg (Nat.not_lt.2 whole)]
    cases hc : x.cls with
    | timed => exact absurd hc queued
    | asap | chained => rfl
  · rw [if_neg (Nat.not_lt.2 whole), timed, start, actual]
    dsimp only
    rcases sent with ⟨same, rfl⟩ | ⟨late, rfl⟩
    · exact if_pos same
    · exact if_neg late

/-- R36, R75: a frame that ends without being sent was truncated, and its chain breaks. -/
theorem Desc.EndsWith.passOn {x : Desc} {o : FrameOutcome} (h : x.EndsWith o) (ho : o.releases = false) :
    o.passOn = .chainBroken := by
  rcases h with ⟨-, rfl⟩ | ⟨-, -, rfl⟩ | ⟨-, -, a, b, -, -, ⟨-, rfl⟩ | ⟨-, rfl⟩⟩
  · rfl
  all_goals cases ho

/-- R75: the guard begun, with d having sent n repetitions. -/
def State.guarded (s : State) (d : DescIdx) (n : Nat) : State :=
  { s.counted d n with
    disp := { s.disp with
      phase := some .guard, slot := none, guardEnd := plus s.clock.time s.prof.active.guard }
    enc := { s.enc with activity := .resting }
    echo := s.echo }

theorem State.desc_guarded (s : State) (d : DescIdx) (n : Nat) (e : DescIdx) :
    (s.guarded d n).desc e = if e = d then { s.desc d with repsSent := n } else s.desc e :=
  s.desc_counted d n e

/-- R34: with no frame in the slot a retirement leaves the Line Dispatcher. -/
theorem State.retireNow_disp {s : State} (slot : s.disp.slot = none) (d : DescIdx) (o : FrameOutcome) (stop : Time)
    (defer : Option Port) : (s.retireNow d o stop defer).disp = s.disp := by
  have frame := s.keepsLine_retireNow d o stop defer
  obtain ⟨table, -⟩ := s.keepsTable_retire chainFuel d o stop defer
  have left : (s.retireNow d o stop defer).disp.slot = s.disp.slot := by
    rw [slot]
    refine Option.eq_none_iff_forall_ne_some.2 fun e he => ?_
    have := (table.slot (fun e he => by simp [slot] at he) e).1 he
    simp [slot] at this
  have fields {a b : Dispatcher} (line : a.line = b.line) (phase : a.phase = b.phase) (slot : a.slot = b.slot)
      (planned : a.plannedEnd = b.plannedEnd) (guard : a.guardEnd = b.guardEnd) (cause : a.cause = b.cause) : a = b := by
    cases a
    cases b
    simp only at line phase slot planned guard cause
    rw [line, phase, slot, planned, guard, cause]
  exact fields frame.line frame.phase left frame.plannedEnd frame.guardEnd frame.cause

/-- R75, R110, R125: a frame's end: the guard, the retirement, the streak and the strobe. -/
theorem State.frameEnd_counted (s : State) (d : DescIdx) (n : Nat) {o : FrameOutcome}
    (ho : Desc.endOutcome { s.desc d with repsSent := n } = o) :
    let v := (s.guarded d n).retireNow d o s.enc.lastEnd none
    ∃ ps, (s.counted d n).frameEnd d = { v with
        disp := (s.guarded d n).disp
        enc := (s.guarded d n).enc
        echo := if o.releases then { s.echo with streak := 0 } else s.echo
        ports := ps } ∧
      ∀ q, ((s.counted d n).frameEnd d).port q =
        (v.port q).strobed (decide ((s.desc d).owner = some q) && (s.desc d).strobeEnd) := by
  intro v
  have record := (s.desc_counted d n d).trans (if_pos rfl)
  have frame := (s.guarded d n).keepsLine_retireNow d o s.enc.lastEnd none
  have disp : v.disp = (s.guarded d n).disp := State.retireNow_disp rfl d o s.enc.lastEnd none
  have enc : v.enc = (s.guarded d n).enc := frame.enc
  have echo : v.echo = s.echo := frame.echo
  have ends : (s.counted d n).frameEnd d = (v.clearStreak o).strobeFor (s.desc d).owner (s.desc d).strobeEnd := by
    unfold State.frameEnd
    dsimp only
    rw [record, ho]
    rfl
  have cleared : v.clearStreak o = { v with echo := if o.releases then { s.echo with streak := 0 } else s.echo } := by
    rw [State.clearStreak, ← echo]
    split <;> rfl
  obtain ⟨ps, hps⟩ := (v.clearStreak o).strobeFor_ports (s.desc d).owner (s.desc d).strobeEnd
  refine ⟨ps, ?_, fun q => ?_⟩
  · rw [ends, hps, cleared, ← disp, ← enc]
  · rw [ends, State.port_strobeFor, cleared]
    rfl

/-- R74: the events that end a frame. -/
theorem State.exec_frameEnd {s : State} {d : DescIdx} {x : Desc} {i : Instr} (running : s.inReset = false)
    (slot : s.disp.slot = some d) (ending :
      (i = .bodyEnd ∧ s.disp.phase = some .body ∧ s.enc.activity = .sending ∧ s.prof.active.hbt ≤ s.enc.ticks ∧
        s.enc.bitPos + 1 = (s.desc d).preBits + (s.desc d).bodyBits ∧ s.enc.half = .second ∧
        s.echo.abortPending = false ∧ x = { s.desc d with repsSent := (s.desc d).repsSent + 1 } ∧
        (x.truncate = true ∨ x.reps ≤ x.repsSent)) ∨
      (i = .gapEnd ∧ s.disp.phase = some .gap ∧ s.enc.activity = .gap ∧ (s.desc d).gap ≤ s.enc.ticks ∧
        x = s.desc d ∧ x.truncate = true)) :
    ∃ n, x = { s.desc d with repsSent := n } ∧ exec i s = .next ((s.counted d n).frameEnd d) := by
  rcases ending with ⟨rfl, phase, sending, produced, last, second, quiet, rfl, ends⟩ |
    ⟨rfl, phase, gap, passed, rfl, mark⟩
  · refine ⟨_, rfl, ?_⟩
    rw [execBodyEnd_of_ended running slot phase sending produced last second quiet, State.endBody_ends ends]
  · refine ⟨(s.desc d).repsSent, rfl, ?_⟩
    rw [execGapEnd_of_ended running slot phase gap passed, if_pos mark, s.counted_self d]

/-- R35: the frames behind d do not show what d has sent. -/
theorem State.ChainFrom.chainEntries_guarded {s : State} {p : Port} {d c : DescIdx} {cs : List DescIdx}
    (chain : s.ChainFrom p d (c :: cs)) (n : Nat) (o next : FrameOutcome) (stop : Time) :
    (s.guarded d n).chainEntries c cs o next stop = s.chainEntries c cs o next stop := by
  have desc {x : DescIdx} (hx : x ∈ c :: cs) : (s.guarded d n).desc x = s.desc x := by
    have hxd : x ≠ d := fun e => (List.nodup_cons.1 chain.nodup).1 (e ▸ hx)
    exact (s.desc_guarded d n x).trans (if_neg hxd)
  exact congrArg₂ List.cons (congrArg (frameDone · o stop) (desc List.mem_cons_self))
    (List.map_congr_left fun x hx => congrArg (frameDone · next stop) (desc (List.mem_cons_of_mem c hx)))

/-- R61, R75: a frame that ends with no successor to release retires with its chain. -/
theorem State.guarded_retires {s : State} {p : Port} {d : DescIdx} {cs : List DescIdx} (chain : s.ChainFrom p d cs)
    (n : Nat) {o : FrameOutcome} (last : o.releases = true → cs = [])
    (breaks : o.releases = false → o.passOn = .chainBroken) (stop : Time) :
    (s.guarded d n).RetiresWith ((s.guarded d n).retireNow d o stop none) p (d :: cs)
      (frameDone { s.desc d with repsSent := n } o stop :: cs.map fun c => frameDone (s.desc c) .chainBroken stop)
      none := by
  have guarded : (s.guarded d n).ChainFrom p d cs := chain.counted n _ _ _
  cases ho : o.releases with
  | false =>
    have retires := State.retireNow_chain guarded ho stop none
    rwa [State.guarded, chain.chainEntries_counted n, breaks ho] at retires
  | true =>
    obtain rfl := last ho
    have record := (s.desc_guarded d n d).trans (if_pos rfl)
    have retires := State.retireNow_last guarded o stop none
    rwa [record] at retires

/-- Settles O32: the outcome of the frame that ends, and what follows in its chain. -/
theorem frameEnds : Obligations.FrameEnds := by
  intro s d x i running slot ending o endsWith ended
  obtain ⟨n, rfl, ends⟩ := State.exec_frameEnd running slot ending
  obtain ⟨ps, whole, port⟩ := s.frameEnd_counted d n endsWith.endOutcome
  have count (p : Port) : (s.guarded d n).liveCount p = s.liveCount p := s.liveCount_counted d n p
  generalize hv : (s.guarded d n).retireNow d o s.enc.lastEnd none = v at whole port
  have others {p : Port} (owned : (s.desc d).ownedBy p = true) (h : (s.guarded d n).SameOthers v p) :
      s.SameOthers ((s.counted d n).frameEnd d) p := fun q hq => by
    rw [port, (((s.desc d).ownedBy_iff p).1 owned).2, decide_eq_false (by simpa using Ne.symm hq)]
    exact h q hq
  have own {p : Port} (owned : (s.desc d).ownedBy p = true) :
      ((s.counted d n).frameEnd d).port p = (v.port p).strobed (s.desc d).strobeEnd := by
    rw [port, (((s.desc d).ownedBy_iff p).1 owned).2, decide_eq_true rfl, Bool.true_and]
  have retires {ds : List DescIdx} (hd : d ∈ ds) (h : (s.guarded d n).Retired v ds) :
      ended.Retired ((s.counted d n).frameEnd d) ds := by
    rw [whole]
    exact h.line hd rfl _ _ ps
  refine ⟨fun p cs chain last => ?_, fun p c cs chain sent => ?_, fun live orphan alone => ?_⟩
  · have retiresWith := State.guarded_retires chain n last endsWith.passOn s.enc.lastEnd
    rw [hv] at retiresWith
    have left := Nat.eq_sub_of_add_eq (retiresWith.count.trans (count p))
    have entries := retiresWith.port
    rw [if_neg nofun, left] at entries
    exact ⟨_, ends, retires List.mem_cons_self retiresWith.retired, others chain.owned retiresWith.others,
      (own chain.owned).trans (congrArg (PortState.strobed · _) entries)⟩
  · have guarded : (s.guarded d n).ChainFrom p d (c :: cs) := chain.counted n _ _ _
    have hcd : c ≠ d := fun e => (List.nodup_cons.1 chain.nodup).1 (e ▸ List.mem_cons_self)
    have successor := (s.desc_guarded d n c).trans (if_neg hcd)
    have record := (s.desc_guarded d n d).trans (if_pos rfl)
    have follows := sentReleasesSuccessor (s.guarded d n) p d c cs o s.enc.lastEnd sent guarded
    dsimp only at follows
    rw [hv, successor, record, count, chain.chainEntries_guarded n] at follows
    obtain ⟨rest, opens, late⟩ := follows
    refine ⟨_, ends, others chain.owned rest, fun open_ => ?_, fun closed => ?_⟩
    · obtain ⟨released, entries, -⟩ := opens open_
      refine ⟨?_, (own chain.owned).trans (congrArg (PortState.strobed · _) entries)⟩
      rw [whole]
      exact released.line hcd rfl _ _ ps
    · obtain ⟨retired, entries⟩ := late closed
      exact ⟨retires List.mem_cons_self retired, (own chain.owned).trans (congrArg (PortState.strobed · _) entries)⟩
  · have record := (s.desc_guarded d n d).trans (if_pos rfl)
    have retired := State.retireNow_alone (s := s.guarded d n) (d := d) (by rw [record]; exact live)
      (by rw [record]; exact alone) o s.enc.lastEnd none
    have silent := State.retireNow_orphan_ports (s := s.guarded d n) (d := d) (by rw [record]; exact live)
      (by rw [record]; exact orphan) (by rw [record]; exact alone) o s.enc.lastEnd
    rw [hv] at retired silent
    refine ⟨_, ends, retires List.mem_cons_self retired, Ports.ext_get fun q => (port q).trans ?_⟩
    rw [orphan, decide_eq_false nofun, Bool.false_and, PortState.strobed_false, State.port, silent]
    rfl

end Sys2Proof.Machine
end

section
/-! POLL: the status summary, and the head entry sent and removed (O48). -/

namespace Sys2Proof.Machine

/-! ### The status summary -/

/-- R186: a mark in the lowest bit of a byte whose other bits hold a number. -/
theorem toNat_or_lowBit {n : Nat} (h : 2 * n < 256) (b : Bool) :
    (byteOf (2 * n) ||| bitAt 0 b).toNat = 2 * n + if b then 1 else 0 := by
  have low : 2 ^ 1 * n + 1 = 2 ^ 1 * n ||| 1 := Nat.two_pow_add_eq_or_of_lt (by decide) n
  cases b with
  | false => simp [bitAt, Nat.mod_eq_of_lt h]
  | true =>
    have one : (byteOf (2 ^ 0)).toNat = 1 := rfl
    simp only [bitAt, if_true, BitVec.toNat_or, toNat_byteOf, Nat.mod_eq_of_lt h]
    exact low.symm

/-- R176, R186: the second byte, by the line condition and the flags. -/
theorem toNat_condition_marks (c : Condition) (changed low ready : Bool) :
    (byteOf (c.number * 64) ||| bitAt 5 changed ||| bitAt 4 low ||| bitAt 3 ready ||| 0x05).toNat =
      c.number * 64 + (if changed then 32 else 0) + (if low then 16 else 0) + (if ready then 8 else 0) + 5 := by
  cases c <;> cases changed <;> cases low <;> cases ready <;> rfl

/-- R176: the summary of a port whose entries fit in its queue. -/
theorem State.summary_toNat (s : State) (p : Port) (fits : (s.port p).queue.entries.length ≤ 24) :
    (s.summary p).map BitVec.toNat =
      [(s.port p).queue.entries.length * 8 + (s.port p).session.state.number * 2 + (if s.holds p then 1 else 0),
       s.disp.line.condition.number * 64 + (if (s.port p).queue.lineChanged then 32 else 0) +
         (if (s.port p).queue.leaseLow then 16 else 0) + (if (s.port p).queue.captureReady then 8 else 0) + 5] := by
  have number : (s.port p).session.state.number ≤ 3 := by cases (s.port p).session.state <;> decide
  have double : s.used p * 8 + (s.port p).session.state.number * 2 =
      2 * ((s.port p).queue.entries.length * 4 + (s.port p).session.state.number) := by
    rw [State.used]
    omega
  simp only [State.summary, List.map_cons, List.map_nil, toNat_condition_marks]
  rw [double, toNat_or_lowBit (by omega)]
  congr 2
  omega

/-! ### The bytes of a POLL -/

/-- R182: the bytes on PMOSI of a POLL of n bytes, from byte k on, k at least 1. -/
theorem pollMosi_drop (n k : Nat) :
    ((Config.kindPoll :: List.replicate n 0).take n).drop (k + 1) = List.replicate (n - (k + 1)) (0 : Byte) := by
  cases n <;> simp

section
variable {q : PortState}

/-- R177: the byte that names a POLL. -/
theorem PortState.pollByte_kind (kind : q.link.state = .kind) :
    q.pollByte Config.kindPoll = { q with link := { q.link.drive 1 with state := .poll } } := by
  have read : q.link.byte Config.kindPoll q.queue.entries.head? = { q.link.drive 1 with state := .poll } := by
    simp only [Link.byte, kind]
    rfl
  simp only [PortState.pollByte, read, kind]
  rfl

/-- R182: byte 1, at which what the POLL sends is fixed. -/
theorem PortState.pollByte_fixes (poll : q.link.state = .poll) (one : q.link.byteCount = 1) (b : Byte) :
    q.pollByte b = { q with link := { q.link.drive 1 with out := pollBytes q.queue.entries.head? } } := by
  simp only [PortState.pollByte, Link.byte, Link.decisive, poll, one]
  rfl

/-- R182: a byte of what was fixed, with more to come. -/
theorem PortState.pollByte_sends (poll : q.link.state = .poll) (begun : 2 ≤ q.link.byteCount)
    (early : q.link.byteCount ≠ 23) (more : 2 ≤ q.link.out.length) (b : Byte) :
    q.pollByte b = { q with link := q.link.drive 1 } := by
  have left : q.link.out.tail ≠ [] := fun h => by
    have := congrArg List.length h
    rw [List.length_tail, List.length_nil] at this
    omega
  have notOne : q.link.byteCount ≠ 1 := by omega
  simp [PortState.pollByte, Link.byte, Link.decisive, poll, notOne, early, left]

/-- R182: the last byte of an entry, its CRC, at which the entry leaves the queue. -/
theorem PortState.pollByte_removes (poll : q.link.state = .poll) (last : q.link.byteCount = 23)
    (one : q.link.out.length = 1) (b : Byte) :
    q.pollByte b = { q.removeHead with link := { q.link.drive 1 with state := .ignore } } := by
  have gone : q.link.out.drop 1 = [] := List.drop_eq_nil_of_le (by omega)
  simp [PortState.pollByte, Link.byte, Link.decisive, poll, last, gone, PortState.removeHead]

/-- R182: the length 0 of an empty queue, after which nothing is sent. -/
theorem PortState.pollByte_empty (poll : q.link.state = .poll) (two : q.link.byteCount = 2)
    (one : q.link.out.length = 1) (b : Byte) :
    q.pollByte b = { q with link := { q.link.drive 1 with state := .ignore } } := by
  have gone : q.link.out.drop 1 = [] := List.drop_eq_nil_of_le (by omega)
  simp [PortState.pollByte, Link.byte, Link.decisive, poll, two, gone]

/-- R175, R182: bytes after all has been sent. -/
theorem PortState.pollBytes_ignored (ignore : q.link.state = .ignore) (bs : List Byte) :
    bs.foldl PortState.pollByte q = { q with link := q.link.drive bs.length } := by
  induction bs generalizing q with
  | nil => simp
  | cons b bs ih =>
    have one : q.pollByte b = { q with link := q.link.drive 1 } := by
      simp [PortState.pollByte, Link.byte, ignore]
    rw [List.foldl_cons, one, ih (by simpa using ignore), Link.drive_drive, List.length_cons, Nat.add_comm]

/-- R171, R182: m bytes of a POLL whose entry is fixed: short of its CRC byte they only send, and with it the entry
leaves the queue. -/
theorem PortState.pollBytes_entry (poll : q.link.state = .poll) (begun : 2 ≤ q.link.byteCount)
    (short : q.link.byteCount < 24) (rest : q.link.byteCount + q.link.out.length = 24) (bs : List Byte) :
    bs.foldl PortState.pollByte q =
      if bs.length < q.link.out.length then { q with link := q.link.drive bs.length }
      else { q.removeHead with link := { q.link.drive bs.length with state := .ignore } } := by
  induction bs generalizing q with
  | nil =>
    rw [if_pos (by rw [List.length_nil]; omega)]
    simp
  | cons b bs ih =>
    have both : (q.link.drive 1).drive bs.length = q.link.drive (bs.length + 1) := by
      rw [Link.drive_drive, Nat.add_comm]
    rw [List.foldl_cons, List.length_cons, ← both]
    by_cases last : q.link.byteCount = 23
    · rw [PortState.pollByte_removes poll last (by omega), if_neg (by omega), PortState.pollBytes_ignored rfl]
      rfl
    · have left : (q.link.out.drop 1).length + 1 = q.link.out.length := by
        rw [List.length_drop]
        omega
      rw [PortState.pollByte_sends poll begun last (by omega),
        ih (q := { q with link := q.link.drive 1 }) poll (Nat.le_succ_of_le begun)
          (show q.link.byteCount + 1 < 24 by omega)
          (show q.link.byteCount + 1 + (q.link.out.drop 1).length = 24 by omega)]
      by_cases more : bs.length + 1 < q.link.out.length
      · rw [if_pos more]
        exact if_pos (show bs.length < (q.link.out.drop 1).length by omega)
      · rw [if_neg more]
        exact if_neg (show ¬ bs.length < (q.link.out.drop 1).length by omega)

end

/-! ### What a POLL leaves -/

/-- R171, R175, R182: a port as some bytes of a POLL leave it: its queue's entries, the state of its link, and the bytes
driven on PMISO. -/
structure PortState.Polled (q r : PortState) (entries : List Entry) (st : LinkState) (miso : List Byte) : Prop where
  agrees : r.Agrees { q with queue := { q.queue with entries := entries }, link := { q.link with state := st } }
  miso : r.link.miso = miso

/-- R171: a port whose queue and link alone have changed. -/
theorem PortState.Polled.of_link {q : PortState} {k : Link} {queue : EventQueue} {entries : List Entry} {st : LinkState}
    {miso : List Byte} (left : queue = { q.queue with entries := entries }) (state : k.state = st)
    (crc : k.crcErrors = q.link.crcErrors) (framing : k.framingErrors = q.link.framingErrors) (sent : k.miso = miso) :
    q.Polled { q with queue := queue, link := k } entries st miso :=
  ⟨⟨rfl, left, rfl, rfl, rfl, state, crc, framing⟩, sent⟩

/-- What is driven does not depend on how much padding follows it. -/
theorem take_append_replicate {α : Type} (l : List α) (x : α) {n m : Nat} (h : n ≤ m) :
    (l ++ List.replicate m x).take n = (l ++ List.replicate n x).take n := by
  rw [List.take_append, List.take_append, List.take_replicate, List.take_replicate]
  congr 2
  omega

/-- R176, R182: a link that has sent the summary, as a POLL, and has what follows fixed. -/
def Link.polling (l : Link) (summary : List Byte) (head : Option Entry) : Link :=
  { l with state := .poll, byteCount := 2, out := pollBytes head, pad := 0, miso := summary }

/-- R176, R182: the first two bytes of a POLL send the summary and fix the entry. -/
theorem PortState.pollBytes_first (q : PortState) (l : Link) {summary : List Byte} (two : summary.length = 2) :
    PortState.pollByte (PortState.pollByte { q with link := l.fall summary } Config.kindPoll) 0 =
      { q with link := l.polling summary q.queue.entries.head? } := by
  obtain ⟨a, b, rfl⟩ := List.length_eq_two.1 two
  rw [PortState.pollByte_kind rfl, PortState.pollByte_fixes rfl rfl]
  rfl

/-- R175, R182: the bytes driven from byte 2 on follow the summary. -/
theorem Link.polling_miso (l : Link) {summary : List Byte} (two : summary.length = 2) (head : Option Entry) (m : Nat) :
    ((l.polling summary head).drive m).miso = (summary ++ pollBytes head ++ List.replicate (m + 2) 0).take (m + 2) := by
  have split := List.take_length_add_append (l₁ := summary) (l₂ := pollBytes head ++ List.replicate (m + 2) 0) m
  rw [two, take_append_replicate _ _ (Nat.le_add_right m 2)] at split
  rw [Nat.add_comm 2 m] at split
  rw [List.append_assoc]
  exact split.symm

section
variable {q : PortState} {l : Link} {summary : List Byte}

/-- R182: a POLL of at least two bytes of an empty queue sends length 0 and then 0x00. -/
theorem PortState.polled_empty (two : summary.length = 2) (crc : l.crcErrors = q.link.crcErrors)
    (framing : l.framingErrors = q.link.framingErrors) (empty : q.queue.entries = []) (m : Nat) :
    q.Polled ((List.replicate m 0).foldl PortState.pollByte { q with link := l.polling summary q.queue.entries.head? })
      [] (if m = 0 then .poll else .ignore) ((summary ++ List.replicate (m + 2) 0).take (m + 2)) := by
  have queue : q.queue = { q.queue with entries := [] } := by rw [← empty]
  have sent : ((l.polling summary none).drive m).miso = (summary ++ List.replicate (m + 2) 0).take (m + 2) := by
    have zeros : pollBytes none ++ List.replicate (m + 2) 0 = List.replicate (m + 3) 0 := rfl
    rw [l.polling_miso two, List.append_assoc, zeros, take_append_replicate _ _ (Nat.le_succ _)]
  rw [empty]
  cases m with
  | zero => exact .of_link queue rfl crc framing (by simpa using sent)
  | succ m =>
    have both : ((l.polling summary none).drive 1).drive m = (l.polling summary none).drive (m + 1) := by
      rw [Link.drive_drive, Nat.add_comm]
    rw [List.replicate_succ, List.foldl_cons, PortState.pollByte_empty rfl rfl rfl, PortState.pollBytes_ignored rfl,
      List.length_replicate]
    exact .of_link queue rfl crc framing ((congrArg Link.miso both).trans sent)

/-- R171, R182: a POLL of at least two bytes of a queue with an entry sends its length, the entry and its CRC, and the
entry leaves with the CRC byte. -/
theorem PortState.polled_entry (two : summary.length = 2) (crc : l.crcErrors = q.link.crcErrors)
    (framing : l.framingErrors = q.link.framingErrors) {e : Entry} {r : List Entry} (front : q.queue.entries = e :: r)
    (m : Nat) :
    q.Polled ((List.replicate m 0).foldl PortState.pollByte { q with link := l.polling summary q.queue.entries.head? })
      (if m < 22 then e :: r else r) (if m < 22 then .poll else .ignore)
      ((summary ++ [20] ++ e.bytes ++ [crc8 e.bytes] ++ List.replicate (m + 2) 0).take (m + 2)) := by
  have length : (pollBytes (some e)).length = 22 := by simp [pollBytes, e.length_bytes]
  have sent := l.polling_miso two (some e) m
  have bytes : summary ++ pollBytes (some e) = summary ++ [20] ++ e.bytes ++ [crc8 e.bytes] := by
    simp [pollBytes]
  rw [bytes] at sent
  have fold := PortState.pollBytes_entry (q := { q with link := l.polling summary (some e) }) rfl
    (show 2 ≤ 2 from le_rfl) (show 2 < 24 by decide) (show 2 + (pollBytes (some e)).length = 24 by rw [length])
    (List.replicate m 0)
  rw [List.length_replicate] at fold
  rw [front, List.head?_cons]
  by_cases more : m < 22
  · rw [if_pos more, if_pos more, fold.trans (if_pos (show m < (pollBytes (some e)).length by omega))]
    exact .of_link (by rw [← front]) rfl crc framing sent
  · rw [if_neg more, if_neg more, fold.trans (if_neg (show ¬ m < (pollBytes (some e)).length by omega))]
    have tail : q.queue.entries.tail = r := congrArg List.tail front
    exact .of_link (congrArg (fun es => { q.queue with entries := es }) tail) rfl crc framing sent

end

/-- R182: the bytes of a POLL from PCSn's fall, the first two apart. -/
theorem pollMosi (n : Nat) : (Config.kindPoll :: List.replicate (n + 2) 0).take (n + 2) =
    Config.kindPoll :: (0 : Byte) :: List.replicate n 0 := by
  rw [List.take_succ_cons, List.take_replicate, Nat.min_eq_left (Nat.le_succ _), List.replicate_succ]

/-- R175, R182: a POLL on a settled link begins with the rise and the fall of PCSn. -/
theorem State.pollLink_settled {s : State} {p : Port} (h : (s.port p).link.Settled) (n : Nat) :
    s.pollLink p n = s.modPort p fun q => ((Config.kindPoll :: List.replicate n 0).take n).foldl PortState.pollByte
      { q with link := q.link.rise.fall (s.summary p) } := by
  have own : ¬ ((s.port p).link.state = .kind ∨ (s.port p).link.state = .poll) := by
    rcases h with h | h | h <;> simp [h]
  rw [State.pollLink, decide_eq_false own]
  exact State.modPort_modPort s p _ _

/-- R171, R175, R182: a POLL on a settled link, by its number of bytes and the queue. -/
theorem State.polled_settled {s : State} {p : Port} (h : (s.port p).link.Settled) (n : Nat) {st : LinkState}
    (zero : n = 0 → st = .kind)
    (partly : 1 ≤ n → ¬ (24 ≤ n ∨ ((s.port p).queue.entries = [] ∧ 3 ≤ n)) → st = .poll)
    (sent : 24 ≤ n ∨ ((s.port p).queue.entries = [] ∧ 3 ≤ n) → st = .ignore) :
    ∃ miso, (s.port p).Polled ((s.pollLink p n).port p)
        (if 24 ≤ n then (s.port p).queue.entries.drop 1 else (s.port p).queue.entries) st miso ∧
      ((s.port p).queue.entries = [] → miso = (s.summary p ++ List.replicate n 0).take n) ∧
      ∀ e r, (s.port p).queue.entries = e :: r → miso =
        (s.summary p ++ [20] ++ e.bytes ++ [crc8 e.bytes] ++ List.replicate n 0).take n := by
  have two : (s.summary p).length = 2 := rfl
  rw [State.pollLink_settled h, State.port_modPort, if_pos rfl, Link.rise_settled h.apart]
  match n with
  | 0 =>
    obtain rfl := zero rfl
    exact ⟨[], .of_link rfl rfl rfl rfl rfl, fun _ => rfl, fun _ _ _ => rfl⟩
  | 1 =>
    obtain rfl := partly le_rfl (by omega)
    refine ⟨(s.summary p).take 1, ?_, fun _ => rfl, fun _ _ _ => rfl⟩
    rw [if_neg (by decide)]
    have one : (Config.kindPoll :: List.replicate 1 0).take 1 = [Config.kindPoll] := rfl
    rw [one, List.foldl_cons, List.foldl_nil, PortState.pollByte_kind rfl]
    exact .of_link rfl rfl rfl rfl rfl
  | m + 2 =>
    rw [pollMosi, List.foldl_cons, List.foldl_cons, PortState.pollBytes_first _ _ two]
    cases queued : (s.port p).queue.entries with
    | nil =>
      have polled := PortState.polled_empty (q := s.port p) (l := { (s.port p).link with
        state := .resting, out := [], pad := 0 }) two rfl rfl queued m
      have state : (if m = 0 then .poll else .ignore) = st := by
        split
        · exact (partly (by omega) (by omega)).symm
        · exact (sent (.inr ⟨queued, by omega⟩)).symm
      rw [queued, state] at polled
      refine ⟨_, ?_, fun _ => rfl, fun _ _ h => nomatch h⟩
      rw [List.drop_nil, ite_self]
      exact polled
    | cons e r =>
      have polled := PortState.polled_entry (q := s.port p) (l := { (s.port p).link with
        state := .resting, out := [], pad := 0 }) two rfl rfl queued m
      have state : (if m < 22 then .poll else .ignore) = st := by
        split
        · exact (partly (by omega) (by simp [queued]; omega)).symm
        · exact (sent (.inl (by omega))).symm
      have entries : (if m < 22 then e :: r else r) = if 24 ≤ m + 2 then (e :: r).drop 1 else e :: r := by
        rw [← ite_not]
        exact if_congr (by omega) rfl rfl
      rw [queued, state, entries] at polled
      refine ⟨_, polled, fun h => (List.cons_ne_nil e r h).elim, fun e' r' h => ?_⟩
      obtain ⟨rfl, rfl⟩ := List.cons.inj h
      rfl

/-- R173: PATTNn out of reset. -/
theorem State.attention_iff {s : State} (p : Port) (running : s.inReset = false) :
    s.attention p = true ↔ (s.port p).queue.entries ≠ [] ∨ (s.port p).queue.lineChanged = true ∨
      (s.port p).queue.leaseLow = true ∨ (s.port p).queue.captureReady = true := by
  simp [State.attention, running, or_assoc]

/-- R182: the state a POLL of n bytes leaves the link in. -/
theorem exists_pollState (n : Nat) (entries : List Entry) : ∃ st : LinkState, (n = 0 → st = .kind) ∧
    (1 ≤ n → ¬ (24 ≤ n ∨ (entries = [] ∧ 3 ≤ n)) → st = .poll) ∧
    (24 ≤ n ∨ (entries = [] ∧ 3 ≤ n) → st = .ignore) := by
  by_cases zero : n = 0
  · exact ⟨.kind, fun _ => rfl, fun h => by omega, fun h => by omega⟩
  · by_cases sent : 24 ≤ n ∨ (entries = [] ∧ 3 ≤ n)
    · exact ⟨.ignore, fun h => absurd h zero, fun _ h => absurd sent h, fun _ => rfl⟩
    · exact ⟨.poll, fun h => absurd h zero, fun _ _ => rfl, fun h => absurd h sent⟩

/-- R182: POLL out of reset. -/
theorem exec_poll {s : State} (p : Port) (n : Nat) (running : s.inReset = false) :
    exec (.poll p n) s = .next (s.pollLink p n) := by
  show execPoll p n s = _
  rw [execPoll, running]
  rfl

/-- R171: POLL changes its own port alone. -/
theorem State.pollLink_frame (s : State) (p : Port) (n : Nat) :
    s.SamePart (s.pollLink p n) ∧ s.SameOthers (s.pollLink p n) p := by
  rw [State.pollLink, State.begun_cases, State.modLink, State.modPort_modPort]
  exact ⟨s.samePart_modPort p _, s.sameOthers_modPort p _⟩

/-- R182: POLL at a link in POLL goes on from the byte it stands at. -/
theorem State.pollLink_goesOn {s : State} {p : Port} (poll : (s.port p).link.state = .poll) {k : Nat}
    (standing : (s.port p).link.byteCount = k + 1) (n : Nat) :
    (s.pollLink p n).port p = (List.replicate (n - (k + 1)) 0).foldl PortState.pollByte (s.port p) := by
  rw [State.pollLink, decide_eq_true (Or.inr poll), State.port_modPort, if_pos rfl]
  show (((Config.kindPoll :: List.replicate n 0).take n).drop (s.port p).link.byteCount).foldl _ (s.port p) = _
  rw [standing, pollMosi_drop]

/-- R171, R182: a POLL whose entry is fixed, and that goes on to its CRC byte, sends the rest and removes the entry. -/
theorem State.polled_goesOn {s : State} {p : Port} (poll : (s.port p).link.state = .poll)
    (begun : 2 ≤ (s.port p).link.byteCount) (short : (s.port p).link.byteCount < 24)
    (rest : (s.port p).link.byteCount + (s.port p).link.out.length = 24) (pad : (s.port p).link.pad = 0) {n : Nat}
    (all : 24 ≤ n) :
    (s.port p).Polled ((s.pollLink p n).port p) ((s.port p).queue.entries.drop 1) .ignore
      ((s.port p).link.miso ++ (s.port p).link.out ++ List.replicate (n - 24) 0) := by
  obtain ⟨k, standing⟩ : ∃ k, (s.port p).link.byteCount = k + 1 := ⟨_, (Nat.sub_add_cancel (by omega)).symm⟩
  have enough : ¬ (List.replicate (n - (k + 1)) (0 : Byte)).length < (s.port p).link.out.length := by
    rw [List.length_replicate]
    omega
  have left : n - (k + 1) - (s.port p).link.out.length = n - 24 := by omega
  have fits : (s.port p).link.out.length ≤ n - (k + 1) := by omega
  rw [State.pollLink_goesOn poll standing, PortState.pollBytes_entry poll begun short rest, if_neg enough]
  refine .of_link (by rw [List.drop_one]; rfl) rfl rfl rfl ?_
  show (s.port p).link.miso ++ ((s.port p).link.out ++ List.replicate _ _).take _ = _
  rw [List.length_replicate, pad, List.take_append, List.take_of_length_le fits, List.take_replicate, left,
    Nat.min_eq_left (by omega), List.append_assoc]

/-- R175: PCSn's rise alone cuts a POLL off. -/
theorem exec_cutOff {s : State} {p : Port} (running : s.inReset = false) (poll : (s.port p).link.state = .poll) :
    exec (.voidTransaction p ⟨false, [], true⟩) s = .next (s.modLink p fun _ => (s.port p).link.rise) := by
  show execVoidTransaction p ⟨false, [], true⟩ s = _
  simp [execVoidTransaction, running, Link.void, Link.clock, poll]

/-- Settles O48: the summary, a POLL from PCSn's fall, and one that goes on or is cut off. -/
theorem pollTakesHead : Obligations.PollTakesHead := by
  refine ⟨fun p s fits => ?_, fun p n s running settled => ?_, fun p s running poll =>
    ⟨fun begun short rest pad n all => ?_, ?_⟩⟩
  · simp only [s.summary_toNat p fits]
    cases (s.port p).session.state <;> cases s.disp.line <;> rfl
  · obtain ⟨part, others⟩ := s.pollLink_frame p n
    obtain ⟨st, zero, poll, ends⟩ := exists_pollState n (s.port p).queue.entries
    obtain ⟨miso, polled, empty, entry⟩ := State.polled_settled settled n zero poll ends
    refine ⟨_, exec_poll p n running, part, others, fun st zero poll ends => ?_, ?_,
      fun h => polled.miso.trans (empty h), fun e r h => polled.miso.trans (entry e r h)⟩
    · obtain ⟨_, polled, _⟩ := State.polled_settled settled n zero poll ends
      exact polled.agrees
    · rw [State.attention_iff p (part.inReset.trans running), polled.agrees.queue]
  · obtain ⟨part, others⟩ := s.pollLink_frame p n
    have polled := State.polled_goesOn poll begun short rest pad all
    exact ⟨_, exec_poll p n running, part, others, polled.agrees, polled.miso⟩
  · refine ⟨_, exec_cutOff running poll, s.samePart_modPort p _, s.sameOthers_modPort p _, ?_⟩
    have apart : (s.port p).link.state ≠ .request ∧ (s.port p).link.state ≠ .confirm := by simp [poll]
    rw [State.port_modLink, if_pos rfl, Link.rise_settled apart]
    exact ⟨rfl, rfl, rfl, rfl, rfl, rfl, rfl, rfl⟩

end Sys2Proof.Machine
end

section
/-! The waveform of a half-cell: LOUT, the REFCLK cycles and the tick boundaries in it, the end of a burst, and the
comparison at its middle (O5, O8, O34, O38). -/

namespace Sys2Proof.Machine

/-! ### The half-cell produced and LOUT -/

section

variable {s : State} {x : Desc} {l : HalfLevel}

/-- R98: a half-cell that has not ended is produced. -/
theorem State.producing_of_sending {d : DescIdx} (sending : s.enc.activity = .sending) (slot : s.disp.slot = some d)
    (going : s.enc.ticks < s.prof.active.hbt) :
    s.producing = some (s.desc d, s.enc.level (s.desc d) s.store.pool) := by
  simp [State.producing, sending, slot, going]

/-- R97: only a sending encoder produces a half-cell. -/
theorem State.producing_of_not_sending (h : s.enc.activity ≠ .sending) : s.producing = none := by
  unfold State.producing
  split
  · exact absurd ‹_› h
  · rfl

theorem State.producing_of_no_slot (h : s.disp.slot = none) : s.producing = none := by
  unfold State.producing
  split
  · simp_all
  · rfl

/-- R70, R96: of a sound line a half-cell is produced in PREAMBLE and BODY only. -/
theorem State.LineSound.producing_eq_none (sound : s.LineSound) (preamble : s.disp.phase ≠ some .preamble)
    (body : s.disp.phase ≠ some .body) : s.producing = none := by
  by_cases gap : s.disp.phase = some .gap
  · exact State.producing_of_not_sending (by simp [sound.gap.2 gap])
  · refine State.producing_of_no_slot (Option.not_isSome_iff_eq_none.1 fun some => ?_)
    rcases sound.slot.1 some with h | h | h
    · exact preamble h
    · exact body h
    · exact gap h

theorem State.lout_inReset (h : s.inReset = true) : s.lout = .low := by
  simp [State.lout, h]

theorem State.lout_of_rest (running : s.inReset = false) (rest : s.producing = none) :
    s.lout = s.prof.active.idleLevel := by
  simp [State.lout, running, rest]

theorem State.lout_of_quiet (running : s.inReset = false) (h : s.producing = some (x, .quiet)) :
    s.lout = s.prof.active.idleLevel := by
  simp [State.lout, running, h]

/-- R103, R104: an ACTIVE half-cell stands at the opposite level without a carrier, and in the bursts of its carrier. -/
theorem State.lout_of_active (running : s.inReset = false) (h : s.producing = some (x, .active)) :
    s.lout = if x.carrier = .off ∨ s.enc.carrierPhase < s.prof.active.burst then Level.flip s.prof.active.idleLevel
      else s.prof.active.idleLevel := by
  simp [State.lout, running, h]

theorem Level.flip_ne (l : Level) : Level.flip l ≠ l := by
  cases l <;> decide

/-- R104: carrier periods run in an ACTIVE half-cell under carrier ON. -/
theorem State.carrierOn_iff (h : s.producing = some (x, l)) :
    s.carrierOn = true ↔ l = .active ∧ x.carrier = .on := by
  cases l <;> simp [State.carrierOn, h]

theorem State.exists_producing_of_carrierOn (h : s.carrierOn = true) :
    ∃ x, s.producing = some (x, .active) ∧ x.carrier = .on := by
  unfold State.carrierOn at h
  split at h
  · exact ⟨_, ‹_›, of_decide_eq_true h⟩
  · simp at h

end

/-! ### The coded levels -/

theorem bitValue_preamble {x : Desc} {pos : Nat} (m : Memory) (h : pos < x.preBits) : bitValue x m pos = true :=
  if_pos h

/-- R100: bit j of the body. -/
theorem bitValue_body (x : Desc) (m : Memory) (j : Nat) :
    bitValue x m (x.preBits + j) = (readPayload x.segs m (j / 8)).getLsbD (7 - j % 8) := by
  simp [bitValue]

theorem HalfLevel.flip_ne (l : HalfLevel) : l.flip ≠ l := by
  cases l <;> decide

/-- Settles O38: LOUT by what is produced, and the level of a half-cell by its place in the repetition. -/
theorem waveformLevels : Obligations.WaveformLevels := by
  refine ⟨fun s => ⟨State.lout_inReset, fun running => ⟨fun rest => ?_, fun sound preamble body => ?_,
      fun d sending slot going => ?_⟩⟩, fun w => ?_, fun e x pool => ⟨fun h => ?_, fun j h => ?_⟩, fun bit prev => ?_⟩
  · exact State.lout_of_rest running (State.producing_of_not_sending rest)
  · exact State.lout_of_rest running (sound.producing_eq_none preamble body)
  · have producing := State.producing_of_sending sending slot going
    refine ⟨fun quiet => State.lout_of_quiet running (quiet ▸ producing), fun active => ?_⟩
    rw [State.lout_of_active running (active ▸ producing)]
    refine ⟨fun off => ?_, fun on => ?_⟩
    · rw [if_pos (.inl off)]
      exact Level.flip_ne _
    · by_cases burst : s.enc.carrierPhase < s.prof.active.burst <;> simp [on, burst, Level.flip_ne]
  · refine ⟨fun duty => ?_, fun duty => ?_, fun duty => ?_⟩ <;> simp [Profile.burst, duty]
  · rw [Encoder.level, bitValue_preamble pool h]
  · rw [Encoder.level, h, bitValue_body]
  · cases bit <;> simp [codedLevel, prev.flip_ne]

/-! ### REFCLK cycles -/

/-- R100, R107: the level of the half-cell in hand does not turn on the carrier phase. -/
theorem State.producing_of_phase {s t : State} {phase : Nat} (enc : t.enc = { s.enc with carrierPhase := phase })
    (disp : t.disp = s.disp) (store : t.store = s.store) (prof : t.prof = s.prof) : t.producing = s.producing := by
  simp only [State.producing, State.desc, Encoder.level, enc, disp, store, prof]

/-- R104, R105: one REFCLK cycle moves the carrier phase alone, and only where carrier periods run. -/
theorem State.cycle_enc (s : State) : s.cycle.enc = { s.enc with
    carrierPhase := if s.carrierOn then nextPhase s.prof.active s.enc.carrierPhase else s.enc.carrierPhase } := by
  show (if s.carrierOn then _ else _) = _
  split <;> rfl

theorem State.cycle_carrierOn (s : State) : s.cycle.carrierOn = s.carrierOn := by
  rw [State.carrierOn, State.producing_of_phase s.cycle_enc rfl rfl rfl]
  rfl

theorem nextPhase_eq {p : Profile} {phase : Nat} (h : phase < p.carrierPeriod) :
    nextPhase p phase = (phase + 1) % p.carrierPeriod := by
  unfold nextPhase
  split
  · exact (Nat.mod_eq_of_lt ‹_›).symm
  · rw [show phase + 1 = p.carrierPeriod by omega, Nat.mod_self]

theorem State.cycle_phase_on {s : State} (on : s.carrierOn = true)
    (lt : s.enc.carrierPhase < s.prof.active.carrierPeriod) :
    s.cycle.enc.carrierPhase = (s.enc.carrierPhase + 1) % s.prof.active.carrierPeriod := by
  rw [State.cycle_enc, ← nextPhase_eq lt]
  exact if_pos on

theorem State.cycle_phase_off {s : State} (off : s.carrierOn = false) :
    s.cycle.enc.carrierPhase = s.enc.carrierPhase := by
  simp [State.cycle_enc, off]

/-- R104, R105: REFCLK cycles move the carrier phase alone: it counts them modulo the period where carrier periods run,
and stays where none do. -/
theorem State.cycles_enc (n : Nat) (s : State) : ∃ phase,
    (State.cycles n s).enc = { s.enc with carrierPhase := phase } ∧
    (s.carrierOn = true → s.enc.carrierPhase < s.prof.active.carrierPeriod →
      phase = (s.enc.carrierPhase + n) % s.prof.active.carrierPeriod) ∧
    (s.carrierOn = false → phase = s.enc.carrierPhase) := by
  induction n generalizing s with
  | zero => exact ⟨_, rfl, fun _ lt => (Nat.mod_eq_of_lt lt).symm, fun _ => rfl⟩
  | succ n ih =>
    obtain ⟨phase, enc, on, off⟩ := ih s.cycle
    rw [State.cycle_carrierOn] at on off
    refine ⟨phase, by rw [State.cycles, enc, State.cycle_enc], fun h lt => ?_, fun h => ?_⟩
    · have next := State.cycle_phase_on h lt
      rw [State.cycle_prof, next, Nat.mod_add_mod, Nat.add_assoc, Nat.add_comm 1] at on
      exact on h (Nat.mod_lt _ (Nat.zero_lt_of_lt lt))
    · rw [off h, State.cycle_phase_off h]

/-! ### The end of a burst -/

/-- R104: a burst ends inside its carrier period. -/
theorem Profile.burst_lt {p : Profile} (h : 0 < p.burst) : p.burst < p.carrierPeriod := by
  cases duty : p.duty <;> simp only [Profile.burst, duty] at h ⊢ <;> omega

/-- R104: the row runs the cycles to the end of a burst inside the tick. -/
theorem exec_carrierBurstEnd {s : State} {n : Nat} (running : s.inReset = false) (on : s.carrierOn = true)
    (positive : 0 < n) (ends : s.enc.carrierPhase + n = s.prof.active.burst)
    (inside : n < s.clock.divisor - s.clock.prescale) :
    exec .carrierBurstEnd s = .next (State.cycles n s) := by
  have left : s.prof.active.burst - s.enc.carrierPhase = n := by omega
  show execCarrierBurstEnd s = _
  simp [execCarrierBurstEnd, running, State.burstLeft, State.cyclesLeft, left, on, positive, inside]

/-- Settles O8: the cycles left of the burst bring the carrier phase to the burst time, where LOUT leaves the opposite
level. -/
theorem burstEndsAtIdleLevel : Obligations.BurstEndsAtIdleLevel := by
  intro s n running on positive ends inside
  obtain ⟨x, producing, carrier⟩ := State.exists_producing_of_carrierOn on
  obtain ⟨clock, inReset, lsense, store, sched, disp, prof, ports, pending⟩ := State.cycles_frame n s
  obtain ⟨quietRun, -⟩ := State.cycles_echo n s
  obtain ⟨phase, enc, counted, -⟩ := State.cycles_enc n s
  have short : s.prof.active.burst < s.prof.active.carrierPeriod := Profile.burst_lt (by omega)
  have atBurst : phase = s.prof.active.burst := by
    rw [counted on (by omega), ends, Nat.mod_eq_of_lt short]
  subst atBurst
  have after := (State.producing_of_phase enc disp store prof).trans producing
  refine ⟨_, exec_carrierBurstEnd running on positive ends inside, ?_, ?_, enc, clock, inReset.trans running, lsense,
    fun d => ?_, fun a => ?_, sched, disp, prof, ports, pending, quietRun⟩
  · rw [State.lout_of_active running producing, if_pos (.inr (by omega))]
  · rw [State.lout_of_active (inReset.trans running) after, enc, prof, if_neg (by simp [carrier])]
  · rw [State.desc, store, State.desc]
  · rw [store]

/-! ### Half-cells at a tick boundary -/

theorem Encoder.lastOfBody_iff (e : Encoder) (x : Desc) :
    e.lastOfBody x = true ↔ e.half = .second ∧ e.bitPos + 1 = x.preBits + x.bodyBits := by
  simp [Encoder.lastOfBody, and_comm]

/-- R99: the second half follows the first. -/
theorem Encoder.nextHalf_first {e : Encoder} (h : e.half = .first) :
    e.nextHalf = { e with half := .second, ticks := 0 } := by
  simp [Encoder.nextHalf, h]

/-- R99: the next bit follows the second half. -/
theorem Encoder.nextHalf_second {e : Encoder} (h : e.half = .second) :
    e.nextHalf = { e with half := .first, bitPos := e.bitPos + 1, ticks := 0 } := by
  simp [Encoder.nextHalf, h]

@[simp] theorem Encoder.nextHalf_repetition (e : Encoder) : e.nextHalf.repetition = e.repetition := by
  unfold Encoder.nextHalf
  split <;> rfl
@[simp] theorem Encoder.nextHalf_prevLevel (e : Encoder) : e.nextHalf.prevLevel = e.prevLevel := by
  unfold Encoder.nextHalf
  split <;> rfl
@[simp] theorem Encoder.nextHalf_carrierPhase (e : Encoder) : e.nextHalf.carrierPhase = e.carrierPhase := by
  unfold Encoder.nextHalf
  split <;> rfl
@[simp] theorem Encoder.nextHalf_lastEnd (e : Encoder) : e.nextHalf.lastEnd = e.lastEnd := by
  unfold Encoder.nextHalf
  split <;> rfl

/-- R98: the encoder as its half-cell ends, after so many ticks. -/
def Encoder.ended (e : Encoder) (x : Desc) (m : Memory) (hbt : Nat) (now : Time) : Encoder :=
  { e with ticks := hbt, prevLevel := e.level x m, lastEnd := now }

section

variable {e : Encoder} {x : Desc} {m : Memory} {p : Profile} {abort : Bool} {now : Time}

/-- R98: a half-cell short of its end goes on. -/
theorem Encoder.tickSending_goesOn (short : e.ticks + 1 < p.hbt) :
    e.tickSending x m p abort now = { e with ticks := e.ticks + 1 } :=
  if_pos short

/-- R99, R119: the half-cell stands ended at the end of the body and with an abort pending (log 23). -/
theorem Encoder.tickSending_stands (whole : e.ticks + 1 = p.hbt) (h : abort = true ∨ e.lastOfBody x = true) :
    e.tickSending x m p abort now = { e.ended x m p.hbt now with carrierPhase := 0 } := by
  simp [Encoder.tickSending, whole, Encoder.ended, h]

/-- R99, R105: the next half-cell follows, with the carrier phase counting on between two ACTIVE ones only. -/
theorem Encoder.tickSending_follows (whole : e.ticks + 1 = p.hbt) (going : abort = false)
    (more : ¬ e.lastOfBody x = true) :
    e.tickSending x m p abort now =
      if e.level x m = .active ∧ (e.ended x m p.hbt now).nextHalf.level x m = .active then
        (e.ended x m p.hbt now).nextHalf
      else { (e.ended x m p.hbt now).nextHalf with carrierPhase := 0 } := by
  unfold Encoder.tickSending
  rw [if_neg (by omega), if_pos whole]
  exact if_neg (by simp [going, more])

/-- R98: the end of a half-cell keeps its level and its time. -/
theorem Encoder.tickSending_ends (whole : e.ticks + 1 = p.hbt) :
    (e.tickSending x m p abort now).prevLevel = e.level x m ∧ (e.tickSending x m p abort now).lastEnd = now := by
  by_cases h : abort = true ∨ e.lastOfBody x = true
  · rw [Encoder.tickSending_stands whole h]
    exact ⟨rfl, rfl⟩
  · obtain ⟨going, more⟩ := not_or.1 h
    rw [Encoder.tickSending_follows whole (Bool.eq_false_of_not_eq_true going) more]
    split <;> simp [Encoder.ended]

/-- R99: a first half-cell is not the last of the body, and the second one follows. -/
theorem Encoder.tickSending_first (whole : e.ticks + 1 = p.hbt) (going : abort = false) (first : e.half = .first) :
    (e.tickSending x m p abort now).half = .second ∧ (e.tickSending x m p abort now).bitPos = e.bitPos ∧
      (e.tickSending x m p abort now).ticks = 0 := by
  have more : ¬ e.lastOfBody x = true := by simp [Encoder.lastOfBody_iff, first]
  rw [Encoder.tickSending_follows whole going more, Encoder.nextHalf_first (e := e.ended x m p.hbt now) first]
  split <;> exact ⟨rfl, rfl, rfl⟩

/-- R99: the next bit follows a second half-cell that is not the last of the body. -/
theorem Encoder.tickSending_second (whole : e.ticks + 1 = p.hbt) (going : abort = false) (second : e.half = .second)
    (more : ¬ e.lastOfBody x = true) :
    (e.tickSending x m p abort now).half = .first ∧ (e.tickSending x m p abort now).bitPos = e.bitPos + 1 ∧
      (e.tickSending x m p abort now).ticks = 0 := by
  rw [Encoder.tickSending_follows whole going more, Encoder.nextHalf_second (e := e.ended x m p.hbt now) second]
  split <;> exact ⟨rfl, rfl, rfl⟩

/-- R105: the carrier phase across the boundary of two half-cells. -/
theorem Encoder.tickSending_phase (whole : e.ticks + 1 = p.hbt) (going : abort = false)
    (more : ¬ e.lastOfBody x = true) : (e.tickSending x m p abort now).carrierPhase =
      if e.level x m = .active ∧ (e.tickSending x m p abort now).level x m = .active then e.carrierPhase else 0 := by
  rw [Encoder.tickSending_follows whole going more]
  by_cases run : e.level x m = .active ∧ (e.ended x m p.hbt now).nextHalf.level x m = .active
  · rw [if_pos run, if_pos run, Encoder.nextHalf_carrierPhase]
    rfl
  · rw [if_neg run]
    exact (if_neg run).symm

@[simp] theorem Encoder.tickSending_repetition : (e.tickSending x m p abort now).repetition = e.repetition := by
  simp only [Encoder.tickSending]
  split_ifs <;> simp

end

section

variable {s : State} {d : DescIdx} (slot : s.disp.slot = some d)

include slot

theorem State.tickEncoder_sending (sending : s.enc.activity = .sending) (now : Time) : s.tickEncoder now =
    s.enc.tickSending (s.desc d) s.store.pool s.prof.active s.echo.abortPending now := by
  simp [State.tickEncoder, sending, slot]

theorem State.tickEncoder_gap (gap : s.enc.activity = .gap) (now : Time) :
    s.tickEncoder now = { s.enc with ticks := min (s.enc.ticks + 1) (s.desc d).gap } := by
  simp [State.tickEncoder, gap, slot]

omit slot in
theorem State.tickEncoder_resting (resting : s.enc.activity = .resting) (now : Time) : s.tickEncoder now = s.enc := by
  simp [State.tickEncoder, resting]

/-- R98, R99: a tick boundary stays within its repetition. -/
theorem State.tickEncoder_repetition (now : Time) : (s.tickEncoder now).repetition = s.enc.repetition := by
  cases h : s.enc.activity with
  | resting => rw [State.tickEncoder_resting h]
  | sending => rw [State.tickEncoder_sending slot h, Encoder.tickSending_repetition]
  | gap => rw [State.tickEncoder_gap slot h]

end

/-- The part with the carrier phase at a place. -/
def State.atPhase (s : State) (phase : Nat) : State := { s with enc := { s.enc with carrierPhase := phase } }

/-- R98, R104: a TICK takes the encoder through the REFCLK cycles left, which move the carrier phase, and through the
boundary. -/
theorem State.wholeTick_enc (s : State) : ∃ phase,
    s.wholeTick.enc = (s.atPhase phase).tickEncoder (s.clock.time + 1) ∧
    (s.carrierOn = true → s.enc.carrierPhase < s.prof.active.carrierPeriod →
      phase = (s.enc.carrierPhase + (s.clock.divisor - s.clock.prescale)) % s.prof.active.carrierPeriod) ∧
    (s.carrierOn = false → phase = s.enc.carrierPhase) := by
  obtain ⟨phase, enc, moved⟩ := State.cycles_enc s.cyclesLeft s
  obtain ⟨clock, -, -, store, -, disp, prof, -⟩ := State.cycles_frame s.cyclesLeft s
  obtain ⟨-, -, abort, -⟩ := State.cycles_echo s.cyclesLeft s
  refine ⟨phase, ?_, moved⟩
  show (State.cycles s.cyclesLeft s).tickEncoder ((State.cycles s.cyclesLeft s).clock.time + 1) = _
  simp only [State.tickEncoder, State.atPhase, State.desc, enc, clock, store, disp, prof, abort]

/-- R118: the counted mark is clear at a new bit. -/
theorem State.wholeTick_counted {s : State} (h : s.wholeTick.enc.bitPos ≠ s.enc.bitPos) :
    s.wholeTick.echo.counted = false := by
  obtain ⟨phase, enc, -⟩ := State.cycles_enc s.cyclesLeft s
  have same : (State.cycles s.cyclesLeft s).enc.bitPos = s.enc.bitPos := by rw [enc]
  show (_ && decide (s.wholeTick.enc.bitPos = (State.cycles s.cyclesLeft s).enc.bitPos)) = false
  simp [same, h]

theorem exec_tick {s : State} (running : s.inReset = false) : exec .tick s = .next s.wholeTick := by
  show execTick s = _
  simp [execTick, running]

/-- Settles O5: the cycles left of the tick place the carrier phase, and the boundary acts on the half-cell or gap in
hand. -/
theorem tickDrivesEncoder : Obligations.TickDrivesEncoder := by
  intro s d running slot
  obtain ⟨phase, enc, on, off⟩ := s.wholeTick_enc
  refine ⟨_, exec_tick running, ?_, ?_, fun sending => ?_, fun gap => ?_, fun resting => ?_⟩
  · rw [enc, State.tickEncoder_activity]
    rfl
  · rw [enc, State.tickEncoder_repetition (s := s.atPhase phase) slot]
    rfl
  · intro level last counted
    replace enc := enc.trans (State.tickEncoder_sending (s := s.atPhase phase) slot sending _)
    have carrier (going : s.enc.ticks < s.prof.active.hbt) : s.carrierOn = true ↔ _ :=
      State.carrierOn_iff (State.producing_of_sending sending slot going)
    refine ⟨fun short => ?_, fun whole => ?_⟩
    · rw [enc.trans (Encoder.tickSending_goesOn short)]
      refine ⟨rfl, rfl, rfl, rfl, fun active isOn => on ((carrier (by omega)).2 ⟨active, isOn⟩), fun h => off ?_⟩
      rw [← Bool.not_eq_true, carrier (by omega)]
      rintro ⟨active, isOn⟩
      simp [level, active, isOn] at h
    · have lastOf : (s.atPhase phase).enc.lastOfBody (s.desc d) = true ↔ last := Encoder.lastOfBody_iff _ _
      obtain ⟨prevLevel, lastEnd⟩ : s.wholeTick.enc.prevLevel = level ∧ s.wholeTick.enc.lastEnd = s.clock.time + 1 :=
        enc ▸ Encoder.tickSending_ends whole
      refine ⟨prevLevel, lastEnd, fun going first => enc ▸ Encoder.tickSending_first whole going first,
        fun going second more => ?_, fun going more => ?_, fun stands => ?_⟩
      · obtain ⟨half, bitPos, ticks⟩ : s.wholeTick.enc.half = .first ∧ s.wholeTick.enc.bitPos = s.enc.bitPos + 1 ∧
            s.wholeTick.enc.ticks = 0 := enc ▸ Encoder.tickSending_second whole going second (lastOf.not.2 more)
        exact ⟨half, bitPos, ticks, State.wholeTick_counted (bitPos ▸ Nat.succ_ne_self _)⟩
      · have moved : s.wholeTick.enc.carrierPhase =
            if level = .active ∧ s.wholeTick.enc.level (s.desc d) s.store.pool = .active then phase else 0 :=
          enc ▸ Encoder.tickSending_phase whole going (lastOf.not.2 more)
        refine ⟨fun active next isOn lt => ?_, fun quiet => ?_⟩
        · rw [moved, if_pos ⟨active, next⟩]
          exact on ((carrier (by omega)).2 ⟨active, isOn⟩) lt
        · rw [moved, if_neg]
          rintro ⟨active, next⟩
          simp [active, next] at quiet
      · obtain ⟨-, -, -, prof, -⟩ := s.wholeTick_plan
        have ended := enc.trans (Encoder.tickSending_stands whole (stands.imp_right lastOf.2))
        have activity : s.wholeTick.enc.activity = .sending := by rw [ended]; exact sending
        have ticks : s.wholeTick.enc.ticks = s.prof.active.hbt := by rw [ended]; rfl
        refine ⟨ticks, ?_, ?_, ?_, by simp [State.halfEnded, activity, ticks, prof]⟩ <;> rw [ended] <;> rfl
  · rw [enc, State.tickEncoder_gap (s := s.atPhase phase) slot gap]
    rfl
  · rw [enc, State.tickEncoder_resting (s := s.atPhase phase) resting]
    exact ⟨rfl, rfl⟩

/-! ### The comparison -/

/-- R114: LSENSE is sensed active while a sample at the opposite level lies within the last carrier period. -/
theorem sensedActive_iff (e : EchoMonitor) (p : Profile) :
    sensedActive e p = true ↔ e.sinceOpposite p.idleLevel < p.carrierPeriod := by
  unfold sensedActive EchoMonitor.sinceOpposite
  cases p.idleLevel <;> simp

theorem State.mismatch_iff (s : State) (d : DescIdx) : s.mismatch d = true ↔
    ¬ (s.enc.level (s.desc d) s.store.pool = .active ↔
      s.echo.sinceOpposite s.prof.active.idleLevel < s.prof.active.carrierPeriod) := by
  rw [State.mismatch, bne_iff_ne, ne_eq, Bool.eq_iff_iff, decide_eq_true_iff, sensedActive_iff]

/-- R118, R119: a count moves one record's mismatches and two marks of the Echo Monitor. -/
theorem State.samePart_countMismatch (s : State) (d : DescIdx) :
    s.SamePart { s.countMismatch d with store := s.store, echo := s.echo } :=
  ⟨rfl, rfl, rfl, fun _ => rfl, fun _ => rfl, rfl, rfl, rfl, rfl, rfl, rfl⟩

theorem State.desc_countMismatch (s : State) (d e : DescIdx) : (s.countMismatch d).desc e =
    if e = d then { s.desc d with mismatches := min 65535 ((s.desc d).mismatches + 1) } else s.desc e :=
  s.desc_modDesc d e fun x => { x with mismatches := min 65535 ((s.desc d).mismatches + 1) }

/-- R118: a comparison at the middle of a half-cell counts a mismatch in a bit that has none counted. -/
theorem exec_comparisonEvent {s : State} {d : DescIdx} (comparing : s.comparing = some d) :
    exec .comparisonEvent s = .next (if s.mismatch d && !s.echo.counted then s.countMismatch d else s) := by
  show execComparisonEvent s = _
  unfold execComparisonEvent
  rw [comparing]
  dsimp only
  split <;> rfl

/-- Settles O34: the comparison by whether there is a mismatch to count. -/
theorem comparisonCounts : Obligations.ComparisonCounts := by
  intro s d running slot sending mode boundary middle expected sensed n
  have comparing : s.comparing = some d := by
    simp [State.comparing, running, slot, sending, mode, boundary, middle]
  have mismatch : s.mismatch d = true ↔ ¬ (expected ↔ sensed) := s.mismatch_iff d
  rw [exec_comparisonEvent comparing]
  refine ⟨fun h => ?_, fun differ fresh => ?_⟩
  · rw [if_neg]
    rw [Bool.and_eq_true, mismatch, Bool.not_eq_true']
    rintro ⟨differ, fresh⟩
    exact h.elim differ (by simp [fresh])
  · rw [if_pos (by rw [mismatch.2 differ, fresh]; rfl)]
    refine ⟨_, rfl, ?_, fun e other => ?_, fun a => rfl, rfl, ?_, rfl, s.samePart_countMismatch d, rfl⟩
    · rw [State.desc_countMismatch, if_pos rfl]
    · rw [State.desc_countMismatch, if_neg other]
    · show (s.echo.abortPending || decide _) = true ↔ _
      rw [Bool.or_eq_true, decide_eq_true_iff]
      rfl

end Sys2Proof.Machine
end

section
/-! LEASE_LOW and the end of a pulse on PSTRB (O47). -/

namespace Sys2Proof.Machine

/-- R153: LEASE_LOW is due at one quarter of the period and below. -/
theorem State.leaseLowDue_iff {s : State} {p : Port} {c : LeaseClass} (running : s.inReset = false)
    (session : s.InSession p) (lease : (s.port p).session.lease = some c) :
    s.leaseLowDue p = true ↔ 4 * (s.port p).session.remaining ≤ c.period := by
  have active : s.hasSession p = true := (s.inSession_iff p).1 session
  simp only [State.leaseLowDue, lease, running, active, Bool.not_false, Bool.true_and,
    decide_eq_true_eq]
  unfold LeaseClass.threshold
  omega

theorem exec_leaseLow (s : State) (p : Port) : exec (.leaseLow p) s =
    .next (if s.leaseLowDue p then s.modQueue p fun q => { q with leaseLow := true } else s) := by
  show execLeaseLow p s = _
  unfold execLeaseLow
  split <;> rfl

theorem exec_strobePulseEnd {s : State} (p : Port) (running : s.inReset = false) : exec (.strobePulseEnd p) s =
    .next (if (s.port p).strobe = .ending then s.modPort p fun q => { q with strobe := .low } else s) := by
  show execStrobePulseEnd p s = _
  simp only [execStrobePulseEnd, running, Bool.not_false, true_and]
  split <;> rfl

/-- Settles O47: LEASE_LOW by its threshold, and the pulse by its boundary. -/
theorem leaseLowAndPulseEnd : Obligations.LeaseLowAndPulseEnd := by
  intro p s running
  refine ⟨fun c session lease => ⟨fun above => ?_, fun quarter => ?_⟩, fun ending => ?_, fun other => ?_⟩
  · rw [exec_leaseLow, if_neg]
    rw [State.leaseLowDue_iff running session lease]
    omega
  · rw [exec_leaseLow, if_pos ((State.leaseLowDue_iff running session lease).2 (by omega))]
    refine ⟨_, rfl, s.samePart_modPort p _, s.sameOthers_modPort p _, ?_, ?_⟩
    · refine (State.attention_iff (s := s.modQueue p _) p running).2 (.inr (.inr (.inl ?_)))
      rw [State.port_modQueue, if_pos rfl]
    · rw [State.port_modQueue, if_pos rfl]
  · rw [exec_strobePulseEnd p running, if_pos ending]
    exact ⟨_, rfl, s.samePart_modPort p _, s.sameOthers_modPort p _, by rw [State.port_modPort, if_pos rfl]⟩
  · rw [exec_strobePulseEnd p running, if_neg other]

end Sys2Proof.Machine
end

section
/-! What LSENSE shows: the pin, its samples in the REFCLK cycles of a tick, and the quiet run at the boundary (O6, O7). -/

namespace Sys2Proof.Machine

/-! ### A change of the pin -/

/-- Settles O7: what the REFCLK cycles of the row leave, and the pin. -/
theorem lsenseChangeSetsPin : Obligations.LsenseChangeSetsPin := by
  intro n l s
  refine ⟨fun reset => if_pos reset, fun running => ?_⟩
  obtain ⟨clock, inReset, -, store, sched, disp, prof, ports, pending⟩ :=
    State.cycles_frame (min n (s.cyclesLeft - 1)) s
  obtain ⟨quietRun, counted, abort, streak, holdEnd⟩ := State.cycles_echo (min n (s.cyclesLeft - 1)) s
  obtain ⟨phase, enc, -⟩ := State.cycles_enc (min n (s.cyclesLeft - 1)) s
  have acts : exec (.lsenseChange n l) s =
      .next { State.cycles (min n (s.cyclesLeft - 1)) s with lsense := l } := if_neg (by simp [running])
  refine ⟨_, acts, rfl, clock, inReset.trans running, fun d => ?_, fun a => ?_, sched, disp, prof, ports, pending,
    quietRun, counted, abort, streak, holdEnd, ?_⟩
  · exact congrArg (fun st : FrameStore => st.descs[d]) store
  · exact congrArg (fun st : FrameStore => st.pool.read a) store
  · show { (State.cycles (min n (s.cyclesLeft - 1)) s).enc with carrierPhase := 0 } = _
    rw [enc]

/-! ### One sample -/

section
variable (e : EchoMonitor) (pin : Level) (p : Profile)

/-- R114: the level that leaves the synchroniser restarts the count of the samples since the opposite level, or adds to
it. -/
theorem EchoMonitor.sinceOpposite_sample (idle : Level) : (e.sample pin p).sinceOpposite idle =
    if e.sync2 = idle then min 1023 (e.sinceOpposite idle + 1) else 0 := by
  cases idle <;> cases h : e.sync2 <;> simp [EchoMonitor.sample, EchoMonitor.sinceOpposite, h, Config.windowMax]

/-- R114: a tick is quiet so far while none of its samples senses LSENSE active. -/
theorem EchoMonitor.tickQuiet_sample : (e.sample pin p).tickQuiet = true ↔
    e.tickQuiet = true ∧ p.carrierPeriod ≤ (e.sample pin p).sinceOpposite p.idleLevel := by
  have sensed := sensedActive_iff (e.sample pin p) p
  rw [← Nat.not_lt, ← sensed, Bool.not_eq_true, ← Bool.not_eq_true', ← Bool.and_eq_true]
  rfl

end

/-! ### The cycles of a tick -/

theorem State.cycles_add (k n : Nat) (s : State) : State.cycles (k + n) s = State.cycles n (State.cycles k s) := by
  induction k generalizing s with
  | zero => rw [Nat.zero_add]; rfl
  | succ k ih => rw [Nat.succ_add]; exact ih s.cycle

/-- R114: the sample of the next REFCLK cycle senses LSENSE active. -/
def State.SensesNext (s : State) : Prop :=
  s.echo.sinceOpposite s.prof.active.idleLevel + 1 < s.prof.active.carrierPeriod ∨
    (s.echo.sync2 ≠ s.prof.active.idleLevel ∧ 1 ≤ s.prof.active.carrierPeriod)

theorem State.SensesNext.cycle {s : State} (h : s.SensesNext) : s.cycle.echo.tickQuiet = false := by
  rw [← Bool.not_eq_true]
  intro quiet
  have window := ((s.echo.tickQuiet_sample s.lsense s.prof.active).1 quiet).2
  rw [EchoMonitor.sinceOpposite_sample] at window
  rcases h with recent | ⟨opposite, period⟩
  · split at window <;> omega
  · rw [if_neg opposite] at window
    omega

/-- R114: a tick in which LSENSE was sensed active stays so. -/
theorem State.cycles_tickQuiet_false (n : Nat) {s : State} (h : s.echo.tickQuiet = false) :
    (State.cycles n s).echo.tickQuiet = false := by
  induction n generalizing s with
  | zero => exact h
  | succ n ih =>
    refine ih (Bool.eq_false_of_not_eq_true fun quiet => ?_)
    have before := ((s.echo.tickQuiet_sample s.lsense s.prof.active).1 quiet).1
    exact Bool.false_ne_true (h.symm.trans before)

/-- R114: no trace of the opposite level, from the pin to the oldest sample of the window; the window holds no more than
its saturating count can tell. -/
structure State.HeldIdle (s : State) : Prop where
  quiet : s.echo.tickQuiet = true
  pin : s.lsense = s.prof.active.idleLevel
  sync1 : s.echo.sync1 = s.prof.active.idleLevel
  sync2 : s.echo.sync2 = s.prof.active.idleLevel
  fits : s.prof.active.carrierPeriod ≤ 1023
  window : s.prof.active.carrierPeriod ≤ s.echo.sinceOpposite s.prof.active.idleLevel + 1

theorem State.HeldIdle.cycle {s : State} (h : s.HeldIdle) : s.cycle.HeldIdle := by
  have since : s.cycle.echo.sinceOpposite s.prof.active.idleLevel =
      min 1023 (s.echo.sinceOpposite s.prof.active.idleLevel + 1) :=
    (s.echo.sinceOpposite_sample s.lsense s.prof.active _).trans (if_pos h.sync2)
  have fits := h.fits
  have window := h.window
  refine ⟨(s.echo.tickQuiet_sample s.lsense s.prof.active).2 ⟨h.quiet, ?_⟩, h.pin, h.pin, h.sync1, fits, ?_⟩
  · exact since ▸ le_min fits window
  · rw [State.cycle_prof, since]
    omega

theorem State.HeldIdle.cycles (n : Nat) {s : State} (h : s.HeldIdle) : (State.cycles n s).HeldIdle := by
  induction n generalizing s with
  | zero => exact h
  | succ n ih => exact ih h.cycle

/-! ### The quiet run at the boundary -/

/-- R114: a quiet tick raises the quiet run, and any other makes it 0. -/
theorem State.wholeTick_quietRun (s : State) : s.wholeTick.echo.quietRun =
    if (State.cycles s.cyclesLeft s).echo.tickQuiet then min 255 (s.echo.quietRun + 1) else 0 := by
  rw [← (State.cycles_echo s.cyclesLeft s).1]
  rfl

theorem State.wholeTick_quietRun_active {s : State} (h : (State.cycles s.cyclesLeft s).echo.tickQuiet = false) :
    s.wholeTick.echo.quietRun = 0 := by
  rw [State.wholeTick_quietRun, h]
  rfl

/-- R114: LSENSE is sensed active k cycles on, inside the tick. -/
theorem State.wholeTick_quietRun_sensed (k : Nat) {s : State} (inside : s.clock.prescale + (k + 1) ≤ s.clock.divisor)
    (h : (State.cycles k s).SensesNext) : s.wholeTick.echo.quietRun = 0 := by
  have left : s.cyclesLeft = k + ((s.cyclesLeft - (k + 1)) + 1) := by
    rw [State.cyclesLeft]
    omega
  apply State.wholeTick_quietRun_active
  rw [left, State.cycles_add]
  exact State.cycles_tickQuiet_false (s.cyclesLeft - (k + 1)) h.cycle

/-- Settles O6: the pin held idle through the tick, or the cycle in which what stands in the synchroniser or at the pin
comes out as a sample. -/
theorem tickCountsQuiet : Obligations.TickCountsQuiet := by
  intro s running
  refine ⟨_, exec_tick running, rfl, fun quiet pin sync1 sync2 fits window => ?_, fun loud => ?_,
    fun inside active => ?_, fun inside active period => ?_, fun inside active period => ?_⟩
  · have held : s.HeldIdle := ⟨quiet, pin, sync1, sync2, fits, window⟩
    rw [State.wholeTick_quietRun, if_pos (held.cycles s.cyclesLeft).quiet]
  · exact State.wholeTick_quietRun_active (State.cycles_tickQuiet_false _ loud)
  · exact State.wholeTick_quietRun_sensed 0 inside active
  · exact State.wholeTick_quietRun_sensed 1 inside (.inr ⟨active, period⟩)
  · exact State.wholeTick_quietRun_sensed 2 inside (.inr ⟨active, period⟩)

end Sys2Proof.Machine
end

section
/-! Line faults: the echo stop, the fault entry, and the return from FAULT (O35, O36, O37). -/

namespace Sys2Proof.Machine

/-! ### The fault entry -/

/-- R121: below the streak limit a line that is up goes to FAULT with a hold. -/
theorem State.faultEntry_fault {s : State} (line : s.disp.line = .idle ∨ s.disp.line = .busy)
    (below : s.echo.streak < 3) (cause : Cause) : s.faultEntry cause = s.flagged
      { s.disp with line := .fault, phase := none, cause := cause } s.enc
      { s.echo with streak := s.echo.streak + 1, holdEnd := plus s.clock.time s.prof.active.faultHold } := by
  have up : s.disp.line ≠ .draining := by rcases line with e | e <;> simp [e]
  have changes : LineState.fault.condition ≠ s.disp.line.condition := by
    rcases line with e | e <;> simp [e, LineState.condition]
  rw [State.faultEntry, if_neg up, if_pos (show s.echo.streak < Config.streakLimit from below),
    State.moveLine_changed s .fault cause changes]
  rfl

/-- R121, R89: at the streak limit the line goes to DISABLED. -/
theorem State.faultEntry_limit {s : State} (up : s.disp.line ≠ .draining) (limit : 3 ≤ s.echo.streak)
    (cause : Cause) : s.faultEntry cause = s.enterDisabled .faultLimit := by
  rw [State.faultEntry, if_neg up]
  exact if_neg (Nat.not_lt.2 limit)

/-- Settles O36: the fault entry by the line state and the streak. -/
theorem faultEntryActs : Obligations.FaultEntryActs := by
  intro s cause _ off
  refine ⟨fun draining => ?_, fun line => ⟨fun below => ?_, fun limit => ?_⟩⟩
  · exact (if_pos draining).trans (s.enterDisabled_eq cause (by simp [draining]))
  · exact State.faultEntry_fault line (Nat.lt_succ_of_le below) cause
  · have up : s.disp.line ≠ .draining := by rcases line with e | e <;> simp [e]
    have on : s.disp.line ≠ .disabled := by rcases line with e | e <;> simp [e]
    exact (State.faultEntry_limit up limit.ge cause).trans (s.enterDisabled_eq .faultLimit on)

/-! ### The echo stop -/

section
variable {s : State} {d : DescIdx}

/-- R39, R117, R120: an orphan on the line stops before the fault entry, with no entry and no pulse. -/
theorem State.echoAbort_orphan (live : (s.desc d).live = true) (orphan : (s.desc d).owner = none)
    (alone : (s.desc d).successor = none) (n : Nat) (why : AbortDetail) (cause : Cause) :
    ∃ u, (s.counted d n).echoAbort d why cause = u.faultEntry cause ∧
      State.Retired { s with
        disp := { s.disp with phase := none, slot := none }
        enc := { s.enc with activity := .resting }
        echo := if why = .echo then { s.echo with abortPending := false, counted := false } else s.echo } u [d] ∧
      u.ports = s.ports := by
  have record := (s.desc_counted d n d).trans (if_pos rfl)
  have live' : ((s.counted d n).restEncoder.desc d).live = true := (congrArg Desc.live record).trans live
  have orphan' : ((s.counted d n).restEncoder.desc d).owner = none := (congrArg Desc.owner record).trans orphan
  have alone' : ((s.counted d n).restEncoder.desc d).successor = none :=
    (congrArg Desc.successor record).trans alone
  have retired := State.retireNow_alone live' alone' (.aborted why) s.enc.lastEnd none
  have silent := State.retireNow_orphan_ports live' orphan' alone' (.aborted why) s.enc.lastEnd
  generalize hv : (s.counted d n).restEncoder.retireNow d (.aborted why) s.enc.lastEnd none = v at retired silent
  have stops : (s.counted d n).echoAbort d why cause = State.faultEntry { v with
      disp := { v.disp with phase := none, slot := none }
      echo := if why = .echo then { v.echo with abortPending := false, counted := false } else v.echo } cause := by
    rw [← hv]
    unfold State.echoAbort
    dsimp only
    rw [record, orphan]
    rfl
  refine ⟨_, stops, ?_, silent⟩
  have line := retired.line List.mem_cons_self (disp' := { s.disp with phase := none, slot := none }) rfl
    { s.enc with activity := .resting }
    (if why = .echo then { s.echo with abortPending := false, counted := false } else s.echo) v.ports
  have disp : { v.disp with phase := none, slot := none } = { s.disp with phase := none, slot := none } := by
    rw [retired.slot]
    split <;> rfl
  have enc : v.enc = { s.enc with activity := .resting } := retired.enc
  have echo : v.echo = s.echo := retired.echo
  dsimp only
  rw [disp, enc, echo]
  exact line

/-- R119, R120: at the end of the half-cell with an abort pending the frame on the line stops. -/
theorem exec_echoStop (running : s.inReset = false) (slot : s.disp.slot = some d) (sending : s.enc.activity = .sending)
    (produced : s.prof.active.hbt ≤ s.enc.ticks) (pending : s.echo.abortPending = true) :
    exec .echoStop s = .next (s.echoStopped d) := by
  have due : s.stopDue = some d := by simp [State.stopDue, slot, running, State.halfEnded, sending, produced, pending]
  show execEchoStop s = _
  rw [execEchoStop, due]

/-- R120: a repetition whose last half-cell was produced counts, and no other. -/
theorem State.echoStopped_eq {sent : Nat} (counts : s.enc.lastOfBody (s.desc d) = true → sent = (s.desc d).repsSent + 1)
    (short : ¬ s.enc.lastOfBody (s.desc d) = true → sent = (s.desc d).repsSent) :
    s.echoStopped d = (s.counted d sent).echoAbort d .echo .echo := by
  unfold State.echoStopped
  by_cases last : s.enc.lastOfBody (s.desc d) = true
  · rw [if_pos last, counts last]
    rfl
  · rw [if_neg last, short last, s.counted_self d]

end

/-- Settles O35: the repetitions that count, and the retirement of an owned frame with its chain or of an orphan. -/
theorem echoStopAborts : Obligations.EchoStopAborts := by
  intro s d running slot sending produced pending stopped
  have stops := exec_echoStop running slot sending produced pending
  refine ⟨fun p cs chain sent counts short => ?_, fun live orphan alone => ?_⟩
  · rw [← Encoder.lastOfBody_iff] at counts short
    rw [State.echoStopped_eq counts short] at stops
    obtain ⟨u, aborts, retired, others, port⟩ := State.echoAbort_chain chain sent .echo .echo
    exact ⟨u, by rw [stops, aborts], retired, others, port⟩
  · have sent : s.echoStopped d = _ := State.echoStopped_eq
      (sent := if s.enc.lastOfBody (s.desc d) = true then _ else _) (if_pos ·) (if_neg ·)
    rw [sent] at stops
    obtain ⟨u, aborts, retired, ports⟩ := State.echoAbort_orphan live orphan alone _ .echo .echo
    exact ⟨u, by rw [stops, aborts], retired, ports⟩

/-! ### The return from FAULT -/

section
variable {s : State}

/-- R122, R124: the quiet run that suffices, as the statements count it. -/
theorem State.quietEnough_iff : s.quietEnough = true ↔ max s.prof.active.quiet 1 ≤ s.echo.quietRun :=
  decide_eq_true_iff

/-- R122: the hold end acts in FAULT once it is reached, by the quiet run. -/
theorem exec_holdEnd (running : s.inReset = false) (fault : s.disp.line = .fault)
    (due : reached s.echo.holdEnd s.clock.time = true) : exec .holdEnd s =
      .next (if s.quietEnough then (s.moveLine .idle .holdEnd).startDecision else s.restartHold) := by
  have ended : s.holdEnded = true := by simp [State.holdEnded, running, fault, State.now, due]
  show execHoldEnd s = _
  rw [execHoldEnd, if_pos ended]
  split <;> rfl

/-- R122: outside FAULT no hold ends. -/
theorem exec_holdEnd_of_not_fault (line : s.disp.line ≠ .fault) : exec .holdEnd s = .next s := by
  have rest : s.holdEnded = false := by simp [State.holdEnded, line]
  show execHoldEnd s = _
  rw [execHoldEnd, rest]
  rfl

/-- R124: what a RECOVER that passes the holder's checks does. -/
theorem State.doRecover_passes {p : Port} {fields : List Byte} (tag : Byte)
    (passes : s.holderRefusal p fields = none) : State.doRecover p tag fields s =
      if s.disp.line ≠ .fault then s.reply p Config.codeRecover tag .wrongState
      else if !s.quietEnough then s.reply p Config.codeRecover tag .senseActive
      else (s.moveLine .idle .recovered).startDecision.reply p Config.codeRecover tag .ok := by
  simp only [State.doRecover, passes]

/-- R124, R151: a taken request's command finds the quiet run and its limit as they were. -/
theorem State.quietEnough_taken (s : State) (p : Port) (code tag : Byte) (fields : List Byte) :
    (s.taken p code tag fields).quietEnough = s.quietEnough := by
  rw [State.taken_eq]
  rfl

/-- R71: a move from FAULT to IDLE changes the condition. -/
theorem State.moveLine_idle_of_fault (fault : s.disp.line = .fault) (cause : Cause) :
    s.moveLine .idle cause = s.flagged { s.disp with line := .idle, cause := cause } s.enc s.echo :=
  s.moveLine_flagged .idle cause (by rw [fault]; decide)

end

/-- Settles O37: HOLD_END by the line and the quiet run, and RECOVER by its checks in their order. -/
theorem faultReturns : Obligations.FaultReturns := by
  refine ⟨fun s running fault due => ?_, fun s line => exec_holdEnd_of_not_fault line, fun p tag fields s h => ?_⟩
  · rw [exec_holdEnd running fault due, ← State.quietEnough_iff, ← Nat.not_le, ← State.quietEnough_iff]
    refine ⟨fun quiet => ?_, fun loud => ?_⟩
    · rw [if_pos quiet, State.moveLine_idle_of_fault fault]
      rfl
    · rw [if_neg loud]
      rfl
  refine ⟨State.holderChecked_of_refusal h (act := State.doRecover p tag fields) rfl fun t r hr => ?_,
    fun session hf holder => ?_⟩
  · simp only [State.doRecover, hr]
    rfl
  have passes := (s.holderRefusal_taken p Config.codeRecover tag fields).trans
    (State.holderRefusal_none session hf holder)
  obtain ⟨disp, enc, echo⟩ := s.taken_line p Config.codeRecover tag fields
  have acts := State.doRecover_passes tag passes
  rw [disp, State.quietEnough_taken] at acts
  rw [← Nat.not_le, ← State.quietEnough_iff]
  refine ⟨fun line => ?_, fun fault loud => ?_, fun fault quiet => ?_⟩
  · exact s.replies_of_reply _ p Config.codeRecover tag fields _ _ _ h rfl (acts.trans (if_pos line))
  · refine s.replies_of_reply _ p Config.codeRecover tag fields _ _ _ h rfl (acts.trans ?_)
    rw [if_neg (not_not_intro fault), if_pos (by simpa using loud)]
  · rw [if_neg (not_not_intro fault), if_neg (by simpa using quiet),
      State.moveLine_idle_of_fault (disp ▸ fault), disp, enc, echo] at acts
    obtain ⟨part, others⟩ := s.flagged_taken p Config.codeRecover tag fields
      { s.disp with line := .idle, cause := .recovered } s.enc s.echo
    have own := s.flagged_taken_own p Config.codeRecover tag fields h
      { s.disp with line := .idle, cause := .recovered } s.enc s.echo []
    rw [PortState.withEntries_nil, PortState.withEntries_nil] at own
    exact ⟨_, congrArg Host.Outcome.next ((s.request_taken p Config.codeRecover tag fields _ h).trans acts), rfl,
      part _, others, own⟩

end Sys2Proof.Machine
end

section
/-! The claim, the staged profile and the profile's values stay sound (O54): one rule for each operation over the ports, the
frames and the line. -/

namespace Sys2Proof.Machine

/-! ### What keeps the claim sound -/

/-- What every step does with the Profile Unit and the holder's session. -/
def State.KeepsProfile (s t : State) : Prop := s.ProfileSound → t.ProfileSound

theorem State.KeepsProfile.refl (s : State) : s.KeepsProfile s := id

theorem State.KeepsProfile.trans {s t u : State} (h : s.KeepsProfile t) (k : t.KeepsProfile u) : s.KeepsProfile u := k ∘ h

/-- R127, R134: a change that leaves the Profile Unit, and the holder's session OPEN. -/
theorem State.KeepsProfile.of_holder {s t : State} (prof : t.prof = s.prof)
    (opened : ∀ p, s.prof.holder = some p → (s.port p).session.state = .opened → (t.port p).session.state = .opened) :
    s.KeepsProfile t := fun h => by
  refine ⟨fun p hp => ?_, prof ▸ h.present, prof ▸ h.active, prof ▸ h.staged⟩
  rw [prof] at hp
  exact opened p hp (h.opened p hp)

/-- A change that reaches neither the Profile Unit nor a port. -/
theorem State.KeepsProfile.of_eq {s t : State} (h : (t.prof, t.ports) = (s.prof, s.ports)) : s.KeepsProfile t := by
  simp only [Prod.mk.injEq] at h
  obtain ⟨prof, ports⟩ := h
  exact .of_holder prof fun p _ opened => by rwa [State.port, ports]

/-! ### Updates of a port -/

/-- R134: a change of one port, which leaves its session OPEN if it is the holder's. -/
theorem State.keepsProfile_modPort (s : State) (p : Port) (f : PortState → PortState)
    (hf : s.prof.holder = some p → (s.port p).session.state = .opened → (f (s.port p)).session.state = .opened) :
    s.KeepsProfile (s.modPort p f) :=
  .of_holder rfl fun q holder opened => by
    rw [State.port_modPort]
    split
    · next hq =>
      subst hq
      exact hf holder opened
    · exact opened

theorem State.keepsProfile_modQueue (s : State) (p : Port) (f : EventQueue → EventQueue) : s.KeepsProfile (s.modQueue p f) :=
  s.keepsProfile_modPort p _ fun _ => id

theorem State.keepsProfile_modLink (s : State) (p : Port) (f : Link → Link) : s.KeepsProfile (s.modLink p f) :=
  s.keepsProfile_modPort p _ fun _ => id

theorem State.keepsProfile_place (s : State) (p : Port) (e : Entry) : s.KeepsProfile (s.place p e) :=
  s.keepsProfile_modQueue p _

theorem State.keepsProfile_reply (s : State) {p : Port} {code tag : Byte} {r : ResultCode} {data : ReplyData} :
    s.KeepsProfile (s.reply p code tag r data) :=
  s.keepsProfile_place p _

/-- A command that acts and then answers. -/
theorem State.KeepsProfile.reply {s t : State} (h : s.KeepsProfile t) {p : Port} {code tag : Byte} {r : ResultCode}
    {data : ReplyData} : s.KeepsProfile (t.reply p code tag r data) :=
  h.trans t.keepsProfile_reply

/-- A check of a command: the REPLY that refuses it, or what follows where the check passes. -/
theorem State.KeepsProfile.check {s t : State} {c : Prop} [Decidable c] {p : Port} {code tag : Byte} {r : ResultCode}
    {data : ReplyData} (h : ¬ c → s.KeepsProfile t) : s.KeepsProfile (if c then s.reply p code tag r data else t) := by
  split
  · exact s.keepsProfile_reply
  · next hc => exact h hc

/-- R134, R158: a session that completes is CLOSING, so not the holder's. -/
theorem State.keepsProfile_complete (s : State) (p : Port) : s.KeepsProfile (s.complete p) := by
  rcases s.complete_cases p with ⟨-, e⟩ | ⟨closing, -, e⟩ <;> rw [e]
  · exact .refl s
  · exact s.keepsProfile_modPort p _ fun _ opened => by simp [closing] at opened

/-- R151: a renewal leaves the session's state. -/
theorem State.keepsProfile_renew (s : State) (p : Port) : s.KeepsProfile (s.renew p) := by
  rw [State.renew_eq]
  exact s.keepsProfile_modPort p _ fun _ opened => (s.port p).renewed_keeps.1.trans opened

/-- R134: the staged profile goes with the claim. -/
theorem State.keepsProfile_releaseClaim (s : State) (p : Port) : s.KeepsProfile (s.releaseClaim p) := fun h => by
  rw [State.releaseClaim_eq, State.profReleased]
  split
  · exact ⟨fun _ => nofun, rfl, h.active, fun _ => nofun⟩
  · exact ⟨h.opened, h.present, h.active, h.staged⟩

theorem State.releaseClaim_holder (s : State) (p : Port) : (s.releaseClaim p).prof.holder ≠ some p := by
  rw [State.releaseClaim_prof, State.profReleased]
  split
  · exact nofun
  · next h => exact h

/-! ### Retirement -/

/-- A record is no part of the claim. -/
theorem State.keepsProfile_modDesc (s : State) (d : DescIdx) (f : Desc → Desc) : s.KeepsProfile (s.modDesc d f) := .of_eq rfl

/-- R34: a retirement, with the chain that follows it, places entries and completes CLOSING sessions. -/
theorem State.keepsProfile_retire (fuel : Nat) (d : DescIdx) (o : FrameOutcome) (stop : Time) (defer : Option Port)
    (s : State) : s.KeepsProfile (State.retire fuel d o stop defer s) := by
  have announced (s : State) (d : DescIdx) (o : FrameOutcome) : s.KeepsProfile (s.announce d o stop) := by
    unfold State.announce
    split
    · exact s.keepsProfile_place _ _
    · exact .refl s
  have cleared (t : State) (d : DescIdx) : t.KeepsProfile (t.unlink d) := .of_eq rfl
  have concluded (t : State) (owner : Option Port) : t.KeepsProfile (t.conclude owner defer) := by
    unfold State.conclude
    split
    · split
      · exact .refl t
      · exact t.keepsProfile_complete _
    · exact .refl t
  have vacated (t : State) (d : DescIdx) : t.KeepsProfile (t.vacate d) :=
    .of_holder ((t.keepsLine_leave d).trans (State.keepsLine_setDesc _ d _)).prof fun p _ opened => by
      rwa [State.vacate_port]
  induction fuel generalizing d o s with
  | zero => exact .refl s
  | succ fuel ih =>
    have followed (u : State) : u.KeepsProfile (State.followChain fuel d o stop defer u) := by
      unfold State.followChain
      split
      · exact .refl u
      · split
        · split
          · split
            · exact .of_eq rfl
            · exact (u.keepsProfile_modDesc _ _).trans (ih _ _ _)
          · exact ih _ _ _
        · exact .refl u
    cases hl : (s.desc d).live with
    | false => rw [s.retire_of_not_live _ d o stop defer hl]; exact .refl s
    | true =>
      rw [s.retire_succ fuel d o stop defer hl]
      exact ((((announced s d o).trans (cleared _ d)).trans (followed _)).trans (vacated _ d)).trans (concluded _ _)

theorem State.keepsProfile_retireNow (s : State) (d : DescIdx) (o : FrameOutcome) (stop : Time) (defer : Option Port) :
    s.KeepsProfile (s.retireNow d o stop defer) :=
  State.keepsProfile_retire chainFuel d o stop defer s

/-- R159: the purge walk is a run of retirements, and leaves the Profile Unit. -/
theorem State.keepsProfile_purgeWalk (s : State) (p : Port) :
    s.KeepsProfile (s.purgeWalk p) ∧ (s.purgeWalk p).prof = s.prof := by
  have one (t : State) (d : DescIdx) : t.KeepsProfile (State.purgeOne p t d) ∧ (State.purgeOne p t d).prof = t.prof := by
    unfold State.purgeOne
    split
    · exact ⟨t.keepsProfile_retireNow _ _ _ _, (t.keepsLine_retireNow _ _ _ _).prof⟩
    · exact ⟨.refl t, rfl⟩
  unfold State.purgeWalk
  generalize s.admittedOf p ++ s.unadmittedOf p = l
  induction l generalizing s with
  | nil => exact ⟨.refl s, rfl⟩
  | cons d l ih => exact ⟨(one s d).1.trans (ih _).1, (ih _).2.trans (one s d).2⟩

/-- R18: the truncate mark stands in a record. -/
theorem State.keepsProfile_markOnLine (s : State) (p : Port) : s.KeepsProfile (s.markOnLine p) := by
  obtain ⟨ds, e⟩ := s.markOnLine_eq p
  exact .of_eq (e ▸ rfl)

/-! ### The line -/

/-- R71: a condition change flags the ports, and leaves their sessions. -/
theorem State.keepsProfile_moveLine (s : State) (l : LineState) (cause : Cause) : s.KeepsProfile (s.moveLine l cause) := by
  rcases s.moveLine_cases l cause with ⟨-, e⟩ | ⟨-, e⟩ <;> rw [e]
  · exact .of_eq rfl
  · refine .of_holder rfl fun p _ opened => ?_
    rw [State.port, Ports.get_map, PortState.lineFlagged]
    split <;> exact opened

theorem State.keepsProfile_enterDisabled (s : State) (cause : Cause) : s.KeepsProfile (s.enterDisabled cause) :=
  (s.keepsProfile_moveLine .disabled cause).trans (.of_eq rfl)

theorem State.keepsProfile_faultEntry (s : State) (cause : Cause) : s.KeepsProfile (s.faultEntry cause) := by
  unfold State.faultEntry
  split
  · exact s.keepsProfile_enterDisabled cause
  · split
    · exact (s.keepsProfile_moveLine .fault cause).trans (.of_eq rfl)
    · exact s.keepsProfile_enterDisabled .faultLimit

theorem State.keepsProfile_strobeFor (s : State) (owner : Option Port) (asked : Bool) :
    s.KeepsProfile (s.strobeFor owner asked) := by
  unfold State.strobeFor
  split
  · split
    · exact s.keepsProfile_modPort _ _ fun _ => id
    · exact .refl s
  · exact .refl s

/-! ### Start decisions -/

theorem State.keepsProfile_attempt (s : State) (d : DescIdx) (l : List DescIdx) : s.KeepsProfile (s.attempt d l) := by
  have bumped : s.KeepsProfile (s.bump l) :=
    .of_eq (Prod.ext (State.keepsBase_bump l s).prof (s.bump_frame l).2.2.2)
  have started (t : State) : t.KeepsProfile (t.goOnLine d) := by
    have taken : t.KeepsProfile ((t.keepScheduled fun e => decide (e ≠ d)).setDesc d
        { t.desc d with state := .onLine, actualStart := some t.now, repsSent := 0, mismatches := 0 }) := .of_eq rfl
    unfold State.goOnLine
    refine State.KeepsProfile.trans ?_ (State.keepsProfile_strobeFor _ _ _)
    exact (taken.trans (State.keepsProfile_moveLine _ .busy _)).trans (.of_eq rfl)
  unfold State.attempt
  split
  · exact bumped.trans (started _)
  · exact s.keepsProfile_faultEntry .blocked

theorem State.keepsProfile_asapFirstFit (s : State) : s.KeepsProfile s.asapFirstFit := by
  unfold State.asapFirstFit
  split
  · exact s.keepsProfile_attempt _ _
  · exact .refl s

/-- R77, R78: a dispatch decision event. -/
theorem State.keepsProfile_startDecision (s : State) : s.KeepsProfile s.startDecision := by
  have loop (fuel : Nat) (s : State) : s.KeepsProfile (State.decideLoop fuel s) := by
    induction fuel generalizing s with
    | zero => exact .refl s
    | succ fuel ih =>
      simp only [State.decideLoop]
      split
      · exact s.keepsProfile_asapFirstFit
      · split
        · exact s.keepsProfile_asapFirstFit
        · split
          · exact s.keepsProfile_attempt _ _
          · split
            · split
              · exact s.keepsProfile_attempt _ _
              · exact (s.keepsProfile_retireNow _ _ _ _).trans (ih _)
            · exact s.keepsProfile_asapFirstFit
  unfold State.startDecision
  split
  · exact loop _ s
  · exact .refl s

/-- An event or a command that ends with a start decision. -/
theorem State.KeepsProfile.decide {s t : State} (h : s.KeepsProfile t) : s.KeepsProfile t.startDecision :=
  h.trans t.keepsProfile_startDecision

theorem State.KeepsProfile.decideIfLeft {s t : State} (h : s.KeepsProfile t) (u : State) :
    s.KeepsProfile (t.decideIfLeft u) := by
  unfold State.decideIfLeft
  split
  · exact h.decide
  · exact h

theorem State.KeepsProfile.decideIfPurged {s t : State} (h : s.KeepsProfile t) (u : State) :
    s.KeepsProfile (t.decideIfPurged u) := by
  unfold State.decideIfPurged
  split
  · exact h.decide
  · exact h

/-! ### Frame ends -/

theorem State.keepsProfile_frameEnd (s : State) (d : DescIdx) : s.KeepsProfile (s.frameEnd d) := by
  have streak (t : State) (o : FrameOutcome) : t.KeepsProfile (t.clearStreak o) := by
    unfold State.clearStreak
    split
    · exact .of_eq rfl
    · exact .refl t
  unfold State.frameEnd
  refine State.KeepsProfile.trans ?_ (State.keepsProfile_strobeFor _ _ _)
  refine State.KeepsProfile.trans ?_ (streak _ _)
  refine State.KeepsProfile.trans ?_ (State.keepsProfile_retireNow _ _ _ _ _)
  exact .of_eq rfl

theorem State.keepsProfile_echoAbort (s : State) (d : DescIdx) (why : AbortDetail) (cause : Cause) :
    s.KeepsProfile (s.echoAbort d why cause) := by
  have marks (t : State) : t.KeepsProfile { t with
      disp := { t.disp with phase := none, slot := none }
      echo := if why = .echo then { t.echo with abortPending := false, counted := false } else t.echo } := .of_eq rfl
  unfold State.echoAbort
  refine State.KeepsProfile.trans ?_ (State.keepsProfile_faultEntry _ cause)
  refine State.KeepsProfile.trans ?_ (marks _)
  refine State.KeepsProfile.trans ?_ (State.keepsProfile_strobeFor _ _ _)
  refine State.KeepsProfile.trans ?_ (State.keepsProfile_retireNow _ _ _ _ _)
  exact .of_eq rfl

theorem State.keepsProfile_laterRepetition (s : State) (d : DescIdx) : s.KeepsProfile (s.laterRepetition d) := by
  unfold State.laterRepetition
  split
  · exact .of_eq rfl
  · exact s.keepsProfile_echoAbort d .blocked .blocked

theorem State.keepsProfile_endBody (s : State) (d : DescIdx) : s.KeepsProfile (s.endBody d) := by
  unfold State.endBody
  refine (s.keepsProfile_modDesc d fun x => { x with repsSent := x.repsSent + 1 }).trans ?_
  dsimp only
  split
  · split
    · exact State.keepsProfile_laterRepetition _ d
    · exact .of_eq rfl
  · exact State.keepsProfile_frameEnd _ d

theorem State.keepsProfile_echoStopped (s : State) (d : DescIdx) : s.KeepsProfile (s.echoStopped d) := by
  unfold State.echoStopped
  refine State.KeepsProfile.trans ?_ (State.keepsProfile_echoAbort _ d .echo .echo)
  split
  · exact .of_eq rfl
  · exact .refl s

/-! ### The clock -/

/-- R1: REFCLK cycles reach neither the Profile Unit nor a port. -/
theorem State.keepsProfile_cycles (s : State) (n : Nat) : s.KeepsProfile (State.cycles n s) := by
  obtain ⟨-, -, -, -, -, -, prof, ports, -⟩ := State.cycles_frame n s
  exact .of_eq (by rw [prof, ports])

/-- R153: at a tick boundary the leases count down, and no session's state changes. -/
theorem State.keepsProfile_wholeTick (s : State) : s.KeepsProfile s.wholeTick := by
  refine (s.keepsProfile_cycles s.cyclesLeft).trans (.of_holder rfl fun p _ opened => ?_)
  rw [State.wholeTick, State.port_boundary, PortState.tick_session]
  split <;> exact opened

end Sys2Proof.Machine
end

section
/-! The claim, the staged profile and the profile's values stay sound (O54), continued: requests, the commands and the rows
of the table. -/

namespace Sys2Proof.Machine

/-! ### Requests -/

theorem State.keepsProfile_begun (s : State) (p : Port) (goesOn : Bool) : s.KeepsProfile (s.begun p goesOn) := by
  rw [State.begun_cases]
  exact s.keepsProfile_modLink p _

theorem State.keepsProfile_answered (s : State) (p : Port) (msg : List Byte) (crc : Byte) (a : Acceptance) :
    s.KeepsProfile (s.answered p msg crc a) := by
  rw [State.answered_eq]
  exact s.keepsProfile_modLink p _

theorem State.keepsProfile_refuse (s : State) (p : Port) (msg : List Byte) (crc : Byte) (a : Acceptance) :
    s.KeepsProfile (s.refuse p msg crc a) := by
  have k := s.keepsProfile_answered p msg crc a
  cases a with
  | accepted | backpressure => exact k
  | crcFail | framing => exact k.trans (State.keepsProfile_modLink _ p _)

/-- R179: a REQUEST keeps the claim sound where its command does. -/
theorem State.keepsProfile_request (s : State) {p : Port} {code tag : Byte} {fields : List Byte} {act : State → State}
    (hact : ∀ t : State, t.KeepsProfile (act t)) : s.KeepsProfile (s.request p code tag fields act) := by
  unfold State.request
  split
  · exact .refl s
  · dsimp only
    split
    · exact (s.keepsProfile_begun p _).trans (State.keepsProfile_modLink _ p _)
    · split
      · exact ((s.keepsProfile_answered p _ _ _).trans (State.keepsProfile_renew _ p)).trans (hact _)
      · exact s.keepsProfile_refuse p _ _ _

/-- R182: a POLL takes an entry, and leaves the session. -/
theorem State.keepsProfile_pollLink (s : State) (p : Port) (bytes : Nat) : s.KeepsProfile (s.pollLink p bytes) := by
  have session (bs : List Byte) (q : PortState) : (bs.foldl PortState.pollByte q).session = q.session := by
    induction bs generalizing q with
    | nil => rfl
    | cons b bs ih => exact (ih _).trans (q.pollByte_link b).2
  exact (s.keepsProfile_begun p _).trans (State.keepsProfile_modPort _ p _ fun _ opened => by rwa [session])

/-! ### The claim's own commands -/

/-- R127, R134: a holder with an OPEN session and a staged profile in its ranges. -/
theorem State.ProfileSound.of_hold {s t : State} {p : Port} {active staged : Profile}
    (opened : (s.port p).session.state = .opened) (ha : ∀ f : ProfileField, f.inRange (active.field f) = true)
    (hs : ∀ f : ProfileField, f.inRange (staged.field f) = true) (ports : t.ports = s.ports)
    (prof : t.prof = { active := active, staged := some staged, holder := some p }) : t.ProfileSound := by
  refine ⟨fun q hq => ?_, by rw [prof]; rfl, by rwa [prof], fun w hw => ?_⟩
  · rw [prof] at hq
    obtain rfl := Option.some.inj hq
    rwa [State.port, ports]
  · rw [prof] at hw
    exact Option.some.inj hw ▸ hs

/-- R131: the claim is granted to a port whose session is OPEN. -/
theorem State.keepsProfile_doClaim (p : Port) (tag : Byte) (fields : List Byte) (s : State) :
    s.KeepsProfile (State.doClaim p tag fields s) := by
  refine .check fun opened => .check fun _ => .check fun _ => .check fun _ => ?_
  have granted : s.KeepsProfile (s.grant p) := fun h => .of_hold (not_not.1 opened) h.active h.active rfl rfl
  exact granted.reply

theorem State.keepsProfile_doRelease (p : Port) (tag : Byte) (fields : List Byte) (s : State) :
    s.KeepsProfile (State.doRelease p tag fields s) := by
  unfold State.doRelease
  split
  · exact s.keepsProfile_reply
  · exact (s.keepsProfile_releaseClaim p).reply

/-- R137: a value in its range is read back from its field. -/
theorem Profile.field_setField_same (w : Profile) {f : ProfileField} {v : Nat} :
    f.inRange v = true → (w.setField f v).field f = v := by
  cases f with
  | hbt | guard | carrierPeriod | echoThreshold | quiet | faultHold => exact fun _ => rfl
  | duty =>
    match v with
    | 0 | 1 | 2 => exact fun _ => rfl
    | _ + 3 => exact nofun
  | idleLevel =>
    match v with
    | 0 | 1 => exact fun _ => rfl
    | _ + 2 => exact nofun
  | echoMode =>
    match v with
    | 0 | 1 | 2 => exact fun _ => rfl
    | _ + 3 => exact nofun

/-- R137: a field written is the only one that changes. -/
theorem Profile.field_setField (w : Profile) (f g : ProfileField) (v : Nat) :
    (w.setField f v).field g = if g = f then (w.setField f v).field f else w.field g := by
  cases f <;> cases g <;> rfl

theorem Profile.field_setField_other (w : Profile) {f g : ProfileField} (v : Nat) (h : g ≠ f) :
    (w.setField f v).field g = w.field g :=
  (w.field_setField f g v).trans (if_neg h)

/-- R128, R137: values in their ranges leave the profile in its ranges. -/
theorem Profile.inRange_apply {cs : List (ProfileField × Nat)} (hc : ∀ c ∈ cs, c.1.inRange c.2 = true) {w : Profile}
    (hw : ∀ f : ProfileField, f.inRange (w.field f) = true) (f : ProfileField) : f.inRange ((w.apply cs).field f) = true := by
  induction cs generalizing w with
  | nil => exact hw f
  | cons c cs ih =>
    obtain ⟨first, rest⟩ := List.forall_mem_cons.1 hc
    refine ih rest fun g => ?_
    by_cases hg : g = c.1
    · rw [hg, Profile.field_setField_same w first]
      exact first
    · rw [Profile.field_setField_other w c.2 hg]
      exact hw g

/-- R137: the first named field out of its range, if there is one. -/
theorem firstOutOfRange_eq_none {cs : List (ProfileField × Nat)} :
    firstOutOfRange cs = none ↔ ∀ c ∈ cs, c.1.inRange c.2 = true := by
  simp [firstOutOfRange]

/-- R137: STAGE writes the holder's staged profile, and only values in their ranges. -/
theorem State.keepsProfile_doStage (p : Port) (tag : Byte) (fields : List Byte) (s : State) :
    s.KeepsProfile (State.doStage p tag fields s) := by
  refine .check fun _ => ?_
  split
  · exact s.keepsProfile_reply
  · next cs _ =>
    refine .check fun holds => ?_
    have holder : s.prof.holder = some p := by simpa [State.holds] using holds
    split
    · exact s.keepsProfile_reply
    · next fits =>
      have staged : s.KeepsProfile { s with prof := { s.prof with staged := some (s.stagedProfile.apply cs) } } := fun h =>
        .of_hold (h.opened p holder) h.active
          (Profile.inRange_apply (firstOutOfRange_eq_none.1 fits) h.stagedProfile) rfl (holder ▸ rfl)
      exact staged.reply

/-- R140: the walk retires frames or gives them new ends. -/
theorem State.keepsProfile_revalidate (s : State) : s.KeepsProfile s.revalidate.state := by
  have one (w : Walk) (d : DescIdx) : w.state.KeepsProfile (w.judge d).state := by
    rcases w.judge_cases d with ⟨-, -, state⟩ | ⟨-, -, state⟩ <;> rw [state]
    · exact w.state.keepsProfile_retireNow _ _ _ _
    · exact w.state.keepsProfile_modDesc d _
  have walk (l : List DescIdx) (w : Walk) : w.state.KeepsProfile (l.foldl Walk.judge w).state := by
    induction l generalizing w with
    | nil => exact .refl _
    | cons d l ih => exact (one w d).trans (ih _)
  exact walk s.sched.timed { state := s, lastEnd := none, rescheduled := 0, broken := 0 }

/-- R87, R88, R124, R133, R138: what the holder's checks let pass is the holder's. -/
theorem State.holder_of_holderRefusal {s : State} {p : Port} {fields : List Byte} (h : s.holderRefusal p fields = none) :
    s.prof.holder = some p := by
  unfold State.holderRefusal at h
  split at h
  · cases h
  · split at h
    · cases h
    · split at h
      · cases h
      · next holds => simpa [State.holds] using holds

/-- R139: COMMIT makes the holder's staged profile active, and keeps it staged. -/
theorem State.keepsProfile_doCommit (p : Port) (tag : Byte) (fields : List Byte) (s : State) :
    s.KeepsProfile (State.doCommit p tag fields s) := by
  unfold State.doCommit
  split
  · exact s.keepsProfile_reply
  · next passes =>
    refine .check fun _ => ?_
    have holder := State.holder_of_holderRefusal passes
    have activated : s.KeepsProfile s.activate := fun h =>
      .of_hold (h.opened p holder) h.stagedProfile h.stagedProfile rfl (holder ▸ rfl)
    exact (activated.trans (State.keepsProfile_revalidate _)).reply

/-! ### Sessions -/

/-- R150: a session that is opened is OPEN. -/
theorem State.keepsProfile_doOpen (p : Port) (tag : Byte) (fields : List Byte) (s : State) :
    s.KeepsProfile (State.doOpen p tag fields s) := by
  have leased (c : LeaseClass) : s.KeepsProfile (s.startLease p c) := s.keepsProfile_modPort p _ fun _ _ => rfl
  unfold State.doOpen
  dsimp only
  split
  · exact s.keepsProfile_reply
  · exact .check fun _ => .check fun _ => (leased _).reply

/-- R134, R156: a session that closes has given the claim back. -/
theorem State.keepsProfile_startClosing (s : State) (p : Port) (form : CloseForm) : s.KeepsProfile (s.startClosing p form) :=
  (s.keepsProfile_releaseClaim p).trans
    (State.keepsProfile_modPort _ p _ fun holder => absurd holder (s.releaseClaim_holder p))

theorem State.keepsProfile_doClose (p : Port) (tag : Byte) (fields : List Byte) (s : State) :
    s.KeepsProfile (State.doClose p tag fields s) := by
  refine .check fun _ => ?_
  split
  · exact s.keepsProfile_reply
  · have purged := ((s.keepsProfile_startClosing p .purge).trans (State.keepsProfile_purgeWalk _ p).1).trans
      (State.keepsProfile_markOnLine _ p)
    exact (purged.reply.trans (State.keepsProfile_complete _ p)).decideIfLeft _
  · exact .check fun _ => (s.keepsProfile_startClosing p .drain).reply.trans (State.keepsProfile_complete _ p)

/-- R134, R160: a session that lapses has given the claim back. -/
theorem State.keepsProfile_lapse (s : State) (p : Port) : s.KeepsProfile (s.lapse p) := by
  obtain ⟨walked, walkProf⟩ := (s.releaseClaim p).keepsProfile_purgeWalk p
  have purged := ((s.keepsProfile_releaseClaim p).trans walked).trans (State.keepsProfile_markOnLine _ p)
  have prof : (((s.releaseClaim p).purgeWalk p).markOnLine p).prof = (s.releaseClaim p).prof := by
    obtain ⟨ds, e⟩ := ((s.releaseClaim p).purgeWalk p).markOnLine_eq p
    rw [e]
    exact walkProf
  refine (purged.trans (State.keepsProfile_place _ p _)).trans (State.keepsProfile_modPort _ p _ fun holder => ?_)
  exact absurd (prof ▸ holder) (s.releaseClaim_holder p)

/-- R134, R184: a port that is reset has given the claim back. -/
theorem State.keepsProfile_resetLink (s : State) (p : Port) : s.KeepsProfile (s.resetLink p) :=
  have discarded : (s.releaseClaim p).KeepsProfile ((s.releaseClaim p).discardAll p) := .of_eq rfl
  ((s.keepsProfile_releaseClaim p).trans discarded).trans
    (State.keepsProfile_modPort _ p _ fun holder => absurd holder (s.releaseClaim_holder p))

/-! ### Commands of the frames -/

theorem State.keepsProfile_doLoadBegin (p : Port) (tag : Byte) (fields : List Byte) (s : State) :
    s.KeepsProfile (State.doLoadBegin p tag fields s) := by
  have allocated (d : DescIdx) (x : Desc) : s.KeepsProfile (s.setDesc d x) := .of_eq rfl
  rcases s.doLoadBegin_cases p tag fields with ⟨r, e⟩ | ⟨x, d, segs, data, -, e⟩ <;> rw [e]
  · exact s.keepsProfile_reply
  · exact (allocated _ _).reply

theorem State.keepsProfile_doLoadData (p : Port) (tag : Byte) (fields : List Byte) (s : State) :
    s.KeepsProfile (State.doLoadData p tag fields s) := by
  have loaded (d : DescIdx) (off : Nat) (payload : List Byte) : s.KeepsProfile (s.loadPayload d off payload) := .of_eq rfl
  refine .check fun _ => ?_
  split
  · exact s.keepsProfile_reply
  · split
    · exact s.keepsProfile_reply
    · exact .check fun _ => .check fun _ => .check fun _ => (loaded _ _ _).reply

theorem State.keepsProfile_doQueryFrame (p : Port) (tag : Byte) (fields : List Byte) (s : State) :
    s.KeepsProfile (State.doQueryFrame p tag fields s) := by
  refine .check fun _ => ?_
  split
  · exact s.keepsProfile_reply
  · split
    · exact s.keepsProfile_reply
    · split <;> exact s.keepsProfile_reply

theorem State.keepsProfile_submitTimed (s : State) (p : Port) (tag : Byte) (d : DescIdx) (t : Timing) (start : Time) :
    s.KeepsProfile (s.submitTimed p tag d t start) := by
  have admitted (slip : Nat) : s.KeepsProfile (s.admitTimed d start slip) := .of_eq rfl
  unfold State.submitTimed
  dsimp only
  split
  · exact s.keepsProfile_reply
  · exact s.keepsProfile_reply
  · exact s.keepsProfile_reply
  · split
    · exact s.keepsProfile_reply
    · exact (admitted _).reply.decide

theorem State.keepsProfile_submitAsap (s : State) (p : Port) (tag : Byte) (d : DescIdx) (t : Timing) :
    s.KeepsProfile (s.submitAsap p tag d t) := by
  have admitted : s.KeepsProfile (s.admitAsap d t) := .of_eq rfl
  unfold State.submitAsap
  split
  · exact s.keepsProfile_reply
  · exact admitted.reply.decide

theorem State.keepsProfile_submitChained (s : State) (p : Port) (tag : Byte) (d : DescIdx) (t : Timing) (pred : Byte) :
    s.KeepsProfile (s.submitChained p tag d t pred) := by
  have admitted (e : DescIdx) : s.KeepsProfile (s.admitChained d e t pred) := .of_eq rfl
  unfold State.submitChained
  split
  · exact s.keepsProfile_reply
  · refine .check fun _ => ?_
    split
    · exact s.keepsProfile_reply
    · split
      · exact s.keepsProfile_reply
      · exact s.keepsProfile_reply
      · exact (admitted _).reply

theorem State.keepsProfile_doSubmit (p : Port) (tag : Byte) (fields : List Byte) (s : State) :
    s.KeepsProfile (State.doSubmit p tag fields s) := by
  refine .check fun _ => .check fun _ => ?_
  split
  · exact s.keepsProfile_reply
  · split
    · exact s.keepsProfile_reply
    · refine .check fun _ => .check fun _ => .check fun _ => ?_
      split
      · exact s.keepsProfile_submitTimed p tag _ _ _
      · exact s.keepsProfile_submitAsap p tag _ _
      · exact s.keepsProfile_submitChained p tag _ _ _

theorem State.keepsProfile_doCancel (p : Port) (tag : Byte) (fields : List Byte) (s : State) :
    s.KeepsProfile (State.doCancel p tag fields s) := by
  have marked (d : DescIdx) : s.KeepsProfile (s.cancelOnLine p tag d) := by
    unfold State.cancelOnLine
    dsimp only
    split
    · exact (s.keepsProfile_modDesc d _).reply
    · exact s.keepsProfile_reply
  have withdrawn (d : DescIdx) : s.KeepsProfile (s.cancelWaiting p tag d) :=
    ((s.keepsProfile_retireNow d _ _ _).reply.trans (State.keepsProfile_complete _ p)).decideIfLeft _
  refine .check fun _ => ?_
  split
  · exact s.keepsProfile_reply
  · split
    · exact s.keepsProfile_reply
    · split
      · exact marked _
      · exact withdrawn _

theorem State.keepsProfile_doQueryFree (p : Port) (tag : Byte) (fields : List Byte) (s : State) :
    s.KeepsProfile (State.doQueryFree p tag fields s) := by
  refine .check fun _ => ?_
  split
  · exact s.keepsProfile_reply
  · refine .check fun _ => ?_
    split <;> exact s.keepsProfile_reply

/-! ### Commands of the line and the clock, and queries -/

theorem State.keepsProfile_doLineEnable (p : Port) (tag : Byte) (fields : List Byte) (s : State) :
    s.KeepsProfile (State.doLineEnable p tag fields s) := by
  have enabled : s.KeepsProfile s.enableLine := by
    unfold State.enableLine
    split
    · exact (s.keepsProfile_moveLine _ _).decide
    · exact s.keepsProfile_moveLine _ _
    all_goals exact .refl s
  unfold State.doLineEnable
  split
  · exact s.keepsProfile_reply
  · exact .check fun _ => enabled.reply

theorem State.keepsProfile_doLineDisable (p : Port) (tag : Byte) (fields : List Byte) (s : State) :
    s.KeepsProfile (State.doLineDisable p tag fields s) := by
  have disabled : s.KeepsProfile s.disableLine := by
    unfold State.disableLine
    split
    · exact s.keepsProfile_enterDisabled _
    · exact s.keepsProfile_enterDisabled _
    · exact s.keepsProfile_moveLine _ _
    all_goals exact .refl s
  unfold State.doLineDisable
  split
  · exact s.keepsProfile_reply
  · exact disabled.reply

theorem State.keepsProfile_doRecover (p : Port) (tag : Byte) (fields : List Byte) (s : State) :
    s.KeepsProfile (State.doRecover p tag fields s) := by
  unfold State.doRecover
  split
  · exact s.keepsProfile_reply
  · exact .check fun _ => .check fun _ => (s.keepsProfile_moveLine _ _).decide.reply

theorem State.keepsProfile_doQueryProfile (p : Port) (tag : Byte) (fields : List Byte) (s : State) :
    s.KeepsProfile (State.doQueryProfile p tag fields s) := by
  unfold State.doQueryProfile
  dsimp only
  split
  · exact s.keepsProfile_reply
  · exact s.keepsProfile_reply
  · exact .check fun _ => s.keepsProfile_reply

theorem State.keepsProfile_doReadCapture (p : Port) (tag : Byte) (fields : List Byte) (s : State) :
    s.KeepsProfile (State.doReadCapture p tag fields s) := by
  refine .check fun _ => ?_
  split
  · exact (s.keepsProfile_modPort p PortState.emptySlot fun _ => id).reply
  · exact s.keepsProfile_reply

theorem State.keepsProfile_doSetTime (p : Port) (tag : Byte) (fields : List Byte) (s : State) :
    s.KeepsProfile (State.doSetTime p tag fields s) := by
  have set (t : Time) : s.KeepsProfile { s with clock := { s.clock with time := t, prescale := 0 } } := .of_eq rfl
  refine .check fun _ => ?_
  split
  · exact s.keepsProfile_reply
  · exact .check fun _ => .check fun _ => .check fun _ => (set _).reply

/-! ### Rows of the table -/

/-- A row's outcome keeps the claim sound. -/
def State.ClaimKeptBy (s : State) (o : Host.Outcome State Fault Refusal) : Prop := ∀ t, o = .next t → s.KeepsProfile t

theorem State.KeepsProfile.next {s t : State} (h : s.KeepsProfile t) : s.ClaimKeptBy (.next t) := fun u hu => by
  obtain rfl := Host.Outcome.next.inj hu
  exact h

/-- An event that is due, or that leaves the state as it is (log 1). -/
theorem State.KeepsProfile.due {s t : State} {c : Prop} [Decidable c] (h : s.KeepsProfile t) :
    s.ClaimKeptBy (if c then .next t else .next s) := by
  split
  · exact h.next
  · exact (State.KeepsProfile.refl s).next

/-- While RESETn is low the row has no effect. -/
theorem State.KeepsProfile.running {s t : State} {c : Prop} [Decidable c] (h : s.KeepsProfile t) :
    s.ClaimKeptBy (if c then .next s else .next t) := by
  split
  · exact (State.KeepsProfile.refl s).next
  · exact h.next

/-- R185: after a reset no port holds the claim, and the profile is the default one. -/
theorem State.KeepsProfile.of_reset {s t : State} (h : t.prof = State.reset.prof) : s.KeepsProfile t := fun _ => by
  obtain ⟨-, -, profile, -⟩ := invariantsAtReset
  exact State.KeepsProfile.of_holder h (fun _ => nofun) profile

theorem execPreambleEnd_claimKept (s : State) : s.ClaimKeptBy (execPreambleEnd s) := by
  unfold execPreambleEnd
  split
  · exact State.KeepsProfile.next (.of_eq rfl)
  · exact (State.KeepsProfile.refl s).next

theorem execBodyEnd_claimKept (s : State) : s.ClaimKeptBy (execBodyEnd s) := by
  unfold execBodyEnd
  split
  · exact (s.keepsProfile_endBody _).next
  · exact (State.KeepsProfile.refl s).next

theorem execGapEnd_claimKept (s : State) : s.ClaimKeptBy (execGapEnd s) := by
  unfold execGapEnd
  split
  · split
    · exact (s.keepsProfile_frameEnd _).next
    · exact (s.keepsProfile_laterRepetition _).next
  · exact (State.KeepsProfile.refl s).next

theorem execGuardEnd_claimKept (s : State) : s.ClaimKeptBy (execGuardEnd s) := by
  have ended : s.KeepsProfile { s with disp := { s.disp with phase := none } } := .of_eq rfl
  unfold execGuardEnd
  split
  · split
    · exact (ended.trans (State.keepsProfile_moveLine _ .idle _)).decide.next
    · exact (s.keepsProfile_enterDisabled .drainEnd).next
    all_goals exact (State.KeepsProfile.refl s).next
  · exact (State.KeepsProfile.refl s).next

theorem execComparisonEvent_claimKept (s : State) : s.ClaimKeptBy (execComparisonEvent s) := by
  unfold execComparisonEvent
  split
  · exact State.KeepsProfile.due (.of_eq rfl)
  · exact (State.KeepsProfile.refl s).next

theorem execEchoStop_claimKept (s : State) : s.ClaimKeptBy (execEchoStop s) := by
  unfold execEchoStop
  split
  · exact (s.keepsProfile_echoStopped _).next
  · exact (State.KeepsProfile.refl s).next

theorem execHoldEnd_claimKept (s : State) : s.ClaimKeptBy (execHoldEnd s) := by
  unfold execHoldEnd
  split
  · split
    · exact (s.keepsProfile_moveLine .idle .holdEnd).decide.next
    · exact State.KeepsProfile.next (.of_eq rfl)
  · exact (State.KeepsProfile.refl s).next

/-- R6, R7: samples of PCAPT do not reach the session. -/
theorem PortState.session_samples (q : PortState) (now : Time) (l : List Level) :
    (l.foldl (fun r x => r.sampleCapture now x) q).session = q.session := by
  have one (r : PortState) (x : Level) : (r.sampleCapture now x).session = r.session := by
    unfold PortState.sampleCapture PortState.captureEdge
    dsimp only
    split
    · split <;> rfl
    · rfl
  induction l generalizing q with
  | nil => rfl
  | cons x l ih => exact (ih _).trans (one q x)

theorem execVoidTransaction_claimKept (p : Port) (stretch : Stretch) (s : State) :
    s.ClaimKeptBy (execVoidTransaction p stretch s) := by
  unfold execVoidTransaction
  dsimp only
  split
  · exact (State.KeepsProfile.refl s).next
  · split
    · exact (s.keepsProfile_modLink p _).next
    · exact (State.KeepsProfile.refl s).next

theorem execRequestNotTaken_claimKept (p : Port) (msg : List Byte) (crc : Byte) (s : State) :
    s.ClaimKeptBy (execRequestNotTaken p msg crc s) := by
  unfold execRequestNotTaken
  split
  · exact (State.KeepsProfile.refl s).next
  · split
    · exact (State.KeepsProfile.refl s).next
    · exact (s.keepsProfile_refuse p msg crc _).next

theorem execLsenseChange_claimKept (cycles : Nat) (level : Level) (s : State) :
    s.ClaimKeptBy (execLsenseChange cycles level s) := by
  unfold execLsenseChange
  split
  · exact State.KeepsProfile.next (.of_eq rfl)
  · exact State.KeepsProfile.next ((s.keepsProfile_cycles _).trans (.of_eq rfl))

theorem execCarrierBurstEnd_claimKept (s : State) : s.ClaimKeptBy (execCarrierBurstEnd s) := by
  unfold execCarrierBurstEnd
  split
  · exact (State.KeepsProfile.refl s).next
  · split
    · exact (s.keepsProfile_cycles _).next
    · exact (State.KeepsProfile.refl s).next

/-- R127, R128, R134: every row of the table keeps the claim, the staged profile and the profile's values sound. -/
theorem exec_claimKept (i : Instr) (s : State) : s.ClaimKeptBy (exec i s) := by
  cases i with
  | chipReset => exact State.KeepsProfile.next (.of_reset rfl)
  | resetRelease tbsel pcsLow => exact State.KeepsProfile.due (.of_reset rfl)
  | tick => exact s.keepsProfile_wholeTick.running
  | leaseLow p => exact (s.keepsProfile_modQueue p _).due
  | lapse p => exact ((s.keepsProfile_lapse p).decideIfPurged s).due
  | captureEdge pin =>
    exact (s.keepsProfile_modPort pin.port _ fun _ opened => by rwa [PortState.session_samples]).running
  | timedStartReached => exact s.keepsProfile_startDecision.due
  | notBeforeReached d => exact (s.keepsProfile_modDesc d _).decide.due
  | windowExpiry d => exact (s.keepsProfile_retireNow d _ _ _).decide.due
  | asapExpiry d => exact (s.keepsProfile_retireNow d _ _ _).due
  | heldExpiryPassed d => exact (s.keepsProfile_modDesc d _).due
  | preambleEnd => exact execPreambleEnd_claimKept s
  | bodyEnd => exact execBodyEnd_claimKept s
  | gapEnd => exact execGapEnd_claimKept s
  | guardEnd => exact execGuardEnd_claimKept s
  | comparisonEvent => exact execComparisonEvent_claimKept s
  | echoStop => exact execEchoStop_claimKept s
  | holdEnd => exact execHoldEnd_claimKept s
  | strobePulseEnd p => exact (s.keepsProfile_modPort p _ fun _ => id).due
  | openSession p tag fields => exact (s.keepsProfile_request (State.keepsProfile_doOpen p tag fields)).next
  | renew p tag fields =>
    exact (s.keepsProfile_request fun t => .check fun _ => .check fun _ => t.keepsProfile_reply).next
  | close p tag fields => exact (s.keepsProfile_request (State.keepsProfile_doClose p tag fields)).next
  | loadBegin p tag fields => exact (s.keepsProfile_request (State.keepsProfile_doLoadBegin p tag fields)).next
  | loadData p tag fields => exact (s.keepsProfile_request (State.keepsProfile_doLoadData p tag fields)).next
  | queryFrame p tag fields => exact (s.keepsProfile_request (State.keepsProfile_doQueryFrame p tag fields)).next
  | submit p tag fields => exact (s.keepsProfile_request (State.keepsProfile_doSubmit p tag fields)).next
  | cancel p tag fields => exact (s.keepsProfile_request (State.keepsProfile_doCancel p tag fields)).next
  | queryFree p tag fields => exact (s.keepsProfile_request (State.keepsProfile_doQueryFree p tag fields)).next
  | lineEnable p tag fields => exact (s.keepsProfile_request (State.keepsProfile_doLineEnable p tag fields)).next
  | lineDisable p tag fields => exact (s.keepsProfile_request (State.keepsProfile_doLineDisable p tag fields)).next
  | queryLine p tag fields =>
    exact (s.keepsProfile_request fun t => .check fun _ => (t.keepsProfile_modQueue p _).reply).next
  | recover p tag fields => exact (s.keepsProfile_request (State.keepsProfile_doRecover p tag fields)).next
  | claim p tag fields => exact (s.keepsProfile_request (State.keepsProfile_doClaim p tag fields)).next
  | release p tag fields => exact (s.keepsProfile_request (State.keepsProfile_doRelease p tag fields)).next
  | stage p tag fields => exact (s.keepsProfile_request (State.keepsProfile_doStage p tag fields)).next
  | commit p tag fields => exact (s.keepsProfile_request (State.keepsProfile_doCommit p tag fields)).next
  | queryProfile p tag fields => exact (s.keepsProfile_request (State.keepsProfile_doQueryProfile p tag fields)).next
  | queryTime p tag fields => exact (s.keepsProfile_request fun t => .check fun _ => t.keepsProfile_reply).next
  | readCapture p tag fields => exact (s.keepsProfile_request (State.keepsProfile_doReadCapture p tag fields)).next
  | setTime p tag fields => exact (s.keepsProfile_request (State.keepsProfile_doSetTime p tag fields)).next
  | queryLink p tag fields => exact (s.keepsProfile_request fun t => .check fun _ => t.keepsProfile_reply).next
  | unknownCommand p code tag fields => exact (s.keepsProfile_request fun t => t.keepsProfile_reply).running
  | poll p bytes => exact (s.keepsProfile_pollLink p bytes).running
  | voidTransaction p stretch => exact execVoidTransaction_claimKept p stretch s
  | linkReset p =>
    exact ((((s.keepsProfile_begun p _).trans (State.keepsProfile_modLink _ p _)).trans
      (State.keepsProfile_resetLink _ p)).decideIfLeft s).running
  | failedConfirm p confirm => exact ((s.keepsProfile_begun p _).trans (State.keepsProfile_modLink _ p _)).running
  | requestNotTaken p msg crc => exact execRequestNotTaken_claimKept p msg crc s
  | lsenseChange cycles level => exact execLsenseChange_claimKept cycles level s
  | carrierBurstEnd => exact execCarrierBurstEnd_claimKept s

/-- Settles O54: every row keeps the claim sound, and the step takes the row from the queue (log 3). -/
theorem profileStaysSound : Obligations.ProfileStaysSound := fun s t profile hstep => by
  unfold step at hstep
  split at hstep
  · exact Host.Outcome.next.inj hstep ▸ profile
  · next c rest _ =>
    have taken : s.KeepsProfile { s with pending := rest } := .of_eq rfl
    exact exec_claimKept c _ t hstep (taken profile)

end Sys2Proof.Machine
end

section
/-! CLAIM, RELEASE, STAGE and QUERY_PROFILE (O39, O40, O42). -/

namespace Sys2Proof.Machine

/-! ### A command that changes the Profile Unit -/

section
variable (s : State) (p : Port) (code tag : Byte) (fields : List Byte)

/-- R127: the Profile Unit put in another state. -/
def State.withProf (s : State) (u : ProfileUnit) : State := { s with prof := u }

/-- R127, R166: a taken request whose command changes the Profile Unit and places its REPLY. -/
theorem State.withProf_taken_reply (h : s.Takes p fields) (u : ProfileUnit) (r : ResultCode) (data : ReplyData) {t : State}
    (ht : t = ((s.taken p code tag fields).withProf u).reply p code tag r data) :
    t.prof = u ∧ s.SamePart { t with prof := s.prof } ∧ s.SameOthers t p ∧
      (t.port p).Agrees ((s.port p).renewed.withEntries [.reply code tag r data]) := by
  subst ht
  refine ⟨rfl, ?_, fun q hq => ?_, ?_⟩
  · rw [State.taken_eq]
    exact ⟨rfl, rfl, rfl, fun _ => rfl, fun _ => rfl, rfl, rfl, rfl, rfl, rfl, rfl⟩
  · rw [State.port_reply, if_neg hq]
    show (s.taken p code tag fields).port q = s.port q
    rw [State.taken_eq, State.port_modPort, if_neg hq]
  · rw [State.port_reply, if_pos rfl]
    exact s.agrees_taken_reply p code tag fields _ h

end

/-! ### CLAIM and RELEASE -/

/-- R176, R186: the claim bit of the status summary. -/
theorem State.summary_claimBit (s : State) (q : Port) : ((s.summary q).headD 0).getLsbD 0 = s.holds q := by
  have even (a b : Nat) : (a * 8 + b * 2).testBit 0 = false := by
    rw [Nat.testBit_zero, decide_eq_false_iff_not]
    omega
  have mark : (bitAt 0 (s.holds q)).getLsbD 0 = s.holds q := by cases s.holds q <;> rfl
  simp only [State.summary, List.headD_cons, BitVec.getLsbD_or, mark, byteOf, BitVec.getLsbD_ofNat, even]
  simp

/-- R131: a CLAIM of a port whose session is OPEN, by who holds the claim. -/
theorem State.doClaim_opened {s : State} {p : Port} (tag : Byte) (opened : (s.port p).session.state = .opened) :
    State.doClaim p tag [] s =
      if s.holds p then s.reply p Config.codeClaim tag .ok (.claim .heldAlready)
      else if s.prof.holder.isSome then s.reply p Config.codeClaim tag .claimed
      else (s.withProf { s.prof with holder := some p, staged := some s.prof.active }).reply p Config.codeClaim tag .ok
        (.claim .granted) := by
  rw [State.doClaim, if_neg (not_not_intro opened)]
  rfl

/-- R131, R176: a CLAIM that no port's claim stands against. -/
theorem claim_grants {s : State} {p : Port} (tag : Byte) (h : s.Takes p [])
    (opened : (s.port p).session.state = .opened) (free : s.prof.holder = none) :
    ∃ t, exec (.claim p tag []) s = .next t ∧
      t.prof = { active := s.prof.active, staged := some s.prof.active, holder := some p } ∧
      s.SamePart { t with prof := s.prof } ∧ s.SameOthers t p ∧
      (t.port p).Agrees ((s.port p).renewed.withEntries [.reply 0x50 tag .ok (.claim .granted)]) ∧
      ∀ q, ((t.summary q).headD 0).getLsbD 0 = decide (q = p) := by
  have prof := (s.taken_part p Config.codeClaim tag []).2.2.1
  have acts := State.doClaim_opened tag ((s.sessionState_taken p Config.codeClaim tag []).trans opened)
  rw [State.holds, prof, free, if_neg (by simp), if_neg (by simp)] at acts
  obtain ⟨granted, part, others, own⟩ := s.withProf_taken_reply p Config.codeClaim tag [] h
    { s.prof with holder := some p, staged := some s.prof.active } .ok (.claim .granted) rfl
  refine ⟨_, congrArg Host.Outcome.next ((s.request_taken p Config.codeClaim tag [] _ h).trans acts), granted, part, others,
    own, fun q => ?_⟩
  rw [State.summary_claimBit, State.holds, granted]
  simp [eq_comm]

/-- R133: a RELEASE of the holder in session. -/
theorem release_releases {s : State} {p : Port} (tag : Byte) (h : s.Takes p []) (session : s.InSession p)
    (holder : s.prof.holder = some p) :
    ∃ t, exec (.release p tag []) s = .next t ∧ t.prof = { active := s.prof.active, staged := none, holder := none } ∧
      s.SamePart { t with prof := s.prof } ∧ s.SameOthers t p ∧
      (t.port p).Agrees ((s.port p).renewed.withEntries [.reply 0x51 tag .ok .none]) := by
  have prof := (s.taken_part p Config.codeRelease tag []).2.2.1
  have passes := (s.holderRefusal_taken p Config.codeRelease tag []).trans
    (State.holderRefusal_none session rfl holder)
  have acts : State.doRelease p tag [] (s.taken p Config.codeRelease tag []) =
      ((s.taken p Config.codeRelease tag []).withProf { s.prof with holder := none, staged := none }).reply p
        Config.codeRelease tag .ok := by
    simp only [State.doRelease, passes]
    rw [State.releaseClaim_eq, State.profReleased, prof, if_pos holder]
    rfl
  exact ⟨_, congrArg Host.Outcome.next ((s.request_taken p Config.codeRelease tag [] _ h).trans acts),
    s.withProf_taken_reply p Config.codeRelease tag [] h _ .ok .none rfl⟩

/-- Settles O39: the checks of CLAIM in their order and the grant, and RELEASE by the holder's checks. -/
theorem claimAndRelease : Obligations.ClaimAndRelease := by
  intro p tag fields s h
  have state := s.sessionState_taken p Config.codeClaim tag fields
  have prof := (s.taken_part p Config.codeClaim tag fields).2.2.1
  have checked : s.HolderChecked (.release p tag fields) p 0x51 tag fields :=
    State.holderChecked_of_refusal h (act := State.doRelease p tag fields) rfl fun t r hr => by
      simp only [State.doRelease, hr]
      rfl
  refine ⟨fun closed => ?_, fun opened => ⟨fun hf => ?_, ?_⟩, checked, fun profile closing hf => ?_, ?_⟩
  · refine s.replies_of_reply _ p Config.codeClaim tag fields (State.doClaim p tag fields) _ _ h rfl ?_
    rw [State.doClaim, state, if_pos closed]
  · refine s.replies_of_reply _ p Config.codeClaim tag fields (State.doClaim p tag fields) _ _ h rfl ?_
    rw [State.doClaim, state, if_neg (not_not_intro opened), if_pos hf]
  · rintro rfl
    have acts := State.doClaim_opened tag (state.trans opened)
    rw [State.holds, prof] at acts
    refine ⟨fun holder => ?_, fun q hq holder => ?_, claim_grants tag h opened⟩
    · exact s.replies_of_reply _ p Config.codeClaim tag [] _ _ _ h rfl (acts.trans (if_pos (by simp [holder])))
    · refine s.replies_of_reply _ p Config.codeClaim tag [] _ _ _ h rfl (acts.trans ?_)
      rw [if_neg (by simp [holder, hq]), if_pos (by simp [holder])]
  · refine checked.2.2 (.inr closing) hf fun holder => ?_
    simp [profile.opened p holder] at closing
  · rintro session rfl holder
    exact release_releases tag h session holder

/-! ### STAGE -/

/-- R137: the first named field out of its range is the one that is answered. -/
theorem firstOutOfRange_append {l r : List (ProfileField × Nat)} {f : ProfileField} {v : Nat}
    (within : ∀ c ∈ l, c.1.inRange c.2 = true) (out : f.inRange v = false) :
    firstOutOfRange (l ++ (f, v) :: r) = some f := by
  have none : l.find? (fun c => !c.1.inRange c.2) = none := by simpa using within
  rw [firstOutOfRange, List.find?_append, none, Option.none_or, List.find?_cons_of_pos (by simp [out])]
  rfl

/-- R137: a field that is not named keeps its value. -/
theorem Profile.field_apply_of_not_named {cs : List (ProfileField × Nat)} {f : ProfileField} (h : ∀ v, (f, v) ∉ cs)
    (w : Profile) : (w.apply cs).field f = w.field f := by
  induction cs generalizing w with
  | nil => rfl
  | cons c cs ih =>
    have ne : f ≠ c.1 := fun e => h c.2 (e ▸ List.mem_cons_self)
    exact (ih (fun v hv => h v (List.mem_cons_of_mem c hv)) _).trans (w.field_setField_other c.2 ne)

/-- R137: a named field has the value sent; no field is named twice. -/
theorem Profile.field_apply_of_named {cs : List (ProfileField × Nat)} (once : (cs.map (·.1)).Nodup)
    (within : ∀ c ∈ cs, c.1.inRange c.2 = true) {f : ProfileField} {v : Nat} (h : (f, v) ∈ cs) (w : Profile) :
    (w.apply cs).field f = v := by
  induction cs generalizing w with
  | nil => cases h
  | cons c cs ih =>
    obtain ⟨fresh, once⟩ := List.nodup_cons.1 once
    obtain ⟨first, within⟩ := List.forall_mem_cons.1 within
    rcases List.mem_cons.1 h with rfl | h
    · have rest : ∀ v', (f, v') ∉ cs := fun v' hv => fresh (List.mem_map.2 ⟨(f, v'), hv, rfl⟩)
      exact (Profile.field_apply_of_not_named rest _).trans (w.field_setField_same first)
    · exact ih once within h _

/-- R137: what a STAGE of the holder in session does, by the first named field out of its range. -/
theorem State.doStage_holder {s : State} {p : Port} {fields : List Byte} (tag : Byte) {cs : List (ProfileField × Nat)}
    {w : Profile} (session : s.noSession p = false) (read : readStage fields = some cs) (holder : s.prof.holder = some p)
    (staged : s.prof.staged = some w) : State.doStage p tag fields s =
      match firstOutOfRange cs with
      | some f => s.reply p Config.codeStage tag .badField (.badProfileField f)
      | none => (s.withProf { s.prof with staged := some (w.apply cs) }).reply p Config.codeStage tag .ok
          (.staged ((w.apply cs).differing s.prof.active)) := by
  have profile : s.stagedProfile = w := by rw [State.stagedProfile, staged]; rfl
  simp only [State.doStage, session, read, State.holds, holder, decide_true, profile]
  cases firstOutOfRange cs <;> rfl

/-- Settles O40: the checks of STAGE in their order, and the values of the fields named and not named. -/
theorem stageChanges : Obligations.StageChanges := by
  intro p tag fields s h
  have no := State.noSession_taken (s := s) p Config.codeStage tag fields
  have prof := (s.taken_part p Config.codeStage tag fields).2.2.1
  refine ⟨fun none => ?_, fun session => ⟨fun unread => ?_, fun cs fits hf => ⟨fun notHolder => ?_, fun holder w staged => ?_⟩⟩⟩
  · exact s.replies_of_reply _ p Config.codeStage tag fields (State.doStage p tag fields) _ _ h rfl
      (if_pos (no.2 none))
  · have none : readStage fields = none := Option.eq_none_iff_forall_ne_some.2 fun cs read =>
      have ⟨fits, bytes⟩ := eq_bytes_of_readStage read
      unread cs fits bytes
    refine s.replies_of_reply _ p Config.codeStage tag fields (State.doStage p tag fields) _ _ h rfl ?_
    simp only [State.doStage, if_neg (mt no.1 (not_not_intro session)), none]
  · have read : readStage fields = some cs := hf ▸ readStage_stageBytes fits
    refine s.replies_of_reply _ p Config.codeStage tag fields (State.doStage p tag fields) _ _ h rfl ?_
    simp only [State.doStage, if_neg (mt no.1 (not_not_intro session)), read, State.holds, prof, notHolder, decide_false,
      Bool.not_false, if_true]
  · have yes : (s.taken p Config.codeStage tag fields).noSession p = false :=
      Bool.eq_false_iff.2 (mt no.1 (not_not_intro session))
    have acts := State.doStage_holder tag yes (hf ▸ readStage_stageBytes fits) (prof ▸ holder) (prof ▸ staged)
    rw [prof] at acts
    refine ⟨fun l f v r split within out => ?_, fun within => ?_⟩
    · rw [split, firstOutOfRange_append within out] at acts
      exact s.replies_of_reply _ p Config.codeStage tag fields (State.doStage p tag fields) _ _ h rfl acts
    · rw [firstOutOfRange_eq_none.2 within] at acts
      have once : (cs.map (·.1)).Nodup := fits.1.nodup (by decide)
      refine ⟨_, w.apply cs, congrArg Host.Outcome.next ((s.request_taken p Config.codeStage tag fields _ h).trans acts),
        fun f v named => Profile.field_apply_of_named once within named w,
        fun f rest => Profile.field_apply_of_not_named rest w, ?_⟩
      rw [Profile.differing, List.countP_eq_length_filter]
      exact s.withProf_taken_reply p Config.codeStage tag fields h _ .ok _ rfl

/-! ### QUERY_PROFILE -/

/-- R142: what names neither copy is refused. -/
theorem readQueryProfile_eq_none {fields : List Byte} (active : fields ≠ [0]) (staged : fields ≠ [1]) :
    readQueryProfile fields = none := by
  unfold readQueryProfile
  split
  · next b =>
    rw [if_neg fun hb : b = 0 => active (hb ▸ rfl), if_neg fun hb : b = 1 => staged (hb ▸ rfl)]
  · rfl

/-- R142: the claim as the asking port sees it. -/
theorem State.claimView_eq {s : State} {p : Port} {view : ClaimView} (mine : view = .byThisPort ↔ s.prof.holder = some p)
    (free : view = .unheld ↔ s.prof.holder = none) : s.claimView p = view := by
  unfold State.claimView
  cases holder : s.prof.holder with
  | none => exact (free.2 holder).symm
  | some q =>
    by_cases hq : q = p
    · exact (if_pos hq).trans (mine.2 (hq ▸ holder)).symm
    · refine (if_neg hq).trans ?_
      cases view with
      | byOther => rfl
      | byThisPort => exact absurd (Option.some.inj (holder.symm.trans (mine.1 rfl))) hq
      | unheld => exact absurd (holder.symm.trans (free.1 rfl)) nofun

/-- Settles O42: QUERY_PROFILE by the copy asked for. -/
theorem queryProfileAnswers : Obligations.QueryProfileAnswers := by
  intro p tag fields s h
  have prof := (s.taken_part p Config.codeQueryProfile tag fields).2.2.1
  have answers (r : ResultCode) (data : ReplyData) := s.replies_of_reply (.queryProfile p tag fields) p
    Config.codeQueryProfile tag fields (State.doQueryProfile p tag fields) r data h rfl
  refine ⟨fun active staged => answers _ _ ?_, fun view mine free => ?_⟩
  · simp only [State.doQueryProfile, readQueryProfile_eq_none active staged]
  have seen : (s.taken p Config.codeQueryProfile tag fields).claimView p = view :=
    State.claimView_eq (prof.symm ▸ mine) (prof.symm ▸ free)
  have holds : (s.taken p Config.codeQueryProfile tag fields).holds p = decide (s.prof.holder = some p) := by
    rw [State.holds, prof]
  refine ⟨?_, ?_, ?_⟩
  · rintro rfl
    refine answers _ _ ?_
    rw [← seen, ← prof]
    rfl
  · rintro rfl notHolder
    refine answers _ _ (if_pos ?_)
    rw [holds]
    simp [notHolder]
  · rintro rfl holder w staged
    have profile : (s.taken p Config.codeQueryProfile tag [1]).stagedProfile = w := by
      rw [State.stagedProfile, prof, staged]
      rfl
    refine answers _ _ ((if_neg ?_).trans (by rw [profile, seen]))
    rw [holds]
    simp [holder]

end Sys2Proof.Machine
end

section
/-! The revalidation walk of a COMMIT (O41): the listed frames it keeps, and what retires with the others. -/

namespace Sys2Proof.Machine

/-! ### The frames that the walk keeps -/

/-- R140: the end of d's reservation under the active profile. -/
def State.newEnd (u : State) (d : DescIdx) : Time :=
  plus ((u.desc d).start.getD 0) ((u.desc d).reservation u.prof.active)

/-- R140: d does not start before the end of the last of the frames kept before it. -/
def State.clears (u : State) (kept : List DescIdx) (d : DescIdx) : Bool :=
  match kept.getLast? with
  | none => true
  | some k => !before ((u.desc d).start.getD 0) (u.newEnd k)

/-- R140: the frames that the walk over a list keeps, in its order. -/
def State.keptOf (u : State) (l : List DescIdx) : List DescIdx :=
  l.foldl (fun kept d => if u.clears kept d then kept ++ [d] else kept) []

/-- R141: the frames that the walk over a list does not keep, in its order. -/
def State.leftOf (u : State) (l : List DescIdx) : List DescIdx := l.filter fun d => decide (d ∉ u.keptOf l)

section
variable (u : State) {l r : List DescIdx} {d : DescIdx}

theorem State.keptOf_concat : u.keptOf (l ++ [d]) =
    if u.clears (u.keptOf l) d then u.keptOf l ++ [d] else u.keptOf l := by
  rw [State.keptOf, List.foldl_append]
  rfl

theorem State.keptOf_sublist (l : List DescIdx) : (u.keptOf l).Sublist l := by
  induction l using List.reverseRecOn with
  | nil => exact .refl _
  | append_singleton l d ih =>
    rw [State.keptOf_concat]
    split
    · exact ih.append (.refl _)
    · exact ih.trans (List.sublist_append_left _ _)

/-- R140: what stands later in the list does not bear on what is kept of it earlier. -/
theorem State.mem_keptOf_append (hd : d ∉ r) : d ∈ u.keptOf (l ++ r) ↔ d ∈ u.keptOf l := by
  induction r using List.reverseRecOn with
  | nil => rw [List.append_nil]
  | append_singleton r e ih =>
    obtain ⟨hr, he⟩ := not_or.1 (mt List.mem_append.2 hd)
    rw [← List.append_assoc, State.keptOf_concat]
    split
    · rw [List.mem_append, or_iff_left he, ih hr]
    · exact ih hr

theorem State.mem_keptOf_concat (fresh : d ∉ l) : d ∈ u.keptOf (l ++ [d]) ↔ u.clears (u.keptOf l) d = true := by
  have out : d ∉ u.keptOf l := fun hd => fresh ((u.keptOf_sublist l).subset hd)
  rw [State.keptOf_concat]
  split <;> simp [*]

theorem State.filter_keptOf (once : l.Nodup) : (l.filter fun d => decide (d ∈ u.keptOf l)) = u.keptOf l := by
  induction l using List.reverseRecOn with
  | nil => rfl
  | append_singleton l d ih =>
    obtain ⟨once, -, apart⟩ := List.nodup_append'.1 once
    have fresh : d ∉ l := fun hd => apart hd (List.mem_singleton_self d)
    have before : (l.filter fun e => decide (e ∈ u.keptOf (l ++ [d]))) = u.keptOf l :=
      (List.filter_congr fun e he => decide_eq_decide.2 (u.mem_keptOf_append (apart he))).trans (ih once)
    rw [List.filter_append, before, u.keptOf_concat]
    have last := u.mem_keptOf_concat fresh
    rw [u.keptOf_concat] at last
    split <;> simp_all

/-- R140: a frame is kept where it clears the last one kept before it. -/
theorem State.mem_keptOf_iff (once : (l ++ d :: r).Nodup) : d ∈ u.keptOf (l ++ d :: r) ↔
    u.clears (l.filter fun e => decide (e ∈ u.keptOf (l ++ d :: r))) d = true := by
  obtain ⟨onceL, onceR, apart⟩ := List.nodup_append'.1 once
  have earlier : (l.filter fun e => decide (e ∈ u.keptOf (l ++ d :: r))) = u.keptOf l :=
    (List.filter_congr fun e he => decide_eq_decide.2 (u.mem_keptOf_append (apart he))).trans (u.filter_keptOf onceL)
  rw [earlier, List.append_cons, u.mem_keptOf_append (List.nodup_cons.1 onceR).1,
    u.mem_keptOf_concat fun hd => apart hd List.mem_cons_self]

theorem State.mem_leftOf : d ∈ u.leftOf l ↔ d ∈ l ∧ d ∉ u.keptOf l := by
  rw [State.leftOf, List.mem_filter, decide_eq_true_iff]

/-- R140: the verdict on the next frame decides for that frame only. -/
theorem State.leftOf_concat (fresh : d ∉ l) : u.leftOf (l ++ [d]) =
    if u.clears (u.keptOf l) d then u.leftOf l else u.leftOf l ++ [d] := by
  have before : (l.filter fun e => decide (e ∉ u.keptOf (l ++ [d]))) = u.leftOf l :=
    List.filter_congr fun e he => decide_eq_decide.2 (not_congr (u.mem_keptOf_append fun hed : e ∈ [d] =>
      fresh (List.mem_singleton.1 hed ▸ he)))
  rw [State.leftOf, List.filter_append, before]
  have last := u.mem_keptOf_concat fresh
  split <;> simp [*]

end

/-! ### What retires -/

/-- R141: the descriptors that retire with the frames the walk does not keep. -/
def State.goneOf (u : State) (l : List DescIdx) : List DescIdx :=
  (u.leftOf l).flatMap fun d => d :: u.chainAfter chainFuel d

/-- R63, R141: the entries of a frame that is not kept, for port q. -/
def State.rescheduledEntries (u : State) (q : Port) (d : DescIdx) : List Entry :=
  if (u.desc d).owner = some q then u.chainEntries d (u.chainAfter chainFuel d) .rescheduled .chainBroken u.clock.time
  else []

/-- R63, R141: the entries that the walk over a list places for port q, in its order. -/
def State.doneOf (u : State) (l : List DescIdx) (q : Port) : List Entry := (u.leftOf l).flatMap (u.rescheduledEntries q)

/-- R140: frames given their ends under the new profile. -/
def State.rebook (u : State) (kept : List DescIdx) : State :=
  kept.foldl (fun v d => v.modDesc d fun x => { x with resEnd := some (u.newEnd d) }) u

theorem State.rebook_concat (u : State) (kept : List DescIdx) (d : DescIdx) :
    u.rebook (kept ++ [d]) = (u.rebook kept).modDesc d fun x => { x with resEnd := some (u.newEnd d) } := by
  simp only [State.rebook, List.foldl_append, List.foldl_cons, List.foldl_nil]

theorem State.desc_rebook (u : State) (kept : List DescIdx) (e : DescIdx) : (u.rebook kept).desc e =
    if e ∈ kept then { u.desc e with resEnd := some (u.newEnd e) } else u.desc e := by
  induction kept using List.reverseRecOn with
  | nil => rfl
  | append_singleton kept d ih =>
    rw [State.rebook_concat, State.desc_modDesc]
    by_cases hed : e = d
    · subst hed
      rw [if_pos rfl, if_pos (by simp), ih]
      split <;> rfl
    · rw [if_neg hed, ih]
      simp [hed]

/-- R140: new ends reach the table only. -/
theorem State.rebook_eq (u : State) (kept : List DescIdx) :
    ∃ ds, u.rebook kept = { u with store := { u.store with descs := ds } } := by
  induction kept using List.reverseRecOn with
  | nil => exact ⟨_, rfl⟩
  | append_singleton kept d ih =>
    obtain ⟨ds, e⟩ := ih
    rw [State.rebook_concat, e]
    exact ⟨_, rfl⟩

/-- R34 step 2: clearing a link leaves the reservation. -/
theorem Desc.unlinked_resEnd (x : Desc) (stop : Option Time) (ds : List DescIdx) :
    Desc.unlinked { x with resEnd := stop } ds = { x.unlinked ds with resEnd := stop } := by
  cases hx : x.successor with
  | none => simp [Desc.unlinked, hx]
  | some c => by_cases hc : c ∈ ds <;> simp [Desc.unlinked, hx, hc]

/-- R34: a new end of a descriptor beside those that have retired. -/
theorem State.Retired.modDesc_resEnd {v w : State} {ds : List DescIdx} (r : v.Retired w ds) {d : DescIdx} (hd : d ∉ ds)
    (stop : Option Time) :
    (v.modDesc d fun x => { x with resEnd := stop }).Retired (w.modDesc d fun x => { x with resEnd := stop }) ds := by
  refine ⟨fun e he => ?_, fun e he => ?_, r.timed, r.queued, r.counter, r.slot, r.bytes, r.inReset, r.lsense, r.clock, r.enc,
    r.echo, r.prof, r.pending⟩
  · rw [State.desc_modDesc, if_neg fun hed : e = d => hd (hed ▸ he), r.free e he]
  · rw [State.desc_modDesc, State.desc_modDesc, r.others d hd]
    split
    · exact (Desc.unlinked_resEnd _ _ _).symm
    · exact r.others e he

section
variable {u : State} (sched : u.ScheduleSound) (chains : u.ChainsSound)
include sched chains

/-- R42, R47: a listed frame is WAITING and owned, and heads a chain. -/
theorem State.listedChain {d : DescIdx} (hd : d ∈ u.sched.timed) : (u.desc d).state = .waiting ∧
    ∃ p, (u.desc d).owner = some p ∧ u.ChainFrom p d (u.chainAfter chainFuel d) := by
  have waiting := ((sched.timed d).1 hd).1
  have live : (u.desc d).live = true := by simp [Desc.live, waiting]
  refine ⟨waiting, ?_⟩
  cases owner : (u.desc d).owner with
  | none => exact absurd (waiting.symm.trans (sched.owned d live owner)) nofun
  | some p =>
    obtain ⟨cs, chain⟩ := chains.chainFrom ((Desc.ownedBy_iff _ p).2 ⟨live, owner⟩)
    exact ⟨p, rfl, chain.chainAfter.symm ▸ chain⟩

/-- R47: behind its head a listed frame's chain is HELD. -/
theorem State.held_of_listedChain {d x : DescIdx} (hd : d ∈ u.sched.timed) (hx : x ∈ u.chainAfter chainFuel d) :
    (u.desc x).state = .held := by
  obtain ⟨-, p, -, chain⟩ := State.listedChain sched chains hd
  exact (chain.predecessor hx).1

/-- R47: the predecessor of a member of a listed frame's chain is a member. -/
theorem State.predecessor_of_listedChain {d x y : DescIdx} (hd : d ∈ u.sched.timed) (hxy : (u.desc x).successor = some y)
    (hy : y ∈ d :: u.chainAfter chainFuel d) : x ∈ d :: u.chainAfter chainFuel d := by
  obtain ⟨waiting, p, -, chain⟩ := State.listedChain sched chains hd
  rcases List.mem_cons.1 hy with rfl | hy
  · exact absurd (waiting.symm.trans (chains.link x y hxy).2.1) nofun
  · obtain ⟨-, x', hx', hxy'⟩ := chain.predecessor hy
    exact chains.one x x' y hxy hxy' ▸ hx'

/-- R47: the chains of two listed frames have no member in common. -/
theorem State.eq_of_mem_listedChains {d e x : DescIdx} (hd : d ∈ u.sched.timed) (he : e ∈ u.sched.timed)
    (hxd : x ∈ d :: u.chainAfter chainFuel d) (hxe : x ∈ e :: u.chainAfter chainFuel e) : d = e := by
  obtain ⟨waiting, p, -, chain⟩ := State.listedChain sched chains hd
  have back : ∀ x ∈ d :: u.chainAfter chainFuel d, x ∈ e :: u.chainAfter chainFuel e → d = e := by
    refine chain.forall_mem (fun hmem => ?_) fun x y hxy _ _ ih hy =>
      ih (State.predecessor_of_listedChain sched chains he hxy hy)
    rcases List.mem_cons.1 hmem with hde | hde
    · exact hde
    · exact absurd (waiting.symm.trans (State.held_of_listedChain sched chains he hde)) nofun
  exact back x hxd hxe

variable {l : List DescIdx} (listed : l ⊆ u.sched.timed)
include listed

/-- R47, R141: what retires retires with its predecessor. -/
theorem State.predecessor_mem_goneOf {x y : DescIdx} (hxy : (u.desc x).successor = some y) (hy : y ∈ u.goneOf l) :
    x ∈ u.goneOf l := by
  obtain ⟨d, hd, hy⟩ := List.mem_flatMap.1 hy
  exact List.mem_flatMap.2
    ⟨d, hd, State.predecessor_of_listedChain sched chains (listed (u.mem_leftOf.1 hd).1) hxy hy⟩

/-- R141: a listed frame retires where the walk does not keep it. -/
theorem State.listed_mem_goneOf {d : DescIdx} (hd : d ∈ u.sched.timed) : d ∈ u.goneOf l ↔ d ∈ u.leftOf l := by
  refine ⟨fun gone => ?_, fun left => List.mem_flatMap.2 ⟨d, left, List.mem_cons_self⟩⟩
  obtain ⟨e, he, hmem⟩ := List.mem_flatMap.1 gone
  exact State.eq_of_mem_listedChains sched chains hd (listed (u.mem_leftOf.1 he).1) List.mem_cons_self hmem ▸ he

/-- R140, R141: the walk has not touched the chain of a listed frame that it has not come to. -/
theorem State.listedChain_fresh {d x : DescIdx} (hd : d ∈ u.sched.timed) (fresh : d ∉ l)
    (hx : x ∈ d :: u.chainAfter chainFuel d) : x ∉ u.goneOf l ∧ x ∉ u.keptOf l := by
  have head {e : DescIdx} (he : e ∈ l) (hxe : x ∈ e :: u.chainAfter chainFuel e) : False :=
    fresh (State.eq_of_mem_listedChains sched chains hd (listed he) hx hxe ▸ he)
  refine ⟨fun gone => ?_, fun kept => head ((u.keptOf_sublist l).subset kept) List.mem_cons_self⟩
  obtain ⟨e, he, hmem⟩ := List.mem_flatMap.1 gone
  exact head (u.mem_leftOf.1 he).1 hmem

end

/-! ### The walk -/

/-- R140, R141: what the walk over the list l has made of u: the frames kept have their new ends, and the others have
retired with their chains, their entries in their owners' queues. -/
structure Walk.Over (w : Walk) (u : State) (l : List DescIdx) : Prop where
  retired : (u.rebook (u.keptOf l)).Retired w.state (u.goneOf l)
  untold : ∀ q, u.doneOf l q = [] → w.state.port q = u.port q
  told : ∀ q, u.doneOf l q ≠ [] →
    w.state.port q = ((u.port q).withEntries (u.doneOf l q)).afterRetirements (w.state.liveCount q)
  last : w.lastEnd = (u.keptOf l).getLast?.map u.newEnd
  rescheduled : w.rescheduled = (u.leftOf l).length
  broken : w.broken = ((u.leftOf l).map fun d => (u.chainAfter chainFuel d).length).sum

/-- R34 step 7: a port that still has a live descriptor has its entries, and no more. -/
theorem Walk.Over.port_of_live {w : Walk} {u : State} {l : List DescIdx} (h : w.Over u l) {q : Port}
    (live : 0 < w.state.liveCount q) : w.state.port q = (u.port q).withEntries (u.doneOf l q) := by
  by_cases none : u.doneOf l q = []
  · rw [h.untold q none, none, PortState.withEntries_nil]
  · rw [h.told q none, PortState.afterRetirements_of_pos _ live]

/-- R140: the walk's verdict on a frame. -/
theorem Walk.Over.rejects_eq {w : Walk} {u : State} {l : List DescIdx} (h : w.Over u l) (d : DescIdx) :
    w.rejects ((u.desc d).start.getD 0) = !u.clears (u.keptOf l) d := by
  rw [Walk.rejects, h.last, State.clears]
  cases (u.keptOf l).getLast? with
  | none => rfl
  | some k => exact (Bool.not_not _).symm

section
variable {u : State} (sched : u.ScheduleSound) (chains : u.ChainsSound) {l : List DescIdx} (listed : l ⊆ u.sched.timed)
  {w : Walk} (h : w.Over u l)
include sched chains listed h

/-- R34, R140: the records that have not retired stand with their links. -/
theorem Walk.Over.desc {e : DescIdx} (he : e ∉ u.goneOf l) : w.state.desc e = (u.rebook (u.keptOf l)).desc e := by
  refine (h.retired.others e he).trans (Desc.unlinked_of_not_mem fun x hx gone => he ?_)
  refine State.predecessor_mem_goneOf sched chains listed (y := x) ?_ gone
  rw [State.desc_rebook] at hx
  split at hx <;> exact hx

variable {d : DescIdx} (hd : d ∈ u.sched.timed) (fresh : d ∉ l)
include hd fresh

/-- R140, R141: the walk comes to a frame and its chain as they were. -/
theorem Walk.Over.desc_fresh {x : DescIdx} (hx : x ∈ d :: u.chainAfter chainFuel d) : w.state.desc x = u.desc x := by
  obtain ⟨gone, kept⟩ := State.listedChain_fresh sched chains listed hd fresh hx
  rw [h.desc sched chains listed gone, State.desc_rebook, if_neg kept]

/-- R140: a frame that clears the last one kept is kept, with its end under the new profile. -/
theorem Walk.Over.judge_kept (clears : u.clears (u.keptOf l) d = true) : (w.judge d).Over u (l ++ [d]) := by
  have record := h.desc_fresh sched chains listed hd fresh (List.mem_cons_self (a := d))
  have gone := (State.listedChain_fresh sched chains listed hd fresh (List.mem_cons_self (a := d))).1
  have prof : w.state.prof = u.prof := by
    obtain ⟨ds, e⟩ := u.rebook_eq (u.keptOf l)
    exact h.retired.prof.trans (e ▸ rfl)
  have keptOf : u.keptOf (l ++ [d]) = u.keptOf l ++ [d] := u.keptOf_concat.trans (if_pos clears)
  have leftOf : u.leftOf (l ++ [d]) = u.leftOf l := (u.leftOf_concat fresh).trans (if_pos clears)
  have verdict : w.rejects ((u.desc d).start.getD 0) = false := by
    rw [h.rejects_eq, clears]
    rfl
  have acts : w.judge d = { w with
      state := w.state.modDesc d fun x => { x with resEnd := some (u.newEnd d) }, lastEnd := some (u.newEnd d) } := by
    rw [Walk.judge, record, if_neg (Bool.eq_false_iff.1 verdict), prof]
    simp only [State.modDesc, record]
    rfl
  have count (q : Port) : (w.judge d).state.liveCount q = w.state.liveCount q := by
    rw [acts]
    refine State.liveCount_congr fun e => ?_
    rw [State.desc_modDesc]
    split
    · next hed => rw [hed]; rfl
    · rfl
  refine ⟨?_, fun q none => ?_, fun q some => ?_, ?_, ?_, ?_⟩
  · rw [acts, keptOf, State.rebook_concat, State.goneOf, leftOf]
    exact h.retired.modDesc_resEnd gone _
  · rw [State.doneOf, leftOf] at none
    rw [acts]
    exact h.untold q none
  · rw [State.doneOf, leftOf] at some ⊢
    rw [count, acts]
    exact h.told q some
  · rw [acts, keptOf, List.getLast?_concat]
    rfl
  · rw [acts, leftOf]
    exact h.rescheduled
  · rw [acts, leftOf]
    exact h.broken

/-- R141: a frame that does not clear the last one kept retires RESCHEDULED, with its chain. -/
theorem Walk.Over.judge_left (overlaps : u.clears (u.keptOf l) d = false) : (w.judge d).Over u (l ++ [d]) := by
  obtain ⟨-, p, owner, chain⟩ := State.listedChain sched chains hd
  have same {x : DescIdx} (hx : x ∈ d :: u.chainAfter chainFuel d) := h.desc_fresh sched chains listed hd fresh hx
  have record := same List.mem_cons_self
  have chainW : w.state.ChainFrom p d (u.chainAfter chainFuel d) :=
    chain.congr (fun x hx => by rw [same hx]; exact id) (fun x hx => by rw [same hx])
      fun x hx => by rw [same (List.mem_cons_of_mem d hx)]
  have keptOf : u.keptOf (l ++ [d]) = u.keptOf l := u.keptOf_concat.trans (if_neg (by simp [overlaps]))
  have leftOf : u.leftOf (l ++ [d]) = u.leftOf l ++ [d] := (u.leftOf_concat fresh).trans (if_neg (by simp [overlaps]))
  have now : w.state.now = u.clock.time := by
    obtain ⟨ds, e⟩ := u.rebook_eq (u.keptOf l)
    exact congrArg TimeBase.time (h.retired.clock.trans (e ▸ rfl))
  have verdict : w.rejects ((u.desc d).start.getD 0) = true := by
    rw [h.rejects_eq, overlaps]
    rfl
  have acts : w.judge d = { w with
      state := w.state.retireNow d .rescheduled u.clock.time none
      rescheduled := w.rescheduled + 1
      broken := w.broken + (u.chainAfter chainFuel d).length } := by
    rw [Walk.judge, record, if_pos verdict, now, chainW.chainAfter]
  have entries : w.state.chainEntries d (u.chainAfter chainFuel d) .rescheduled .chainBroken u.clock.time =
      u.rescheduledEntries p d := by
    rw [State.rescheduledEntries, if_pos owner]
    exact congrArg₂ List.cons (by rw [record]) (List.map_congr_left fun x hx => by rw [same (List.mem_cons_of_mem d hx)])
  have done := State.retireNow_chain chainW (o := .rescheduled) rfl u.clock.time none
  rw [FrameOutcome.passOn, entries] at done
  have told (q : Port) : u.doneOf (l ++ [d]) q = u.doneOf l q ++ u.rescheduledEntries q d := by
    rw [State.doneOf, leftOf, List.flatMap_append, List.flatMap_singleton, State.doneOf]
  have others {q : Port} (hq : q ≠ p) : u.rescheduledEntries q d = [] ∧
      (w.state.retireNow d .rescheduled u.clock.time none).liveCount q = w.state.liveCount q := by
    refine ⟨if_neg fun e => hq (Option.some.inj (e.symm.trans owner)), State.liveCount_congr fun e => ?_⟩
    by_cases he : e ∈ d :: u.chainAfter chainFuel d
    · have own := ((w.state.desc e).ownedBy_iff p).1 (chainW.owned_of_mem e he)
      rw [done.retired.free e he]
      exact (Bool.eq_false_iff.2 fun foreign =>
        hq (Option.some.inj ((((w.state.desc e).ownedBy_iff q).1 foreign).2.symm.trans own.2))).symm
    · exact done.retired.ownedBy_of_not_mem he
  have own : (w.state.retireNow d .rescheduled u.clock.time none).port p =
      ((u.port p).withEntries (u.doneOf (l ++ [d]) p)).afterRetirements
        ((w.state.retireNow d .rescheduled u.clock.time none).liveCount p) := by
    rw [done.port, if_neg nofun, h.port_of_live (State.liveCount_pos chainW.owned), PortState.withEntries_append, told]
  refine ⟨?_, fun q none => ?_, fun q some => ?_, ?_, ?_, ?_⟩
  · rw [acts, keptOf, State.goneOf, leftOf, List.flatMap_append, List.flatMap_singleton]
    exact h.retired.trans done.retired
  · obtain ⟨none, silent⟩ := List.append_eq_nil_iff.1 ((told q).symm.trans none)
    have hq : q ≠ p := by
      rintro rfl
      rw [State.rescheduledEntries, if_pos owner] at silent
      cases silent
    rw [acts]
    exact (done.others q hq).trans (h.untold q none)
  · rw [acts]
    by_cases hq : q = p
    · rw [hq]
      exact own
    · obtain ⟨silent, count⟩ := others hq
      rw [told, silent, List.append_nil] at some ⊢
      exact (done.others q hq).trans ((h.told q some).trans (by rw [count]))
  · rw [acts, keptOf]
    exact h.last
  · rw [acts, leftOf, List.length_append, ← h.rescheduled]
    rfl
  · rw [acts, leftOf, List.map_append, List.sum_append, ← h.broken]
    rfl

end

/-- R140: the walk over a list of listed frames, frame by frame. -/
theorem Walk.over_judges {u : State} (sched : u.ScheduleSound) (chains : u.ChainsSound) {l : List DescIdx} (once : l.Nodup)
    (listed : l ⊆ u.sched.timed) :
    (l.foldl Walk.judge { state := u, lastEnd := none, rescheduled := 0, broken := 0 }).Over u l := by
  induction l using List.reverseRecOn with
  | nil => exact ⟨.refl u, fun _ _ => rfl, fun _ some => absurd rfl some, rfl, rfl, rfl⟩
  | append_singleton l d ih =>
    obtain ⟨onceL, -, apart⟩ := List.nodup_append'.1 once
    have hd : d ∈ u.sched.timed := listed (by simp)
    have fresh : d ∉ l := fun hmem => apart hmem (List.mem_singleton_self d)
    replace listed : l ⊆ u.sched.timed := fun x hx => listed (List.mem_append_left _ hx)
    rw [List.foldl_append, List.foldl_cons, List.foldl_nil]
    cases clears : u.clears (u.keptOf l) d with
    | true => exact (ih onceL listed).judge_kept sched chains listed hd fresh clears
    | false => exact (ih onceL listed).judge_left sched chains listed hd fresh clears

end Sys2Proof.Machine
end

section
/-! COMMIT (O41). -/

namespace Sys2Proof.Machine

/-- R140: what clearing the last frame kept is, of frames with starts. -/
theorem State.clears_iff {u : State} (sched : u.ScheduleSound) {kept : List DescIdx} {d : DescIdx}
    (listed : kept ⊆ u.sched.timed) (hd : d ∈ u.sched.timed) :
    u.clears kept d = true ↔ ∀ k a b, kept.getLast? = some k → (u.desc k).start = some a → (u.desc d).start = some b →
      before b (plus a ((u.desc k).reservation u.prof.active)) = false := by
  obtain ⟨b, -, start, -⟩ := sched.starts d hd
  cases last : kept.getLast? with
  | none => simp [State.clears, last]
  | some k =>
    obtain ⟨a, -, startK, -⟩ := sched.starts k (listed (List.mem_of_getLast? last))
    have verdict : u.clears kept d = !before b (plus a ((u.desc k).reservation u.prof.active)) := by
      simp [State.clears, State.newEnd, last, start, startK]
    rw [verdict, Bool.not_eq_true']
    refine ⟨?_, fun ends => ends k a b rfl startK start⟩
    rintro clear k a' b' ⟨⟩ startK' start'
    rwa [← Option.some.inj (startK.symm.trans startK'), ← Option.some.inj (start.symm.trans start')]

/-- R47: the chain behind a descriptor is read from the table. -/
theorem State.chainAfter_congr {s t : State} (same : ∀ d, t.desc d = s.desc d) (n : Nat) (d : DescIdx) :
    t.chainAfter n d = s.chainAfter n d := by
  induction n generalizing d with
  | zero => rfl
  | succ n ih =>
    rw [State.chainAfter, State.chainAfter, same]
    cases (s.desc d).successor with
    | none => rfl
    | some e => exact congrArg (e :: ·) (ih e)

/-- R45: a queue that loses none of its members stays. -/
theorem AsapQueues.remove_eq_self (q : AsapQueues) {keep : DescIdx → Bool} (h : ∀ d ∈ q.order, keep d = true) :
    q.remove keep = q :=
  (q.remove_congr h).trans (by simp [AsapQueues.remove])

/-! ### What the walk over the whole timed list leaves -/

section
variable {u : State} (sched : u.ScheduleSound) (chains : u.ChainsSound) {w : Walk} (h : w.Over u u.sched.timed)
include h

/-- R140, R141: the walk reaches the table, the scheduler, the slot, the pool and the ports only. -/
theorem Walk.Over.part : w.state.sched.counter = u.sched.counter ∧ u.SameBytes w.state ∧ w.state.inReset = u.inReset ∧
    w.state.lsense = u.lsense ∧ w.state.clock = u.clock ∧ w.state.enc = u.enc ∧ w.state.echo = u.echo ∧
    w.state.prof = u.prof ∧ w.state.pending = u.pending := by
  obtain ⟨ds, eq⟩ := u.rebook_eq (u.keptOf u.sched.timed)
  have retired := h.retired
  rw [eq] at retired
  exact ⟨retired.counter, retired.bytes, retired.inReset, retired.lsense, retired.clock, retired.enc, retired.echo,
    retired.prof, retired.pending⟩

/-- R34 step 7: a port whose session is not CLOSING has its entries, and no more. -/
theorem Walk.Over.port_of_not_closing {q : Port} (going : (u.port q).session.state ≠ .closing) :
    w.state.port q = (u.port q).withEntries (u.doneOf u.sched.timed q) := by
  by_cases none : u.doneOf u.sched.timed q = []
  · rw [h.untold q none, none, PortState.withEntries_nil]
  · rw [h.told q none, PortState.afterRetirements, if_neg fun closing => going closing.1]

include sched chains

/-- R140: the frames kept stay listed, and no others. -/
theorem Walk.Over.mem_timed {d : DescIdx} : d ∈ w.state.sched.timed ↔ d ∈ u.keptOf u.sched.timed := by
  obtain ⟨ds, eq⟩ := u.rebook_eq (u.keptOf u.sched.timed)
  rw [h.retired.timed, eq, List.mem_filter, decide_eq_true_iff]
  refine ⟨fun ⟨listed, stays⟩ => ?_, fun kept => ?_⟩
  · rw [State.listed_mem_goneOf sched chains (List.Subset.refl _) listed, State.mem_leftOf] at stays
    simpa [listed] using stays
  · have listed := (u.keptOf_sublist _).subset kept
    rw [State.listed_mem_goneOf sched chains (List.Subset.refl _) listed, State.mem_leftOf]
    exact ⟨listed, fun left => left.2 kept⟩

/-- R140: the list keeps its order. -/
theorem Walk.Over.timed :
    w.state.sched.timed = u.sched.timed.filter fun d => decide (d ∈ w.state.sched.timed) := by
  obtain ⟨ds, eq⟩ := u.rebook_eq (u.keptOf u.sched.timed)
  have timed := h.retired.timed
  rw [eq] at timed
  refine timed.trans (List.filter_congr fun d listed => decide_eq_decide.2 ?_)
  rw [h.mem_timed sched chains, State.listed_mem_goneOf sched chains (List.Subset.refl _) listed, State.mem_leftOf]
  simp [listed]

/-- R141: the frames that left the list are those that the walk does not keep. -/
theorem Walk.Over.left :
    (u.sched.timed.filter fun d => decide (d ∉ w.state.sched.timed)) = u.leftOf u.sched.timed :=
  List.filter_congr fun _ _ => decide_eq_decide.2 (not_congr (h.mem_timed sched chains))

/-- R140: which frames the walk keeps. -/
theorem Walk.Over.verdict {l r : List DescIdx} {d : DescIdx} (split : u.sched.timed = l ++ d :: r) :
    d ∈ w.state.sched.timed ↔
      ∀ k a b, (l.filter fun e => decide (e ∈ w.state.sched.timed)).getLast? = some k →
        (u.desc k).start = some a → (u.desc d).start = some b →
        before b (plus a ((u.desc k).reservation u.prof.active)) = false := by
  have earlier : (l.filter fun e => decide (e ∈ w.state.sched.timed)) =
      l.filter fun e => decide (e ∈ u.keptOf (l ++ d :: r)) :=
    List.filter_congr fun e _ => decide_eq_decide.2 (split ▸ h.mem_timed sched chains)
  have listed : l ++ d :: r ⊆ u.sched.timed := split ▸ List.Subset.refl _
  rw [earlier, ← State.clears_iff sched (fun e he => listed (List.mem_append_left _ (List.mem_filter.1 he).1))
    (listed (by simp)), h.mem_timed sched chains, split]
  exact u.mem_keptOf_iff (split ▸ sched.timedOnce)

/-- R140: a frame kept has its end under the new profile. -/
theorem Walk.Over.desc_kept {d : DescIdx} (hd : d ∈ w.state.sched.timed) {a : Time} (start : (u.desc d).start = some a) :
    w.state.desc d = { u.desc d with resEnd := some (plus a ((u.desc d).reservation u.prof.active)) } := by
  have kept := (h.mem_timed sched chains).1 hd
  have stays : d ∉ u.goneOf u.sched.timed := by
    rw [State.listed_mem_goneOf sched chains (List.Subset.refl _) ((u.keptOf_sublist _).subset kept), State.mem_leftOf]
    exact fun left => left.2 kept
  rw [h.desc sched chains (List.Subset.refl _) stays, State.desc_rebook, if_pos kept, State.newEnd, start]
  rfl

omit sched chains in
/-- R141: a frame that is not kept is FREE, and so is its chain. -/
theorem Walk.Over.desc_left {d x : DescIdx} (hd : d ∈ u.leftOf u.sched.timed) (hx : x ∈ d :: u.chainAfter chainFuel d) :
    w.state.desc x = Desc.blank :=
  h.retired.free x (List.mem_flatMap.2 ⟨d, hd, hx⟩)

/-- R140, R141: every other record stands. -/
theorem Walk.Over.desc_other {e : DescIdx} (unlisted : e ∉ u.sched.timed)
    (apart : ∀ d ∈ u.leftOf u.sched.timed, e ∉ u.chainAfter chainFuel d) : w.state.desc e = u.desc e := by
  have stays : e ∉ u.goneOf u.sched.timed := fun gone => by
    obtain ⟨d, hd, hmem⟩ := List.mem_flatMap.1 gone
    rcases List.mem_cons.1 hmem with rfl | hmem
    · exact unlisted (u.mem_leftOf.1 hd).1
    · exact apart d hd hmem
  rw [h.desc sched chains (List.Subset.refl _) stays, State.desc_rebook,
    if_neg fun kept => unlisted ((u.keptOf_sublist _).subset kept)]

omit h in
/-- R47, R141: what retires was listed or HELD. -/
theorem State.listed_or_held_of_gone {d : DescIdx} (gone : d ∈ u.goneOf u.sched.timed) :
    d ∈ u.sched.timed ∨ (u.desc d).state = .held := by
  obtain ⟨e, he, hmem⟩ := List.mem_flatMap.1 gone
  have listed := (u.mem_leftOf.1 he).1
  rcases List.mem_cons.1 hmem with rfl | hmem
  · exact .inl listed
  · exact .inr (State.held_of_listedChain sched chains listed hmem)

/-- R141: nothing that retires stands in a queue. -/
theorem Walk.Over.asap : w.state.sched.asap = u.sched.asap := by
  obtain ⟨ds, eq⟩ := u.rebook_eq (u.keptOf u.sched.timed)
  have queued := h.retired.queued
  rw [eq] at queued
  refine queued.trans (AsapQueues.remove_eq_self _ fun d hd => decide_eq_true fun gone => ?_)
  obtain ⟨waiting, cls⟩ := (sched.queued d).1 hd
  rcases State.listed_or_held_of_gone sched chains gone with listed | held
  · exact cls ((sched.timed d).1 listed).2
  · exact absurd (waiting.symm.trans held) nofun

/-- R141: nothing that retires is on the line. -/
theorem Walk.Over.disp (line : u.LineSound) : w.state.disp = u.disp := by
  obtain ⟨ds, eq⟩ := u.rebook_eq (u.keptOf u.sched.timed)
  have slot := h.retired.slot
  rw [eq] at slot
  refine slot.trans (if_neg fun ⟨d, gone, hslot⟩ => ?_)
  have onLine := (line.onLine d).2 hslot
  rcases State.listed_or_held_of_gone sched chains gone with listed | held
  · exact absurd (onLine.symm.trans ((sched.timed d).1 listed).1) nofun
  · exact absurd (onLine.symm.trans held) nofun

end

/-! ### COMMIT -/

/-- R113, R139: a part that COMMIT has put under the profile w, its ports as they are by then. -/
def State.recommitted (s : State) (w : Profile) (ps : Ports) : State :=
  { s with
    prof := { s.prof with active := w }
    echo := { s.echo with counted := false, abortPending := false }
    ports := ps }

section
variable {s : State} {w : Profile} {ps : Ports}

theorem State.ScheduleSound.recommitted (h : s.ScheduleSound) : (s.recommitted w ps).ScheduleSound :=
  ⟨h.timed, h.queued, h.timedOnce, h.queuedOnce, h.held, h.starts, h.owned⟩

theorem State.ChainsSound.recommitted (h : s.ChainsSound) : (s.recommitted w ps).ChainsSound :=
  ⟨h.link, h.one, h.held, h.noLoop⟩

theorem State.LineSound.recommitted (h : s.LineSound) : (s.recommitted w ps).LineSound :=
  ⟨h.phase, h.slot, h.onLine, h.resting, h.gap⟩

end

/-- R139 steps 1 and 2, of a taken request. -/
theorem State.activate_taken (s : State) (p : Port) (code tag : Byte) (fields : List Byte) {w : Profile}
    (staged : s.prof.staged = some w) :
    (s.taken p code tag fields).activate = s.recommitted w (s.taken p code tag fields).ports := by
  have copy : s.stagedProfile = w := by rw [State.stagedProfile, staged]; rfl
  rw [State.taken_eq]
  simp only [State.activate, State.recommitted, State.stagedProfile, State.modPort] at copy ⊢
  rw [copy, ← staged]

/-- R138: a COMMIT that passes the holder's checks. -/
theorem State.doCommit_passes {s : State} {p : Port} {fields : List Byte} (tag : Byte)
    (passes : s.holderRefusal p fields = none) : State.doCommit p tag fields s =
      if s.disp.line ≠ .disabled then s.reply p Config.codeCommit tag .notDisabled
      else s.activate.revalidate.state.reply p Config.codeCommit tag .ok
        (.committed s.activate.revalidate.rescheduled s.activate.revalidate.broken) := by
  simp only [State.doCommit, passes]

/-- R139: a taken COMMIT that passes its checks walks the part under the staged profile, the request's lease and link
in the ports already. -/
theorem commit_walks {s : State} {p : Port} {tag : Byte} {fields : List Byte} {w : Profile} (h : s.Takes p fields)
    (passes : s.holderRefusal p fields = none) (disabled : s.disp.line = .disabled) (staged : s.prof.staged = some w) :
    ∃ ps, exec (.commit p tag fields) s = .next ((s.recommitted w ps).revalidate.state.reply p Config.codeCommit tag .ok
        (.committed (s.recommitted w ps).revalidate.rescheduled (s.recommitted w ps).revalidate.broken)) ∧
      (s.recommitted w ps).port p = { (s.port p).renewed with link := s.sentLink p Config.codeCommit tag fields } ∧
      ∀ q, q ≠ p → (s.recommitted w ps).port q = s.port q := by
  have acts := State.doCommit_passes tag ((s.holderRefusal_taken p Config.codeCommit tag fields).trans passes)
  rw [(s.taken_line p Config.codeCommit tag fields).1, if_neg (not_not_intro disabled),
    s.activate_taken p Config.codeCommit tag fields staged] at acts
  have port (q : Port) : (s.recommitted w (s.taken p Config.codeCommit tag fields).ports).port q =
    (s.taken p Config.codeCommit tag fields).port q := rfl
  refine ⟨_, congrArg Host.Outcome.next ((s.request_taken p Config.codeCommit tag fields _ h).trans acts), ?_,
    fun q hq => ?_⟩
  · rw [port, State.taken_eq, State.port_modPort, if_pos rfl]
  · rw [port, State.taken_eq, State.port_modPort, if_neg hq]

/-- Settles O41: the holder's checks, the line's state, and the walk over the timed list. -/
theorem commitRevalidates : Obligations.CommitRevalidates := by
  intro p tag fields s h
  refine ⟨State.holderChecked_of_refusal h (act := State.doCommit p tag fields) rfl fun t r hr => ?_,
    fun session hf holder => ⟨fun going => ?_, fun disabled sched line chains profile w staged => ?_⟩⟩
  · simp only [State.doCommit, hr]
    rfl
  · have passes := (s.holderRefusal_taken p Config.codeCommit tag fields).trans
      (State.holderRefusal_none session hf holder)
    refine s.replies_of_reply _ p Config.codeCommit tag fields (State.doCommit p tag fields) _ _ h rfl ?_
    rw [State.doCommit_passes tag passes, (s.taken_line p Config.codeCommit tag fields).1, if_pos going]
  have atRest := line.rest (by rw [disabled]; exact nofun)
  obtain ⟨ps, acts, own, other⟩ := commit_walks (tag := tag) h (State.holderRefusal_none session hf holder) disabled staged
  replace sched := sched.recommitted (w := w) (ps := ps)
  replace chains := chains.recommitted (w := w) (ps := ps)
  have walk : (s.recommitted w ps).revalidate.Over (s.recommitted w ps) (s.recommitted w ps).sched.timed :=
    Walk.over_judges sched chains sched.timedOnce (List.Subset.refl _)
  obtain ⟨counter, bytes, inReset, lsense, clock, enc, echo, prof, pending⟩ := walk.part
  have disp := walk.disp sched chains line.recommitted
  have going : ((s.recommitted w ps).port p).session.state ≠ .closing := by
    rw [own, (s.port p).renewed_keeps.1, profile.opened p holder]
    exact nofun
  refine ⟨_, acts, ?_⟩
  intro left chain done
  have chain_eq : chain = (s.recommitted w ps).chainAfter chainFuel :=
    funext fun d => State.chainAfter_congr (s := s.recommitted w ps) (t := s) (fun _ => rfl) chainFuel d
  have left_eq : left = (s.recommitted w ps).leftOf s.sched.timed := walk.left sched chains
  have done_eq (q : Port) : done q = (s.recommitted w ps).doneOf s.sched.timed q := by
    simp only [done, left_eq, chain_eq]
    rfl
  clear_value done chain left
  subst chain_eq left_eq
  refine ⟨prof, ?_, walk.timed sched chains, fun l d r split => walk.verdict sched chains split,
    fun d hd a start => walk.desc_kept sched chains hd start,
    fun d hd => ⟨walk.desc_left hd List.mem_cons_self, fun c hc => walk.desc_left hd (List.mem_cons_of_mem d hc)⟩,
    fun e unlisted apart => walk.desc_other sched chains unlisted apart, walk.asap sched chains, counter, bytes, echo,
    ⟨inReset, lsense, clock, fun _ => rfl, fun _ => rfl, rfl, disp, enc, rfl, rfl, pending⟩,
    fun q hq => ⟨fun none => ?_, fun some => ?_⟩, ?_⟩
  · refine (State.lout_of_rest (inReset.trans h.running) (State.producing_of_no_slot ?_)).trans
      (congrArg (·.active.idleLevel) prof)
    exact (congrArg Dispatcher.slot disp).trans atRest.2.1
  · rw [State.port_reply, if_neg hq]
    exact (walk.untold q ((done_eq q).symm.trans none)).trans (other q hq)
  · rw [done_eq] at some ⊢
    rw [State.port_reply, if_neg hq, ← other q hq]
    exact walk.told q some
  · rw [State.port_reply, if_pos rfl, walk.port_of_not_closing going, own, PortState.withEntries_append, done_eq,
      walk.rescheduled, walk.broken]
    exact s.agrees_sentLink p Config.codeCommit tag fields h (r := (s.port p).renewed.withEntries _) rfl

end Sys2Proof.Machine
end

section
/-! OPEN and RENEW (O43, O44). -/

namespace Sys2Proof.Machine

/-! ### The lease class of an OPEN -/

/-- R148, R186: a lease class is read back from its byte. -/
theorem readOpen_number (c : LeaseClass) : readOpen [byteOf c.number] = some c := by cases c <;> rfl

theorem eq_number_of_leaseClassOf {n : Nat} {c : LeaseClass} (h : leaseClassOf n = some c) : n = c.number := by
  unfold leaseClassOf at h
  split at h <;> cases h <;> rfl

/-- R149: what names no lease class is refused. -/
theorem readOpen_eq_none {fields : List Byte} (h : ∀ c : LeaseClass, fields ≠ [byteOf c.number]) :
    readOpen fields = none := by
  unfold readOpen
  split
  · next b =>
    refine Option.eq_none_iff_forall_ne_some.2 fun c read => h c ?_
    rw [← eq_number_of_leaseClassOf read, byteOf_toNat]
  · rfl

/-! ### OPEN -/

/-- R170: whether two entries have no room is what it was before the request was taken. -/
theorem State.noRoomForTwo_taken (s : State) (p : Port) (code tag : Byte) (fields : List Byte) :
    (!(s.taken p code tag fields).roomFor p 2) = true ↔ 24 < s.used p + s.reserved p + 2 := by
  rw [State.roomFor, State.used_taken, State.reserved_taken, Config.queueSize]
  simp only [Bool.not_eq_true', decide_eq_false_iff_not, Nat.not_le]

/-- R149: the checks of an OPEN that names a lease class, as a taken request finds the port. -/
theorem State.doOpen_taken (s : State) (p : Port) (tag : Byte) (c : LeaseClass) :
    let t := s.taken p Config.codeOpen tag [byteOf c.number]
    let found := (s.port p).session.state
    State.doOpen p tag [byteOf c.number] t =
      if found = .closing then t.reply p Config.codeOpen tag .wrongState
      else if found ≠ .opened ∧ 24 < s.used p + s.reserved p + 2 then t.reply p Config.codeOpen tag .noRoom
      else (t.startLease p c).reply p Config.codeOpen tag .ok (.opened found c) := by
  intro t found
  simp only [t, found, State.doOpen, readOpen_number, State.sessionState_taken, State.noRoomForTwo_taken]

/-- R150: the port whose session is OPEN with a fresh lease, LEASE_LOW clear. -/
def PortState.leased (q : PortState) (c : LeaseClass) : PortState :=
  { q with
    session := { state := .opened, lease := some c, remaining := c.period, form := none }
    queue := { q.queue with leaseLow := false } }

/-- R150: a lease that starts, with the REPLY behind it, is one change of the port. -/
theorem State.startLease_reply (s : State) (p : Port) (c : LeaseClass) (code tag : Byte) (r : ResultCode)
    (data : ReplyData) : (s.startLease p c).reply p code tag r data =
      s.modPort p fun q => (q.leased c).withEntries [.reply code tag r data] :=
  s.modPort_modPort p (·.leased c) _

/-- R150: a taken OPEN that starts a lease changes its own port only. -/
theorem open_serves {s : State} {p : Port} {tag : Byte} {c : LeaseClass} (h : s.Takes p [byteOf c.number])
    (acts : let t := s.taken p Config.codeOpen tag [byteOf c.number]
      State.doOpen p tag [byteOf c.number] t =
        (t.startLease p c).reply p Config.codeOpen tag .ok (.opened (s.port p).session.state c)) :
    s.Serves (.openSession p tag [byteOf c.number]) p (((s.port p).renewed.leased c).withEntries
      [.reply 0x10 tag .ok (.opened (s.port p).session.state c)]) :=
  s.serves_of_modPort _ p Config.codeOpen tag [byteOf c.number] (State.doOpen p tag [byteOf c.number])
    (fun q => (q.leased c).withEntries [.reply 0x10 tag .ok (.opened (s.port p).session.state c)])
    h rfl (acts.trans (State.startLease_reply ..)) (fun _ _ => rfl) rfl

/-- Settles O43: the checks of OPEN in their order, and the lease that starts where all of them pass. -/
theorem openStartsLease : Obligations.OpenStartsLease := by
  intro p tag fields s h found
  have answers (r : ResultCode) := s.replies_of_reply (.openSession p tag fields) p Config.codeOpen tag fields
    (State.doOpen p tag fields) r .none h rfl
  refine ⟨fun bad => answers _ ?_, ?_⟩
  · simp only [State.doOpen, readOpen_eq_none bad]
  rintro c rfl
  have acts := s.doOpen_taken p tag c
  refine ⟨fun closing => answers _ (acts.trans (if_pos closing)), fun ended tight => answers _ (acts.trans ?_),
    fun passes => open_serves h (acts.trans ?_)⟩
  · obtain ⟨going, notOpen⟩ : found ≠ .closing ∧ found ≠ .opened := by
      rcases ended with state | state <;> simp [state]
    rw [if_neg going, if_pos ⟨notOpen, tight⟩]
  · have going : found ≠ .closing := by
      rcases passes with state | ⟨state | state, -⟩ <;> simp [state]
    have room : ¬ (found ≠ .opened ∧ 24 < s.used p + s.reserved p + 2) := fun ⟨notOpen, tight⟩ =>
      passes.elim notOpen fun ⟨_, fits⟩ => Nat.not_lt.2 fits tight
    rw [if_neg going, if_neg room]

/-! ### RENEW -/

/-- R151: a renewal sets the lease remaining of a session to the full period. -/
theorem PortState.renewed_remaining {q : PortState} {c : LeaseClass} (lease : q.session.lease = some c)
    (session : q.session.state = .opened ∨ q.session.state = .closing) : q.renewed.session.remaining = c.period := by
  simp only [PortState.renewed, lease, if_pos session]

theorem State.lease_taken (s : State) (p : Port) (code tag : Byte) (fields : List Byte) :
    ((s.taken p code tag fields).port p).session.lease = (s.port p).session.lease := by
  rw [State.taken_eq, State.port_modPort, if_pos rfl]
  exact (s.port p).renewed_keeps.2.1

/-- Settles O44: the checks of RENEW in their order; every taken request has renewed the lease by the time they are made,
so the reply carries the count from before. -/
theorem renewAnswers : Obligations.RenewAnswers := by
  intro p tag fields s h
  have no := State.noSession_taken (s := s) p Config.codeRenew tag fields
  have answers (r : ResultCode) (data : ReplyData) := s.replies_of_reply (.renew p tag fields) p Config.codeRenew tag fields
    (State.doRenew p tag fields (s.port p).session.remaining) r data h rfl
  refine ⟨fun none => answers _ _ (if_pos (no.2 none)), fun session hf => answers _ _ ?_,
    fun session hf c lease => ⟨PortState.renewed_remaining lease session, answers _ _ ?_⟩⟩
  · rw [State.doRenew, if_neg (mt no.1 (not_not_intro session)), if_pos hf]
  · rw [State.doRenew, if_neg (mt no.1 (not_not_intro session)), if_neg (not_not_intro hf), State.lease_taken, lease,
      State.sessionState_taken]
    rfl

end Sys2Proof.Machine
end

section
/-! Every queue keeps its room (O55): what the operations over ports, frames and the line leave of the used and the
reserved entries. -/

namespace Sys2Proof.Machine

/-! ### Occupied entries -/

/-- R163, R169: what a port's own record occupies of its queue: its entries, and one for an OPEN or CLOSING session. -/
def PortState.occupies (q : PortState) : Nat := q.queue.entries.length + q.session.active.toNat

/-- R169, R170: the used and the reserved entries of p's queue. -/
def State.occupancy (s : State) (p : Port) : Nat := s.used p + s.reserved p

theorem State.occupancy_eq (s : State) (p : Port) : s.occupancy p = (s.port p).occupies + s.liveCount p := by
  have session : (if s.hasSession p then 1 else 0) = (s.port p).session.active.toNat := by
    rw [State.hasSession]
    cases (s.port p).session.active <;> rfl
  rw [State.occupancy, State.reserved, session, ← Nat.add_assoc, Nat.add_right_comm]
  rfl

/-- R170: no queue has less room than before. -/
def State.NoFuller (s t : State) : Prop := ∀ p, t.occupancy p ≤ s.occupancy p

theorem State.NoFuller.refl (s : State) : s.NoFuller s := fun _ => Nat.le_refl _

theorem State.NoFuller.trans {s t u : State} (h : s.NoFuller t) (k : t.NoFuller u) : s.NoFuller u :=
  fun p => (k p).trans (h p)

/-- R20: a port that owns no other record owns no more of them. -/
theorem State.liveCount_mono {s t : State} {p : Port}
    (h : ∀ d, (t.desc d).ownedBy p = true → (s.desc d).ownedBy p = true) : t.liveCount p ≤ s.liveCount p := by
  rw [State.liveCount_eq, State.liveCount_eq]
  refine Finset.sum_le_sum fun d _ => ?_
  by_cases hd : (t.desc d).ownedBy p = true
  · simp [hd, h d hd]
  · simp [hd]

/-- R169: queues, sessions and owners decide. -/
theorem State.NoFuller.of_parts {s t : State} (ports : ∀ p, (t.port p).occupies ≤ (s.port p).occupies)
    (owned : ∀ p d, (t.desc d).ownedBy p = true → (s.desc d).ownedBy p = true) : s.NoFuller t := fun p => by
  rw [State.occupancy_eq, State.occupancy_eq]
  exact Nat.add_le_add (ports p) (State.liveCount_mono (owned p))

/-- A change that reaches neither the table nor a port. -/
theorem State.NoFuller.of_eq {s t : State} (h : (t.store.descs, t.ports) = (s.store.descs, s.ports)) : s.NoFuller t := by
  simp only [Prod.mk.injEq] at h
  obtain ⟨descs, ports⟩ := h
  exact .of_parts (fun p => by rw [State.port, ports, State.port]) fun p d hd => by rwa [State.desc, descs] at hd

/-- A change of the records that keeps their bodies or frees them. -/
theorem State.NoFuller.of_bodies {s t : State} (ports : t.ports = s.ports) (bodies : s.KeepsBodies t) : s.NoFuller t :=
  .of_parts (fun p => by rw [State.port, ports, State.port]) fun _ d => (bodies d).ownedBy

/-! ### Updates of a port and of a record -/

theorem State.noFuller_modPort (s : State) (p : Port) (f : PortState → PortState)
    (hf : (f (s.port p)).occupies ≤ (s.port p).occupies) : s.NoFuller (s.modPort p f) :=
  .of_parts (fun q => by
    rw [State.port_modPort]
    split
    · next hq => exact hq ▸ hf
    · exact Nat.le_refl _) fun _ _ => id

theorem State.noFuller_modLink (s : State) (p : Port) (f : Link → Link) : s.NoFuller (s.modLink p f) :=
  s.noFuller_modPort p _ (Nat.le_refl _)

theorem State.noFuller_setDesc (s : State) (d : DescIdx) (x : Desc) (hx : (s.desc d).SameBody x) :
    s.NoFuller (s.setDesc d x) :=
  .of_bodies rfl fun e => by
    rw [State.desc_setDesc]
    split
    · next he => exact .inl (he ▸ hx)
    · exact .inl (.of_eq rfl)

theorem State.noFuller_modDesc (s : State) (d : DescIdx) (f : Desc → Desc) (hf : (s.desc d).SameBody (f (s.desc d))) :
    s.NoFuller (s.modDesc d f) :=
  s.noFuller_setDesc d _ hf

/-- R158: SESSION_CLOSED takes the entry that the session had reserved. -/
theorem State.noFuller_complete (s : State) (p : Port) : s.NoFuller (s.complete p) := by
  rcases s.complete_cases p with ⟨-, e⟩ | ⟨closing, -, e⟩ <;> rw [e]
  · exact .refl s
  · refine s.noFuller_modPort p _ ?_
    simp [PortState.occupies, PortState.completed, Session.active, closing]

/-- R151: a renewal leaves the entries and the session's state. -/
theorem PortState.occupies_renewed (q : PortState) : q.renewed.occupies = q.occupies := by
  obtain ⟨state, -, -, entries, -⟩ := q.renewed_keeps
  have active : q.renewed.session.active = q.session.active := by simp only [Session.active, state]
  rw [PortState.occupies, PortState.occupies, active, entries]

theorem State.noFuller_renew (s : State) (p : Port) : s.NoFuller (s.renew p) := by
  rw [State.renew_eq]
  exact s.noFuller_modPort p _ (s.port p).occupies_renewed.le

theorem State.noFuller_releaseClaim (s : State) (p : Port) : s.NoFuller (s.releaseClaim p) := by
  rw [State.releaseClaim_eq]
  exact .of_eq rfl

theorem State.noFuller_markOnLine (s : State) (p : Port) : s.NoFuller (s.markOnLine p) := by
  unfold State.markOnLine
  split
  · split
    · exact s.noFuller_modDesc _ _ (.of_eq rfl)
    · exact .refl s
  · exact .refl s

/-! ### Retirement -/

/-- R17: no record names d as its successor. -/
def State.Unnamed (s : State) (d : DescIdx) : Prop := ∀ x, (s.desc x).successor ≠ some d

/-- R34 step 1: the FRAME_DONE takes one entry of its owner's queue. -/
theorem State.occupancy_announced (s : State) {d : DescIdx} (live : (s.desc d).live = true) (o : FrameOutcome)
    (stop : Time) (p : Port) : ((s.announce d o stop).unlink d).occupancy p =
      s.occupancy p + if (s.desc d).ownedBy p then 1 else 0 := by
  have count : ((s.announce d o stop).unlink d).liveCount p = s.liveCount p :=
    State.liveCount_congr (s.announced_ownedBy d o stop p)
  rw [State.occupancy_eq, State.occupancy_eq, count, State.unlink_port]
  by_cases own : (s.desc d).ownedBy p = true
  · simp only [State.announce_of_owned own, State.port_place, own, PortState.occupies, PortState.withEntries_entries,
      PortState.withEntries_session, List.length_append, List.length_singleton, if_true]
    omega
  · have other : (s.announce d o stop).port p = s.port p := by
      unfold State.announce
      split
      · next q hq =>
        rw [State.port_place, if_neg]
        rintro rfl
        exact own ((Desc.ownedBy_iff _ _).2 ⟨live, hq⟩)
      · rfl
    rw [other, if_neg own]
    omega

/-- R34 steps 4 and 5: a record that is freed gives back the entry reserved for it. -/
theorem State.occupancy_vacate (s : State) (d : DescIdx) (p : Port) :
    (s.vacate d).occupancy p + (if (s.desc d).ownedBy p then 1 else 0) = s.occupancy p := by
  have store : (s.leave d).store = s.store := by
    unfold State.leave
    dsimp only
    split <;> rfl
  have desc : (s.leave d).desc d = s.desc d := by rw [State.desc, store, State.desc]
  have set := (s.leave d).liveCount_setDesc d Desc.blank p
  have same : (s.leave d).liveCount p = s.liveCount p := by rw [State.liveCount, store, State.liveCount]
  have blank : Desc.blank.ownedBy p = false := rfl
  rw [desc, same, blank] at set
  rw [State.occupancy_eq, State.occupancy_eq, State.vacate_port]
  change (s.vacate d).liveCount p + _ = _ at set
  simp only [Bool.false_eq_true, if_false] at set
  omega

/-- R34: what a retirement does: no queue is fuller, the session of the port whose command completes it goes on, and a
record that nothing names, but the one d that retires, stays its owner's. -/
structure State.RetiresWithin (s t : State) (d : Option DescIdx) (defer : Option Port) : Prop where
  room : s.NoFuller t
  session : ∀ p, defer = some p → (t.port p).session = (s.port p).session
  unnamed : ∀ e, d ≠ some e → s.Unnamed e → t.Unnamed e ∧ ∀ p, (t.desc e).ownedBy p = (s.desc e).ownedBy p

section
variable {s t u v : State} {d : Option DescIdx} {defer : Option Port}

theorem State.RetiresWithin.refl (s : State) : s.RetiresWithin s d defer :=
  ⟨.refl s, fun _ _ => rfl, fun _ _ h => ⟨h, fun _ => rfl⟩⟩

/-- A change of a record that leaves its link and its owner, and then a retirement. -/
theorem State.RetiresWithin.of_modDesc {c : DescIdx} {f : Desc → Desc} (h : (s.modDesc c f).RetiresWithin t d defer)
    (body : (s.desc c).SameBody (f (s.desc c))) (successor : (f (s.desc c)).successor = (s.desc c).successor)
    (owned : ∀ p, (f (s.desc c)).ownedBy p = (s.desc c).ownedBy p) : s.RetiresWithin t d defer where
  room := (s.noFuller_modDesc c f body).trans h.room
  session := h.session
  unnamed e he unnamed := by
    have read {α : Type} (g : Desc → α) (same : g (f (s.desc c)) = g (s.desc c)) (x : DescIdx) :
        g ((s.modDesc c f).desc x) = g (s.desc x) := by
      rw [State.desc_modDesc]
      split
      · next hx => rw [hx, same]
      · rfl
    obtain ⟨stays, own⟩ := h.unnamed e he fun x => read Desc.successor successor x ▸ unnamed x
    exact ⟨stays, fun p => (own p).trans (read (Desc.ownedBy p) (owned p) e)⟩

/-- R62: a HELD descriptor that is released stays live, and its owner's. -/
theorem State.release_within (u : State) {c : DescIdx} (held : (u.desc c).state = .held) (stop : Time) :
    u.RetiresWithin (u.release c stop) d defer where
  room := .of_bodies rfl (u.keepsTable_release c stop held).bodies
  session _ _ := rfl
  unnamed e _ h := by
    refine ⟨fun x => ?_, fun p => ?_⟩
    · rw [State.desc_release]
      split
      · next hx => exact hx ▸ h x
      · exact h x
    · rw [State.desc_release]
      split
      · next he => rw [he, Desc.ownedBy, Desc.ownedBy, Desc.live, Desc.live, held]; rfl
      · rfl

/-- R17: a successor is named, so its retirement leaves every record that nothing names. -/
theorem State.RetiresWithin.of_successor {e c : DescIdx} (h : u.RetiresWithin v (some c) defer)
    (link : (u.desc e).successor = some c) : u.RetiresWithin v none defer :=
  ⟨h.room, h.session, fun x _ unnamed => h.unnamed x (fun hx => unnamed e (link.trans hx)) unnamed⟩

end

/-- R34 step 7: the completion that is not left to the command leaves the session of the port it is left to. -/
theorem State.session_conclude (t : State) (owner : Option Port) {defer : Option Port} {p : Port} (h : defer = some p) :
    ((t.conclude owner defer).port p).session = (t.port p).session := by
  unfold State.conclude
  split
  · split
    · rfl
    · next q own => rw [State.port_complete_other t fun hp : p = q => own (hp ▸ h)]
  · rfl

theorem State.noFuller_conclude (t : State) (owner defer : Option Port) : t.NoFuller (t.conclude owner defer) := by
  unfold State.conclude
  split
  · split
    · exact .refl t
    · exact t.noFuller_complete _
  · exact .refl t

/-- R34 step 1: an entry placed leaves the sessions. -/
theorem State.session_announced (s : State) (d : DescIdx) (o : FrameOutcome) (stop : Time) (p : Port) :
    (((s.announce d o stop).unlink d).port p).session = (s.port p).session := by
  rw [State.unlink_port, State.announce]
  split
  · rw [State.port_place]
    split
    · next h => rw [h]; rfl
    · rfl
  · rfl

/-- R34 step 2: the links that stand when those to d are cleared. -/
theorem State.successor_announced (s : State) (d : DescIdx) (o : FrameOutcome) (stop : Time) (x : DescIdx) :
    (((s.announce d o stop).unlink d).desc x).successor =
      if (s.desc x).successor = some d then none else (s.desc x).successor := by
  obtain ⟨ps, hps⟩ := s.announce_ports d o stop
  rw [hps, State.desc_unlink]
  show Desc.successor (if (s.desc x).successor = some d then _ else s.desc x) = _
  split <;> rfl

/-- R34: the retirement of d around what its chain does: the entry placed for d is the one reserved for it, since d is still
its owner's when it is freed. -/
theorem State.RetiresWithin.around {s v : State} {d : DescIdx} {o : FrameOutcome} {stop : Time} {defer : Option Port}
    (live : (s.desc d).live = true) (chain : ((s.announce d o stop).unlink d).RetiresWithin v none defer) :
    s.RetiresWithin ((v.vacate d).conclude (s.desc d).owner defer) (some d) defer := by
  refine ⟨fun p => ?_, fun p hp => ?_, fun e he unnamed => ?_⟩
  · have cleared : ((s.announce d o stop).unlink d).Unnamed d := fun x => by
      rw [State.successor_announced]
      split
      · exact nofun
      · next h => exact h
    have own : (v.desc d).ownedBy p = (s.desc d).ownedBy p :=
      ((chain.unnamed d nofun cleared).2 p).trans (s.announced_ownedBy d o stop p d)
    have concluded := (v.vacate d).noFuller_conclude (s.desc d).owner defer p
    have vacated := v.occupancy_vacate d p
    have followed := chain.room p
    rw [s.occupancy_announced live] at followed
    rw [own] at vacated
    omega
  · rw [State.session_conclude _ _ hp, State.vacate_port, chain.session p hp, State.session_announced]
  · have stays : ((s.announce d o stop).unlink d).Unnamed e := fun x => by
      rw [State.successor_announced]
      split
      · exact nofun
      · exact unnamed x
    obtain ⟨unnamedV, own⟩ := chain.unnamed e nofun stays
    obtain ⟨ps, hps⟩ := (v.vacate d).conclude_ports (s.desc d).owner defer
    rw [hps]
    refine ⟨fun x => ?_, fun p => ?_⟩
    · show ((v.vacate d).desc x).successor ≠ some e
      rw [State.desc_vacate]
      split
      · exact nofun
      · exact unnamedV x
    · show ((v.vacate d).desc e).ownedBy p = _
      rw [State.desc_vacate, if_neg fun h => he (congrArg some h.symm), own, State.announced_ownedBy]

/-- R34, R61: a retirement places for each descriptor of the chain the entry reserved for it. -/
theorem State.retire_within (fuel : Nat) (d : DescIdx) (o : FrameOutcome) (stop : Time) (defer : Option Port) (s : State) :
    s.RetiresWithin (State.retire fuel d o stop defer s) (some d) defer := by
  induction fuel generalizing d o s with
  | zero => exact .refl s
  | succ fuel ih =>
    have followed (u : State) : u.RetiresWithin (State.followChain fuel d o stop defer u) none defer := by
      unfold State.followChain
      split
      · exact .refl u
      · next c link =>
        split
        · next held =>
          split
          · split
            · exact u.release_within held stop
            · exact ((ih c _ _).of_modDesc (.of_eq rfl) rfl fun _ => rfl).of_successor link
          · exact (ih c _ u).of_successor link
        · exact .refl u
    cases live : (s.desc d).live with
    | false => rw [s.retire_of_not_live _ d o stop defer live]; exact .refl s
    | true =>
      rw [s.retire_succ fuel d o stop defer live]
      exact .around live (followed _)

theorem State.noFuller_retireNow (s : State) (d : DescIdx) (o : FrameOutcome) (stop : Time) (defer : Option Port) :
    s.NoFuller (s.retireNow d o stop defer) :=
  (State.retire_within chainFuel d o stop defer s).room

/-- R159: the purge walk of p is a run of retirements, and leaves the completion of p's session to the command or lapse. -/
theorem State.purgeWalk_within (s : State) (p : Port) :
    s.NoFuller (s.purgeWalk p) ∧ ((s.purgeWalk p).port p).session = (s.port p).session := by
  have one (t : State) (d : DescIdx) :
      t.NoFuller (State.purgeOne p t d) ∧ ((State.purgeOne p t d).port p).session = (t.port p).session := by
    unfold State.purgeOne
    split
    · have within := State.retire_within chainFuel d .purged t.now (some p) t
      exact ⟨within.room, within.session p rfl⟩
    · exact ⟨.refl t, rfl⟩
  unfold State.purgeWalk
  generalize s.admittedOf p ++ s.unadmittedOf p = l
  induction l generalizing s with
  | nil => exact ⟨.refl s, rfl⟩
  | cons d l ih => exact ⟨(one s d).1.trans (ih _).1, (ih _).2.trans (one s d).2⟩

/-! ### The line -/

/-- R71: a condition change sets flags, and places no entry. -/
theorem State.noFuller_moveLine (s : State) (l : LineState) (cause : Cause) : s.NoFuller (s.moveLine l cause) := by
  rcases s.moveLine_cases l cause with ⟨-, e⟩ | ⟨-, e⟩ <;> rw [e]
  · exact .of_eq rfl
  · refine .of_parts (fun p => ?_) fun _ _ => id
    rw [State.port, Ports.get_map, PortState.lineFlagged]
    split <;> exact Nat.le_refl _

theorem State.noFuller_enterDisabled (s : State) (cause : Cause) : s.NoFuller (s.enterDisabled cause) :=
  (s.noFuller_moveLine .disabled cause).trans (.of_eq rfl)

theorem State.noFuller_faultEntry (s : State) (cause : Cause) : s.NoFuller (s.faultEntry cause) := by
  unfold State.faultEntry
  split
  · exact s.noFuller_enterDisabled cause
  · split
    · exact (s.noFuller_moveLine .fault cause).trans (.of_eq rfl)
    · exact s.noFuller_enterDisabled .faultLimit

theorem State.noFuller_strobeFor (s : State) (owner : Option Port) (asked : Bool) :
    s.NoFuller (s.strobeFor owner asked) := by
  unfold State.strobeFor
  split
  · split
    · exact s.noFuller_modPort _ _ (Nat.le_refl _)
    · exact .refl s
  · exact .refl s

/-! ### Start decisions -/

/-- R82: a live frame that goes on the line stays its owner's. -/
theorem State.noFuller_goOnLine (s : State) {d : DescIdx} (live : (s.desc d).live = true) : s.NoFuller (s.goOnLine d) := by
  have taken : s.NoFuller ((s.keepScheduled fun e => decide (e ≠ d)).setDesc d
      { s.desc d with state := .onLine, actualStart := some s.now, repsSent := 0, mismatches := 0 }) :=
    State.NoFuller.trans (.of_eq rfl) (State.noFuller_setDesc _ d _ (.of_eq (by
      rw [State.keepScheduled_desc, live]
      rfl)))
  unfold State.goOnLine
  refine State.NoFuller.trans ?_ (State.noFuller_strobeFor _ _ _)
  exact (taken.trans (State.noFuller_moveLine _ .busy _)).trans (.of_eq rfl)

/-- R82, R83: a live frame attempted starts, or the quiet check refuses it. -/
theorem State.noFuller_attempt (s : State) {d : DescIdx} (l : List DescIdx) (live : (s.desc d).live = true) :
    s.NoFuller (s.attempt d l) := by
  obtain ⟨records, -⟩ := s.bump_spec l
  obtain ⟨-, -, -, ports⟩ := s.bump_frame l
  unfold State.attempt
  split
  · exact (State.NoFuller.of_bodies ports fun e => .inl (records e).1).trans
      (State.noFuller_goOnLine _ ((records d).1.live.trans live))
  · exact s.noFuller_faultEntry .blocked

theorem Desc.live_of_waiting {x : Desc} (h : x.state = .waiting) : x.live = true := by simp [Desc.live, h]

/-- R80: what the ASAP walk starts stands in a queue, so is WAITING. -/
theorem State.ScheduleSound.noFuller_asapFirstFit {s : State} (h : s.ScheduleSound) : s.NoFuller s.asapFirstFit := by
  unfold State.asapFirstFit
  split
  · next d _ hw =>
    exact s.noFuller_attempt _ (Desc.live_of_waiting ((h.queued d).1 (s.asapWalk_mem _ _ hw)).1)
  · exact .refl s

/-- R78: what the timed list starts or retires is WAITING. -/
theorem State.ScheduleSound.noFuller_decideLoop (fuel : Nat) {s : State} (h : s.ScheduleSound) :
    s.NoFuller (State.decideLoop fuel s) := by
  induction fuel generalizing s with
  | zero => exact .refl s
  | succ fuel ih =>
    simp only [State.decideLoop]
    split
    · exact h.noFuller_asapFirstFit
    · next d rest hlist =>
      have waiting : (s.desc d).state = .waiting := ((h.timed d).1 (hlist ▸ List.mem_cons_self)).1
      have live := Desc.live_of_waiting waiting
      split
      · exact h.noFuller_asapFirstFit
      · split
        · exact s.noFuller_attempt _ live
        · split
          · split
            · exact s.noFuller_attempt _ live
            · exact (s.noFuller_retireNow d _ _ _).trans (ih ((State.keepsTable_retire _ d _ _ _ s).1.sched h))
          · exact h.noFuller_asapFirstFit

/-- R77, R78: a dispatch decision event. -/
theorem State.ScheduleSound.noFuller_startDecision {s : State} (h : s.ScheduleSound) : s.NoFuller s.startDecision := by
  unfold State.startDecision
  split
  · exact h.noFuller_decideLoop _
  · exact .refl s

/-- An event that ends with a start decision. -/
theorem State.NoFuller.decide {s t : State} (h : s.NoFuller t) (k : s.KeepsSound t) (sound : s.Sound) :
    s.NoFuller t.startDecision :=
  h.trans (k sound).1.sched.noFuller_startDecision

theorem State.NoFuller.decideIfLeft {s t : State} (h : s.NoFuller t) (k : s.KeepsSound t) (sound : s.Sound) (u : State) :
    s.NoFuller (t.decideIfLeft u) := by
  unfold State.decideIfLeft
  split
  · exact h.decide k sound
  · exact h

theorem State.NoFuller.decideIfPurged {s t : State} (h : s.NoFuller t) (k : s.KeepsSound t) (sound : s.Sound)
    (u : State) : s.NoFuller (t.decideIfPurged u) := by
  unfold State.decideIfPurged
  split
  · exact h.decide k sound
  · exact h

/-! ### Frame ends -/

theorem State.noFuller_frameEnd (s : State) (d : DescIdx) : s.NoFuller (s.frameEnd d) := by
  have streak (t : State) (o : FrameOutcome) : t.NoFuller (t.clearStreak o) := by
    unfold State.clearStreak
    split
    · exact .of_eq rfl
    · exact .refl t
  unfold State.frameEnd
  refine State.NoFuller.trans ?_ (State.noFuller_strobeFor _ _ _)
  refine State.NoFuller.trans ?_ (streak _ _)
  refine State.NoFuller.trans ?_ (State.noFuller_retireNow _ _ _ _ _)
  exact .of_eq rfl

theorem State.noFuller_echoAbort (s : State) (d : DescIdx) (why : AbortDetail) (cause : Cause) :
    s.NoFuller (s.echoAbort d why cause) := by
  have marks (t : State) : t.NoFuller { t with
      disp := { t.disp with phase := none, slot := none }
      echo := if why = .echo then { t.echo with abortPending := false, counted := false } else t.echo } := .of_eq rfl
  unfold State.echoAbort
  refine State.NoFuller.trans ?_ (State.noFuller_faultEntry _ cause)
  refine State.NoFuller.trans ?_ (marks _)
  refine State.NoFuller.trans ?_ (State.noFuller_strobeFor _ _ _)
  refine State.NoFuller.trans ?_ (State.noFuller_retireNow _ _ _ _ _)
  exact .of_eq rfl

theorem State.noFuller_laterRepetition (s : State) (d : DescIdx) : s.NoFuller (s.laterRepetition d) := by
  unfold State.laterRepetition
  split
  · exact .of_eq rfl
  · exact s.noFuller_echoAbort d .blocked .blocked

/-- R74: a repetition counted leaves the body of the record. -/
theorem State.noFuller_countRepetition (s : State) (d : DescIdx) :
    s.NoFuller (s.modDesc d fun x => { x with repsSent := x.repsSent + 1 }) :=
  s.noFuller_modDesc d _ (.of_eq rfl)

theorem State.noFuller_endBody (s : State) (d : DescIdx) : s.NoFuller (s.endBody d) := by
  unfold State.endBody
  refine (s.noFuller_countRepetition d).trans ?_
  dsimp only
  split
  · split
    · exact State.noFuller_laterRepetition _ d
    · exact .of_eq rfl
  · exact State.noFuller_frameEnd _ d

theorem State.noFuller_countMismatch (s : State) (d : DescIdx) : s.NoFuller (s.countMismatch d) :=
  (s.noFuller_modDesc d (fun x => { x with mismatches := min Config.mismatchMax ((s.desc d).mismatches + 1) })
    (.of_eq rfl)).trans (.of_eq rfl)

theorem State.noFuller_echoStopped (s : State) (d : DescIdx) : s.NoFuller (s.echoStopped d) := by
  unfold State.echoStopped
  refine State.NoFuller.trans ?_ (State.noFuller_echoAbort _ d .echo .echo)
  split
  · exact s.noFuller_countRepetition d
  · exact .refl s

/-! ### The clock -/

theorem State.noFuller_cycles (s : State) (n : Nat) : s.NoFuller (State.cycles n s) := by
  obtain ⟨-, -, -, store, -, -, -, ports, -⟩ := State.cycles_frame n s
  exact .of_eq (by rw [store, ports])

/-- R153: at a tick boundary leases count down, and no session's state changes. -/
theorem State.noFuller_wholeTick (s : State) : s.NoFuller s.wholeTick := by
  refine (s.noFuller_cycles s.cyclesLeft).trans (.of_parts (fun p => ?_) fun _ _ => id)
  have active (q : PortState) : q.tick.session.active = q.session.active := by
    rw [PortState.tick_session]
    split <;> rfl
  rw [State.wholeTick, State.port_boundary, PortState.occupies, active]
  exact Nat.le_refl _

end Sys2Proof.Machine
end

section
/-! Every queue keeps its room (O55), continued: requests, the commands and the rows of the table. -/

namespace Sys2Proof.Machine

/-! ### Commands -/

/-- R164: one entry more may be taken in p's queue, and none in another's. -/
def State.AddsOne (s t : State) (p : Port) : Prop := ∀ q, t.occupancy q ≤ s.occupancy q + if q = p then 1 else 0

/-- R166, R170: a command of p takes one entry of p's queue, its REPLY, or stays within the room it has checked. -/
def State.Answers (s t : State) (p : Port) : Prop :=
  ∀ q, t.occupancy q ≤ max 24 (s.occupancy q + if q = p then 1 else 0)

section
variable {s t u : State} {p : Port}

theorem State.NoFuller.addsOne (h : s.NoFuller t) : s.AddsOne t p := fun q => Nat.le_add_right_of_le (h q)

theorem State.AddsOne.answers (h : s.AddsOne t p) : s.Answers t p := fun q => (h q).trans (Nat.le_max_right _ _)

/-- A command's effect that makes no queue fuller, before its REPLY. -/
theorem State.NoFuller.answers (h : s.NoFuller t) (k : t.Answers u p) : s.Answers u p := fun q =>
  (k q).trans (max_le_max_left 24 (Nat.add_le_add_right (h q) _))

/-- What follows a command's REPLY, and makes no queue fuller. -/
theorem State.Answers.trans (h : s.Answers t p) (k : t.NoFuller u) : s.Answers u p := fun q => (k q).trans (h q)

/-- R77: a command that ends with a start decision. -/
theorem State.Answers.decide (h : s.Answers t p) (k : s.KeepsSound t) (sound : s.Sound) : s.Answers t.startDecision p :=
  h.trans (k sound).1.sched.noFuller_startDecision

theorem State.Answers.decideIfLeft (h : s.Answers t p) (k : s.KeepsSound t) (sound : s.Sound) (u : State) :
    s.Answers (t.decideIfLeft u) p := by
  unfold State.decideIfLeft
  split
  · exact h.decide k sound
  · exact h

/-- R164: an entry placed. -/
theorem State.addsOne_place (s : State) (p : Port) (e : Entry) : s.AddsOne (s.place p e) p := fun q => by
  rw [State.occupancy_eq, State.occupancy_eq, State.port_place]
  have count : (s.place p e).liveCount q = s.liveCount q := rfl
  rw [count]
  split
  · next h =>
    simp only [h, PortState.occupies, PortState.withEntries_entries, PortState.withEntries_session, List.length_append,
      List.length_singleton]
    omega
  · exact Nat.le_refl _

variable {code tag : Byte} {r : ResultCode} {data : ReplyData}

theorem State.answers_reply (s : State) : s.Answers (s.reply p code tag r data) p := (s.addsOne_place p _).answers

/-- A command that acts and then answers. -/
theorem State.NoFuller.reply (h : s.NoFuller t) : s.Answers (t.reply p code tag r data) p := h.answers t.answers_reply

/-- A check of a command: the REPLY that refuses it, or what follows where the check passes. -/
theorem State.Answers.check {c : Prop} [Decidable c] (h : ¬ c → s.Answers t p) :
    s.Answers (if c then s.reply p code tag r data else t) p := by
  split
  · exact s.answers_reply
  · next hc => exact h hc

/-- R24, R149, R170: a command that reserves an entry has found room for two. -/
theorem State.AddsOne.reply (h : s.AddsOne t p) (room : s.roomFor p 2 = true) :
    s.Answers (t.reply p code tag r data) p := fun q => by
  have placed := t.addsOne_place p (.reply code tag r data) q
  have reserved := h q
  have free : s.occupancy p + 2 ≤ 24 := of_decide_eq_true room
  change (t.reply p code tag r data).occupancy q ≤ _ at placed
  split at placed
  · next hq =>
    subst hq
    rw [if_pos rfl] at reserved
    omega
  · next hq =>
    rw [if_neg hq] at reserved ⊢
    omega

end

/-- R150: a session that is opened takes one entry, unless it was OPEN already. -/
theorem State.addsOne_startLease (s : State) (p : Port) (c : LeaseClass) : s.AddsOne (s.startLease p c) p ∧
    ((s.port p).session.state = .opened → s.NoFuller (s.startLease p c)) := by
  have leased : (s.startLease p c).port p = (s.port p).leased c := (s.port_modPort p p _).trans (if_pos rfl)
  have occupies : ((s.port p).leased c).occupies = (s.port p).queue.entries.length + 1 := rfl
  refine ⟨fun q => ?_, fun opened => s.noFuller_modPort p _ ?_⟩
  · by_cases hq : q = p
    · subst hq
      have count : (s.startLease q c).liveCount q = s.liveCount q := rfl
      rw [State.occupancy_eq, State.occupancy_eq, leased, occupies, count, if_pos rfl, PortState.occupies]
      omega
    · rw [if_neg hq]
      have other : (s.startLease p c).port q = s.port q := (s.port_modPort p q _).trans (if_neg hq)
      rw [State.occupancy_eq, State.occupancy_eq, other]
      exact Nat.le_refl _
  · show ((s.port p).leased c).occupies ≤ _
    rw [occupies, PortState.occupies, Session.active, opened]
    exact Nat.le_refl _

/-- R149, R150: an OPEN of a session that is not OPEN has found room for the REPLY and for the entry it reserves. -/
theorem State.answers_doOpen (p : Port) (tag : Byte) (fields : List Byte) (s : State) :
    s.Answers (State.doOpen p tag fields s) p := by
  unfold State.doOpen
  dsimp only
  split
  · exact s.answers_reply
  · next c _ =>
    refine .check fun _ => .check fun room => ?_
    obtain ⟨adds, same⟩ := s.addsOne_startLease p c
    by_cases opened : (s.port p).session.state = .opened
    · exact (same opened).reply
    · exact adds.reply (by simpa [opened] using room)

/-- R156: a session that closes goes on reserving its entry. -/
theorem State.noFuller_startClosing (s : State) (p : Port) (form : CloseForm) (session : s.noSession p = false) :
    s.NoFuller (s.startClosing p form) := by
  refine (s.noFuller_releaseClaim p).trans (State.noFuller_modPort _ p _ ?_)
  have active : ((s.releaseClaim p).port p).session.active = true := by
    rw [State.releaseClaim_eq]
    exact (Bool.not_eq_false' _).mp session
  rw [PortState.occupies, PortState.occupies, active]
  exact Nat.le_refl _

theorem State.Sound.answers_doClose {s : State} (h : s.Sound) (p : Port) (tag : Byte) (fields : List Byte) :
    s.Answers (State.doClose p tag fields s) p := by
  refine .check fun session => ?_
  have session : s.noSession p = false := Bool.eq_false_iff.2 session
  have closing (form : CloseForm) := s.noFuller_startClosing p form session
  have sound (form : CloseForm) : s.KeepsSound (s.startClosing p form) :=
    (s.keepsSound_releaseClaim p).trans (State.keepsSound_modPort _ p _)
  split
  · exact s.answers_reply
  · have purged := ((closing .purge).trans (State.purgeWalk_within _ p).1).trans (State.noFuller_markOnLine _ p)
    have soundPurged := ((sound .purge).trans (State.keepsSound_purgeWalk _ p)).trans (State.keepsSound_markOnLine _ p)
    exact (purged.reply.trans (State.noFuller_complete _ p)).decideIfLeft
      (soundPurged.reply.trans (State.keepsSound_complete _ p)) h s
  · exact .check fun _ => (closing .drain).reply.trans (State.noFuller_complete _ p)

/-- R170: what the last check of a LOAD_BEGIN has found. -/
theorem State.roomFor_of_loadRefusal {s : State} {p : Port} {x : Shape} (h : s.loadRefusal p x = none) :
    s.roomFor p 2 = true := by
  unfold State.loadRefusal at h
  dsimp only at h
  split at h
  · cases h
  split at h
  · cases h
  split at h
  · cases h
  split at h
  · cases h
  split at h
  · cases h
  · next room => simpa using room

/-- R24, R25: a LOAD_BEGIN that is not refused has found room for the REPLY and for the FRAME_DONE it reserves. -/
theorem State.answers_doLoadBegin (p : Port) (tag : Byte) (fields : List Byte) (s : State) :
    s.Answers (State.doLoadBegin p tag fields s) p := by
  refine .check fun _ => .check fun _ => ?_
  split
  · exact s.answers_reply
  · next x _ =>
    split
    · next d passes found =>
      refine State.AddsOne.reply (fun q => ?_) (State.roomFor_of_loadRefusal passes)
      have set := s.liveCount_setDesc d (x.desc p (s.freeSegs.take (segmentsFor x.bodyBits))) q
      have owner : (x.desc p (s.freeSegs.take (segmentsFor x.bodyBits))).ownedBy q = decide (q = p) := by
        simp [Desc.ownedBy, Desc.live, Shape.desc, eq_comm]
      rw [owner] at set
      simp only [decide_eq_true_eq] at set
      rw [State.occupancy_eq, State.occupancy_eq, State.setDesc_port]
      omega
    · exact s.answers_reply
    · exact s.answers_reply

theorem State.answers_doLoadData (p : Port) (tag : Byte) (fields : List Byte) (s : State) :
    s.Answers (State.doLoadData p tag fields s) p := by
  have loaded (d : DescIdx) (off : Nat) (payload : List Byte) : s.NoFuller (s.loadPayload d off payload) :=
    have written : s.NoFuller
        { s with store := { s.store with pool := writePayload (s.desc d).segs off payload s.store.pool } } := .of_eq rfl
    written.trans (State.noFuller_modDesc _ d (fun x => { x with fill := off + payload.length }) (.of_eq rfl))
  refine .check fun _ => ?_
  split
  · exact s.answers_reply
  · split
    · exact s.answers_reply
    · exact .check fun _ => .check fun _ => .check fun _ => (loaded _ _ _).reply

theorem State.answers_doQueryFrame (p : Port) (tag : Byte) (fields : List Byte) (s : State) :
    s.Answers (State.doQueryFrame p tag fields s) p := by
  refine .check fun _ => ?_
  split
  · exact s.answers_reply
  · split
    · exact s.answers_reply
    · split <;> exact s.answers_reply


/-- R51, R53: an admission that keeps the body of the one record it changes. -/
theorem State.noFuller_admit (s : State) {t : State} {d : DescIdx} {x : Desc} (ports : t.ports = s.ports)
    (desc : ∀ e, t.desc e = if e = d then x else s.desc e) (body : (s.desc d).SameBody x) : s.NoFuller t :=
  .of_bodies ports fun e => by
    rw [desc]
    split
    · next he => exact .inl (he ▸ body)
    · exact .inl (.of_eq rfl)

/-- R50, R51: the start decision follows the REPLY of an admission. -/
theorem State.Sound.answers_submitTimed {s : State} (h : s.Sound) (p : Port) (tag : Byte) {d : DescIdx} (t : Timing)
    (start : Time) (loading : (s.desc d).state = .loading) (owner : (s.desc d).owner = some p)
    (cls : (s.desc d).cls = .timed) : s.Answers (s.submitTimed p tag d t start) p := by
  unfold State.submitTimed
  dsimp only
  split
  · exact s.answers_reply
  · exact s.answers_reply
  · exact s.answers_reply
  · next ahead =>
    split
    · exact s.answers_reply
    · next room =>
      have admitted : s.NoFuller (s.admitTimed d start (t.slip.getD 0)) :=
        s.noFuller_admit rfl (fun e => s.desc_setDesc d e _) (.of_eq (by simp [Desc.admitTimed, Desc.live, loading]))
      exact admitted.reply.decide (s.keepsPlan_admitTimed d start _ loading owner cls ahead room).sound.reply h

/-- R52, R53: the start decision follows the REPLY of an admission. -/
theorem State.Sound.answers_submitAsap {s : State} (h : s.Sound) (p : Port) (tag : Byte) {d : DescIdx} (t : Timing)
    (loading : (s.desc d).state = .loading) (owner : (s.desc d).owner = some p) (cls : (s.desc d).cls = .asap) :
    s.Answers (s.submitAsap p tag d t) p := by
  unfold State.submitAsap
  split
  · exact s.answers_reply
  · have admitted : s.NoFuller (s.admitAsap d t) :=
      s.noFuller_admit rfl (fun e => s.desc_setDesc d e _) (.of_eq (by simp [Desc.admitAsap, Desc.live, loading]))
    exact admitted.reply.decide (s.keepsPlan_admitAsap d t loading owner cls).sound.reply h

theorem State.answers_submitChained (s : State) (p : Port) (tag : Byte) {d : DescIdx} (t : Timing) (pred : Byte)
    (loading : (s.desc d).state = .loading) : s.Answers (s.submitChained p tag d t pred) p := by
  have admitted (e : DescIdx) : s.NoFuller (s.admitChained d e t pred) :=
    (s.noFuller_setDesc d ((s.desc d).admitChained t pred) (.of_eq (by
      simp [Desc.admitChained, Desc.live, loading]))).trans (State.noFuller_modDesc _ e _ (.of_eq rfl))
  unfold State.submitChained
  split
  · exact s.answers_reply
  · refine .check fun _ => ?_
    split
    · exact s.answers_reply
    · split
      · exact s.answers_reply
      · exact s.answers_reply
      · exact (admitted _).reply

theorem State.Sound.answers_doSubmit {s : State} (h : s.Sound) (p : Port) (tag : Byte) (fields : List Byte) :
    s.Answers (State.doSubmit p tag fields s) p := by
  refine .check fun _ => .check fun _ => ?_
  split
  · exact s.answers_reply
  · split
    · exact s.answers_reply
    · next d hfind =>
      refine .check fun hloading => .check fun _ => .check fun _ => ?_
      have loading : (s.desc d).state = .loading := not_not.1 hloading
      have owner := (((s.desc d).ownedBy_iff p).1 (State.owned_of_findTag hfind).1).2
      split
      · next cls => exact h.answers_submitTimed p tag _ _ loading owner cls
      · next cls => exact h.answers_submitAsap p tag _ loading owner cls
      · exact s.answers_submitChained p tag _ _ loading

theorem State.Sound.answers_doCancel {s : State} (h : s.Sound) (p : Port) (tag : Byte) (fields : List Byte) :
    s.Answers (State.doCancel p tag fields s) p := by
  have marked (d : DescIdx) : s.Answers (s.cancelOnLine p tag d) p := by
    unfold State.cancelOnLine
    dsimp only
    split
    · exact (s.noFuller_modDesc d (fun y => { y with truncate := true }) (.of_eq rfl)).reply
    · exact s.answers_reply
  have withdrawn (d : DescIdx) (hd : (s.desc d).state ≠ .onLine) : s.Answers (s.cancelWaiting p tag d) p :=
    ((s.noFuller_retireNow d _ _ _).reply.trans (State.noFuller_complete _ p)).decideIfLeft
      ((s.keepsSound_retireNow d _ _ _ fun _ => hd).reply.trans (State.keepsSound_complete _ p)) h s
  refine .check fun _ => ?_
  split
  · exact s.answers_reply
  · split
    · exact s.answers_reply
    · split
      · exact marked _
      · next hd => exact withdrawn _ hd

theorem State.answers_doQueryFree (p : Port) (tag : Byte) (fields : List Byte) (s : State) :
    s.Answers (State.doQueryFree p tag fields s) p := by
  refine .check fun _ => ?_
  split
  · exact s.answers_reply
  · refine .check fun _ => ?_
    split <;> exact s.answers_reply

/-! ### Commands of the line, the profile and the clock -/

theorem State.Sound.answers_doLineEnable {s : State} (h : s.Sound) (p : Port) (tag : Byte) (fields : List Byte) :
    s.Answers (State.doLineEnable p tag fields s) p := by
  have enabled : s.NoFuller s.enableLine := by
    unfold State.enableLine
    split
    · next line =>
      exact (s.noFuller_moveLine _ _).decide (s.keepsSound_moveLine _ _ (by simp [LineState.Carries, line])) h
    · exact s.noFuller_moveLine _ _
    all_goals exact .refl s
  unfold State.doLineEnable
  split
  · exact s.answers_reply
  · exact .check fun _ => enabled.reply

theorem State.answers_doLineDisable (p : Port) (tag : Byte) (fields : List Byte) (s : State) :
    s.Answers (State.doLineDisable p tag fields s) p := by
  have disabled : s.NoFuller s.disableLine := by
    unfold State.disableLine
    split
    · exact s.noFuller_enterDisabled _
    · exact s.noFuller_enterDisabled _
    · exact s.noFuller_moveLine _ _
    all_goals exact .refl s
  unfold State.doLineDisable
  split
  · exact s.answers_reply
  · exact disabled.reply

theorem State.answers_doQueryLine (p : Port) (tag : Byte) (fields : List Byte) (s : State) :
    s.Answers (State.doQueryLine p tag fields s) p :=
  .check fun _ => (s.noFuller_modPort p _ (Nat.le_refl _)).reply

theorem State.Sound.answers_doRecover {s : State} (h : s.Sound) (p : Port) (tag : Byte) (fields : List Byte) :
    s.Answers (State.doRecover p tag fields s) p := by
  unfold State.doRecover
  split
  · exact s.answers_reply
  · refine .check fun fault => .check fun _ => ?_
    have rested := s.keepsSound_moveLine .idle .recovered (by simp [LineState.Carries, not_not.1 fault])
    exact ((s.noFuller_moveLine _ _).decide rested h).reply

theorem State.answers_doClaim (p : Port) (tag : Byte) (fields : List Byte) (s : State) :
    s.Answers (State.doClaim p tag fields s) p :=
  have granted : s.NoFuller (s.grant p) := .of_eq rfl
  .check fun _ => .check fun _ => .check fun _ => .check fun _ => granted.reply

theorem State.answers_doRelease (p : Port) (tag : Byte) (fields : List Byte) (s : State) :
    s.Answers (State.doRelease p tag fields s) p := by
  unfold State.doRelease
  split
  · exact s.answers_reply
  · exact (s.noFuller_releaseClaim p).reply

theorem State.answers_doStage (p : Port) (tag : Byte) (fields : List Byte) (s : State) :
    s.Answers (State.doStage p tag fields s) p := by
  have staged (w : Profile) : s.NoFuller { s with prof := { s.prof with staged := some w } } := .of_eq rfl
  refine .check fun _ => ?_
  split
  · exact s.answers_reply
  · refine .check fun _ => ?_
    split
    · exact s.answers_reply
    · exact (staged _).reply

/-- R140: the walk retires frames or gives them new ends. -/
theorem State.noFuller_revalidate (s : State) : s.NoFuller s.revalidate.state := by
  have one (w : Walk) (d : DescIdx) : w.state.NoFuller (w.judge d).state := by
    rcases w.judge_cases d with ⟨-, -, state⟩ | ⟨-, -, state⟩ <;> rw [state]
    · exact w.state.noFuller_retireNow _ _ _ _
    · exact w.state.noFuller_modDesc d _ (.of_eq rfl)
  have walk (l : List DescIdx) (w : Walk) : w.state.NoFuller (l.foldl Walk.judge w).state := by
    induction l generalizing w with
    | nil => exact .refl _
    | cons d l ih => exact (one w d).trans (ih _)
  exact walk s.sched.timed { state := s, lastEnd := none, rescheduled := 0, broken := 0 }

theorem State.answers_doCommit (p : Port) (tag : Byte) (fields : List Byte) (s : State) :
    s.Answers (State.doCommit p tag fields s) p := by
  have activated : s.NoFuller s.activate := .of_eq rfl
  unfold State.doCommit
  split
  · exact s.answers_reply
  · exact .check fun _ => (activated.trans (State.noFuller_revalidate _)).reply

theorem State.answers_doQueryProfile (p : Port) (tag : Byte) (fields : List Byte) (s : State) :
    s.Answers (State.doQueryProfile p tag fields s) p := by
  unfold State.doQueryProfile
  dsimp only
  split
  · exact s.answers_reply
  · exact s.answers_reply
  · exact .check fun _ => s.answers_reply

theorem State.answers_doReadCapture (p : Port) (tag : Byte) (fields : List Byte) (s : State) :
    s.Answers (State.doReadCapture p tag fields s) p := by
  refine .check fun _ => ?_
  split
  · exact (s.noFuller_modPort p PortState.emptySlot (Nat.le_refl _)).reply
  · exact s.answers_reply

theorem State.answers_doSetTime (p : Port) (tag : Byte) (fields : List Byte) (s : State) :
    s.Answers (State.doSetTime p tag fields s) p := by
  have set (t : Time) : s.NoFuller { s with clock := { s.clock with time := t, prescale := 0 } } := .of_eq rfl
  refine .check fun _ => ?_
  split
  · exact s.answers_reply
  · exact .check fun _ => .check fun _ => .check fun _ => (set _).reply

end Sys2Proof.Machine
end

section
/-! Every queue keeps its room (O55), continued: the links and the rows of the table. -/

namespace Sys2Proof.Machine

/-! ### Links -/

theorem State.noFuller_begun (s : State) (p : Port) (goesOn : Bool) : s.NoFuller (s.begun p goesOn) := by
  rw [State.begun_cases]
  exact s.noFuller_modLink p _

theorem State.noFuller_answered (s : State) (p : Port) (msg : List Byte) (crc : Byte) (a : Acceptance) :
    s.NoFuller (s.answered p msg crc a) := by
  rw [State.answered_eq]
  exact s.noFuller_modLink p _

theorem State.noFuller_refuse (s : State) (p : Port) (msg : List Byte) (crc : Byte) (a : Acceptance) :
    s.NoFuller (s.refuse p msg crc a) := by
  have k := s.noFuller_answered p msg crc a
  cases a with
  | accepted | backpressure => exact k
  | crcFail | framing => exact k.trans (State.noFuller_modLink _ p _)

/-- R171, R182: a POLL takes at most the head entry. -/
theorem State.noFuller_pollLink (s : State) (p : Port) (bytes : Nat) : s.NoFuller (s.pollLink p bytes) := by
  have one (q : PortState) (b : Byte) : (q.pollByte b).occupies ≤ q.occupies := by
    unfold PortState.pollByte
    dsimp only
    split
    · refine Nat.add_le_add_right ?_ _
      show q.queue.entries.tail.length ≤ q.queue.entries.length
      rw [List.length_tail]
      exact Nat.sub_le _ _
    · exact Nat.le_refl _
  have all (bs : List Byte) (q : PortState) : (bs.foldl PortState.pollByte q).occupies ≤ q.occupies := by
    induction bs generalizing q with
    | nil => exact Nat.le_refl _
    | cons b bs ih => exact (ih _).trans (one q b)
  exact (s.noFuller_begun p _).trans (State.noFuller_modPort _ p _ (all _ _))

/-- R170: what the acceptance of a REQUEST has found. -/
theorem State.room_of_accepted {s : State} {p : Port} {msg : List Byte} {crc : Byte} (h : s.judge p msg crc = .accepted) :
    s.occupancy p < 24 := by
  unfold State.judge at h
  split at h
  · cases h
  split at h
  · cases h
  split at h
  · next room => exact of_decide_eq_true room
  · cases h

/-! ### Rows of the table -/

/-- A row's outcome leaves every queue within its room. -/
def State.RoomKeptBy (s : State) (o : Host.Outcome State Fault Refusal) : Prop :=
  s.Sound → s.RoomSound → ∀ t, o = .next t → t.RoomSound

section
variable {s t : State}

theorem State.NoFuller.next (h : s.Sound → s.NoFuller t) : s.RoomKeptBy (.next t) := fun sound room _ ht p => by
  obtain rfl := Host.Outcome.next.inj ht
  exact (h sound p).trans (room p)

/-- A row that is no step in the present state (log 1). -/
theorem State.roomKeptBy_idle (s : State) : s.RoomKeptBy (.next s) := State.NoFuller.next fun _ => .refl s

/-- An event that is due, or that leaves the state as it is (log 1). -/
theorem State.NoFuller.due {c : Prop} [Decidable c] (h : c → s.Sound → s.NoFuller t) :
    s.RoomKeptBy (if c then .next t else .next s) := by
  split
  · next hc => exact State.NoFuller.next (h hc)
  · exact s.roomKeptBy_idle

/-- While RESETn is low the row has no effect. -/
theorem State.NoFuller.running {c : Prop} [Decidable c] (h : s.Sound → s.NoFuller t) :
    s.RoomKeptBy (if c then .next s else .next t) := by
  split
  · exact s.roomKeptBy_idle
  · exact State.NoFuller.next h

end

/-- R185: after a reset no port owns a descriptor, and no queue holds an entry. -/
theorem State.roomKeptBy_reset {s t : State} (descs : t.store.descs = State.reset.store.descs)
    (ports : ∀ p, (t.port p).occupies = 0) : s.RoomKeptBy (.next t) := fun _ _ u hu p => by
  obtain rfl := Host.Outcome.next.inj hu
  have count : t.liveCount p = 0 := by rw [State.liveCount, descs, ← State.liveCount, State.reset_liveCount]
  show t.occupancy p ≤ 24
  rw [State.occupancy_eq, ports, count]
  exact Nat.zero_le _

/-- R179: a REQUEST is taken when its port has room for the REPLY, which its command places. -/
theorem State.roomKeptBy_request (s : State) {p : Port} {code tag : Byte} {fields : List Byte} {act : State → State}
    (hact : ∀ t : State, t.Sound → t.Answers (act t) p) : s.RoomKeptBy (.next (s.request p code tag fields act)) := by
  unfold State.request
  split
  · exact s.roomKeptBy_idle
  · dsimp only
    split
    · exact State.NoFuller.next fun _ => (s.noFuller_begun p _).trans (State.noFuller_modLink _ p _)
    · split
      · next accepted =>
        intro sound room t ht q
        obtain rfl := Host.Outcome.next.inj ht
        have taken := (s.noFuller_answered p (message code tag fields) (messageCrc (message code tag fields)) .accepted).trans
          (State.noFuller_renew _ p) q
        have soundTaken := ((s.keepsSound_answered p (message code tag fields) (messageCrc (message code tag fields))
          .accepted).trans (State.keepsSound_renew _ p)) sound
        have acts := hact _ soundTaken.1 q
        have free := State.room_of_accepted accepted
        have before : s.occupancy q ≤ 24 := room q
        refine acts.trans (Nat.max_le.2 ⟨Nat.le_refl _, ?_⟩)
        split
        · next hq =>
          subst hq
          omega
        · omega
      · exact State.NoFuller.next fun _ => s.noFuller_refuse p _ _ _

/-- R160: SESSION_LAPSED takes the entry that the session had reserved. -/
theorem State.noFuller_lapse (s : State) (p : Port) (session : s.hasSession p = true) : s.NoFuller (s.lapse p) := by
  obtain ⟨walked, walkSession⟩ := (s.releaseClaim p).purgeWalk_within p
  have purged := ((s.noFuller_releaseClaim p).trans walked).trans (State.noFuller_markOnLine _ p)
  have active : ((((s.releaseClaim p).purgeWalk p).markOnLine p).port p).session.active = true := by
    rw [State.markOnLine_port, walkSession, State.releaseClaim_eq]
    exact session
  refine purged.trans ?_
  unfold State.lapse
  dsimp only
  rw [State.place, State.modQueue, State.modPort_modPort]
  refine State.noFuller_modPort _ p _ ?_
  rw [PortState.occupies, PortState.occupies, active, List.length_append]
  exact Nat.le_refl _

/-- R184: a LINK_RESET leaves its port with nothing used or reserved. -/
theorem State.noFuller_resetLink (s : State) (p : Port) : s.NoFuller (s.resetLink p) := by
  refine (s.noFuller_releaseClaim p).trans (.of_parts (fun q => ?_) fun q d hd => ?_)
  · rw [State.resetLink, State.port_modPort]
    split
    · exact Nat.zero_le _
    · exact Nat.le_refl _
  · have hd : (((s.releaseClaim p).discardAll p).desc d).ownedBy q = true := hd
    rw [State.desc_discardAll, Desc.afterReset] at hd
    split at hd
    · split at hd
      · simp [Desc.ownedBy] at hd
      · simp [Desc.ownedBy, Desc.blank] at hd
    · exact hd

theorem execBodyEnd_roomKept (s : State) : s.RoomKeptBy (execBodyEnd s) := by
  unfold execBodyEnd
  split
  · exact State.NoFuller.next fun _ => s.noFuller_endBody _
  · exact s.roomKeptBy_idle

theorem execPreambleEnd_roomKept (s : State) : s.RoomKeptBy (execPreambleEnd s) := by
  unfold execPreambleEnd
  split
  · exact State.NoFuller.next fun _ => .of_eq rfl
  · exact s.roomKeptBy_idle

theorem execGapEnd_roomKept (s : State) : s.RoomKeptBy (execGapEnd s) := by
  unfold execGapEnd
  split
  · split
    · exact State.NoFuller.next fun _ => s.noFuller_frameEnd _
    · exact State.NoFuller.next fun _ => s.noFuller_laterRepetition _
  · exact s.roomKeptBy_idle

/-- R76: the end of the guard, whose start decision finds a sound line at rest. -/
theorem execGuardEnd_roomKept (s : State) : s.RoomKeptBy (execGuardEnd s) := by
  have ended : s.NoFuller { s with disp := { s.disp with phase := none } } := .of_eq rfl
  unfold execGuardEnd
  split
  · split
    · refine State.NoFuller.next fun sound =>
        (ended.trans (State.noFuller_moveLine _ .idle _)).trans (State.ScheduleSound.noFuller_startDecision ?_)
      refine sound.sched.of_standing (State.moveLine_sched _ _ _) fun d => ?_
      rw [State.moveLine_desc]
      exact .of_eq rfl
    · exact State.NoFuller.next fun _ => s.noFuller_enterDisabled .drainEnd
    all_goals exact s.roomKeptBy_idle
  · exact s.roomKeptBy_idle

theorem execComparisonEvent_roomKept (s : State) : s.RoomKeptBy (execComparisonEvent s) := by
  unfold execComparisonEvent
  split
  · exact State.NoFuller.due fun _ _ => s.noFuller_countMismatch _
  · exact s.roomKeptBy_idle

theorem execEchoStop_roomKept (s : State) : s.RoomKeptBy (execEchoStop s) := by
  unfold execEchoStop
  split
  · exact State.NoFuller.next fun _ => s.noFuller_echoStopped _
  · exact s.roomKeptBy_idle

theorem execHoldEnd_roomKept (s : State) : s.RoomKeptBy (execHoldEnd s) := by
  unfold execHoldEnd
  split
  · next ended =>
    have fault : s.disp.line = .fault := by
      simp only [State.holdEnded, Bool.and_eq_true, decide_eq_true_eq] at ended
      exact ended.1.2
    split
    · exact State.NoFuller.next fun sound =>
        (s.noFuller_moveLine .idle .holdEnd).decide (s.keepsSound_moveLine _ _ (by simp [LineState.Carries, fault])) sound
    · exact State.NoFuller.next fun _ => .of_eq rfl
  · exact s.roomKeptBy_idle

/-- R84: what expires is WAITING, so off the line. -/
theorem execWindowExpiry_roomKept (d : DescIdx) (s : State) : s.RoomKeptBy (execWindowExpiry d s) := by
  refine State.NoFuller.due fun passed sound =>
    (s.noFuller_retireNow d _ _ _).decide (s.keepsSound_retireNow d _ _ _ fun _ on => ?_) sound
  simp [State.windowPassed, on] at passed

/-- R6, R7: samples of PCAPT place no entry. -/
theorem PortState.occupies_samples (q : PortState) (now : Time) (l : List Level) :
    (l.foldl (fun r x => r.sampleCapture now x) q).occupies = q.occupies := by
  have one (r : PortState) (x : Level) : (r.sampleCapture now x).occupies = r.occupies := by
    unfold PortState.sampleCapture PortState.captureEdge
    dsimp only
    split
    · split <;> rfl
    · rfl
  induction l generalizing q with
  | nil => rfl
  | cons x l ih => exact (ih _).trans (one q x)

theorem execVoidTransaction_roomKept (p : Port) (stretch : Stretch) (s : State) :
    s.RoomKeptBy (execVoidTransaction p stretch s) := by
  unfold execVoidTransaction
  dsimp only
  split
  · exact s.roomKeptBy_idle
  · split
    · exact State.NoFuller.next fun _ => s.noFuller_modLink p _
    · exact s.roomKeptBy_idle

theorem execRequestNotTaken_roomKept (p : Port) (msg : List Byte) (crc : Byte) (s : State) :
    s.RoomKeptBy (execRequestNotTaken p msg crc s) := by
  unfold execRequestNotTaken
  split
  · exact s.roomKeptBy_idle
  · split
    · exact s.roomKeptBy_idle
    · exact State.NoFuller.next fun _ => s.noFuller_refuse p msg crc _

theorem execLsenseChange_roomKept (cycles : Nat) (level : Level) (s : State) :
    s.RoomKeptBy (execLsenseChange cycles level s) := by
  unfold execLsenseChange
  split
  · exact State.NoFuller.next fun _ => .of_eq rfl
  · exact State.NoFuller.next fun _ => (s.noFuller_cycles _).trans (.of_eq rfl)

theorem execCarrierBurstEnd_roomKept (s : State) : s.RoomKeptBy (execCarrierBurstEnd s) := by
  unfold execCarrierBurstEnd
  split
  · exact s.roomKeptBy_idle
  · split
    · exact State.NoFuller.next fun _ => s.noFuller_cycles _
    · exact s.roomKeptBy_idle

theorem execLinkReset_roomKept (p : Port) (s : State) : s.RoomKeptBy (execLinkReset p s) := by
  refine State.NoFuller.running fun sound =>
    (((s.noFuller_begun p _).trans (State.noFuller_modLink _ p _)).trans (State.noFuller_resetLink _ p)).decideIfLeft ?_
      sound s
  exact (((s.keepsSound_begun p _).trans (State.keepsSound_modPort _ p _)).trans (State.keepsSound_releaseClaim _ p)).trans
    ((State.keepsSound_discardAll _ p).trans (State.keepsSound_modPort _ p _))

/-- R170: every row of the table leaves the used and the reserved entries of every queue within its 24. -/
theorem exec_roomKept (i : Instr) (s : State) : s.RoomKeptBy (exec i s) := by
  cases i with
  | chipReset =>
    exact State.roomKeptBy_reset (t := { s.blocksReset with inReset := true }) rfl fun p => by cases p <;> rfl
  | resetRelease tbsel pcsLow =>
    show s.RoomKeptBy (execResetRelease tbsel pcsLow s)
    unfold execResetRelease
    split
    · exact State.roomKeptBy_reset rfl fun p => by cases p <;> rfl
    · exact s.roomKeptBy_idle
  | tick => exact State.NoFuller.running fun _ => s.noFuller_wholeTick
  | leaseLow p => exact State.NoFuller.due fun _ _ => s.noFuller_modPort p _ (Nat.le_refl _)
  | lapse p =>
    refine State.NoFuller.due fun due sound => (s.noFuller_lapse p ?_).decideIfPurged (s.keepsSound_lapse p) sound s
    simp only [State.lapseDue, Bool.and_eq_true] at due
    exact due.1.2
  | captureEdge pin =>
    exact State.NoFuller.running fun _ => s.noFuller_modPort pin.port _ (PortState.occupies_samples _ _ _).le
  | timedStartReached => exact State.NoFuller.due fun _ sound => sound.sched.noFuller_startDecision
  | notBeforeReached d =>
    exact State.NoFuller.due fun _ => (s.noFuller_modDesc d (fun x => { x with eligible := true }) (.of_eq rfl)).decide
      (s.keepsSound_modDesc d _ (.of_eq rfl) (.of_eq rfl))
  | windowExpiry d => exact execWindowExpiry_roomKept d s
  | asapExpiry d => exact State.NoFuller.due fun _ _ => s.noFuller_retireNow d _ _ _
  | heldExpiryPassed d =>
    exact State.NoFuller.due fun _ _ => s.noFuller_modDesc d (fun x => { x with expiry := .passed }) (.of_eq rfl)
  | preambleEnd => exact execPreambleEnd_roomKept s
  | bodyEnd => exact execBodyEnd_roomKept s
  | gapEnd => exact execGapEnd_roomKept s
  | guardEnd => exact execGuardEnd_roomKept s
  | comparisonEvent => exact execComparisonEvent_roomKept s
  | echoStop => exact execEchoStop_roomKept s
  | holdEnd => exact execHoldEnd_roomKept s
  | strobePulseEnd p => exact State.NoFuller.due fun _ _ => s.noFuller_modPort p _ (Nat.le_refl _)
  | openSession p tag fields => exact s.roomKeptBy_request fun t _ => t.answers_doOpen p tag fields
  | renew p tag fields =>
    exact s.roomKeptBy_request fun t _ => .check fun _ => .check fun _ => t.answers_reply
  | close p tag fields => exact s.roomKeptBy_request fun _ sound => sound.answers_doClose p tag fields
  | loadBegin p tag fields => exact s.roomKeptBy_request fun t _ => t.answers_doLoadBegin p tag fields
  | loadData p tag fields => exact s.roomKeptBy_request fun t _ => t.answers_doLoadData p tag fields
  | queryFrame p tag fields => exact s.roomKeptBy_request fun t _ => t.answers_doQueryFrame p tag fields
  | submit p tag fields => exact s.roomKeptBy_request fun _ sound => sound.answers_doSubmit p tag fields
  | cancel p tag fields => exact s.roomKeptBy_request fun _ sound => sound.answers_doCancel p tag fields
  | queryFree p tag fields => exact s.roomKeptBy_request fun t _ => t.answers_doQueryFree p tag fields
  | lineEnable p tag fields => exact s.roomKeptBy_request fun _ sound => sound.answers_doLineEnable p tag fields
  | lineDisable p tag fields => exact s.roomKeptBy_request fun t _ => t.answers_doLineDisable p tag fields
  | queryLine p tag fields => exact s.roomKeptBy_request fun t _ => t.answers_doQueryLine p tag fields
  | recover p tag fields => exact s.roomKeptBy_request fun _ sound => sound.answers_doRecover p tag fields
  | claim p tag fields => exact s.roomKeptBy_request fun t _ => t.answers_doClaim p tag fields
  | release p tag fields => exact s.roomKeptBy_request fun t _ => t.answers_doRelease p tag fields
  | stage p tag fields => exact s.roomKeptBy_request fun t _ => t.answers_doStage p tag fields
  | commit p tag fields => exact s.roomKeptBy_request fun t _ => t.answers_doCommit p tag fields
  | queryProfile p tag fields => exact s.roomKeptBy_request fun t _ => t.answers_doQueryProfile p tag fields
  | queryTime p tag fields => exact s.roomKeptBy_request fun t _ => .check fun _ => t.answers_reply
  | readCapture p tag fields => exact s.roomKeptBy_request fun t _ => t.answers_doReadCapture p tag fields
  | setTime p tag fields => exact s.roomKeptBy_request fun t _ => t.answers_doSetTime p tag fields
  | queryLink p tag fields => exact s.roomKeptBy_request fun t _ => .check fun _ => t.answers_reply
  | unknownCommand p code tag fields =>
    show s.RoomKeptBy (execUnknownCommand p code tag fields s)
    unfold execUnknownCommand
    split
    · exact s.roomKeptBy_idle
    · exact s.roomKeptBy_request fun t _ => t.answers_reply
  | poll p bytes => exact State.NoFuller.running fun _ => s.noFuller_pollLink p bytes
  | voidTransaction p stretch => exact execVoidTransaction_roomKept p stretch s
  | linkReset p => exact execLinkReset_roomKept p s
  | failedConfirm p confirm =>
    exact State.NoFuller.running fun _ => (s.noFuller_begun p _).trans (State.noFuller_modLink _ p _)
  | requestNotTaken p msg crc => exact execRequestNotTaken_roomKept p msg crc s
  | lsenseChange cycles level => exact execLsenseChange_roomKept cycles level s
  | carrierBurstEnd => exact execCarrierBurstEnd_roomKept s

/-- Settles O55: no row makes a queue fuller but a request of its port, which finds room for what it places and reserves;
the entries that retirements, lapses and completions place are those reserved for them. -/
theorem roomStaysSound : Obligations.RoomStaysSound := fun s t sched line room hstep => by
  unfold step at hstep
  split at hstep
  · exact Host.Outcome.next.inj hstep ▸ room
  · next c rest _ =>
    have taken : s.NoFuller { s with pending := rest } := .of_eq rfl
    have sound : State.Sound { s with pending := rest } :=
      (State.KeepsSound.of_eq (s := s) (t := { s with pending := rest }) rfl ⟨sched, line⟩).1
    exact exec_roomKept c _ sound (fun p => (taken p).trans (room p)) t hstep

end Sys2Proof.Machine
end

section
/-! What comes to nothing: void transactions, failed confirms, requests that are not taken or name no command, and bytes that
are ignored (O49). -/

namespace Sys2Proof.Machine

/-! ### What a transaction leaves that comes to nothing -/

/-- R175, R180: a row of p's link leaves nothing behind but the state of the link, its error counts, and the bytes to be
driven next. -/
def State.Leaves (s : State) (p : Port) (i : Instr) (st : LinkState) (crc framing : Nat) (out : List Byte) : Prop :=
  ∃ t, exec i s = .next t ∧ s.SamePart t ∧ s.SameOthers t p ∧
    (t.port p).Agrees { s.port p with
      link := { (s.port p).link with state := st, crcErrors := crc, framingErrors := framing } } ∧
    (t.port p).link.out = out ∧ (t.port p).link.pad = 0

/-- A row that changes the link alone leaves what its change makes of the link. -/
theorem State.leaves_of_modLink {s : State} {p : Port} {i : Instr} {f : Link → Link} {st : LinkState} {crc framing : Nat}
    {out : List Byte} (row : exec i s = .next (s.modLink p f)) (state : (f (s.port p).link).state = st)
    (crcErrors : (f (s.port p).link).crcErrors = crc) (framingErrors : (f (s.port p).link).framingErrors = framing)
    (sent : (f (s.port p).link).out = out) (pad : (f (s.port p).link).pad = 0) : s.Leaves p i st crc framing out := by
  have own : (s.modLink p f).port p = { s.port p with link := f (s.port p).link } :=
    (s.port_modLink p p f).trans (if_pos rfl)
  refine ⟨_, row, s.samePart_modPort p _, s.sameOthers_modPort p _, ?_⟩
  rw [own]
  exact ⟨⟨rfl, rfl, rfl, rfl, rfl, state, crcErrors, framingErrors⟩, sent, pad⟩

/-- R175: on a settled link a new transaction begins as after the fall of PCSn alone. -/
theorem Link.Settled.rise_fall {l : Link} (h : l.Settled) (summary : List Byte) : l.rise.fall summary = l.fall summary := by
  rw [Link.rise_settled h.apart]
  rfl

/-! ### The bytes of a void transaction -/

section
variable (l : Link) (summary : List Byte) (head : Option Entry)

/-- R177: byte 0 is read as the kind of the transaction. -/
theorem Link.clock_kind (b : Byte) (bs : List Byte) :
    (l.fall summary).clock head (b :: bs) = (((l.fall summary).drive 1).readKind b).clock head bs := rfl

/-- R177: a summary read. -/
theorem Link.readKind_zero : l.readKind 0x00 = { l with state := .ignore } := rfl

/-- R177: a byte that names no kind is a framing error. -/
theorem Link.readKind_unnamed {b : Byte} (zero : b ≠ 0x00) (request : b ≠ 0xA5) (poll : b ≠ 0x5A) (reset : b ≠ 0xC3) :
    l.readKind b = { l with state := .ignore }.framingError :=
  (if_neg request).trans ((if_neg poll).trans ((if_neg reset).trans (if_neg zero)))

/-- R177: the link when byte 0 has named a REQUEST. -/
def Link.asking : Link := { (l.fall summary).drive 1 with state := .request }

theorem Link.clock_asking (bs : List Byte) :
    (l.fall summary).clock head (0xA5 :: bs) = (l.asking summary).clock head bs := rfl

/-- R178: byte 1 of a REQUEST is read as the length of its message. -/
theorem Link.clock_length (n : Byte) (bs : List Byte) :
    (l.asking summary).clock head (n :: bs) = (((l.asking summary).drive 1).readLength n).clock head bs := by
  have early : (l.asking summary).decisive = false := decide_eq_false fun h : 0 + 1 = l.length + 2 => by omega
  rw [Link.clock, early]
  rfl

/-- R178: the link when the length is outside 3 to 40. -/
def Link.misframed : Link := { (l.asking summary).drive 1 with state := .ignore, pad := 0x04 }.framingError

theorem Link.readLength_outside {n : Byte} (outside : n.toNat < 3 ∨ 40 < n.toNat) :
    ((l.asking summary).drive 1).readLength n = l.misframed summary := if_pos outside

/-- R178: after a length outside 3 to 40 the bytes that follow are ignored. -/
theorem Link.clock_outside {n : Byte} (outside : n.toNat < 3 ∨ 40 < n.toNat) (body : List Byte) :
    (l.fall summary).clock head (0xA5 :: n :: body) = some ((l.misframed summary).drive body.length) := by
  rw [Link.clock_asking, Link.clock_length, Link.readLength_outside l summary outside]
  exact Link.clock_ignored head body (.inr rfl)

/-- R176, R178: after the summary PMISO carries FRAMING. -/
theorem Link.misframed_miso {summary : List Byte} (two : summary.length = 2) (k : Nat) :
    ((l.misframed summary).drive k).miso = summary ++ List.replicate k 0x04 := by
  obtain ⟨a, b, rfl⟩ := List.length_eq_two.1 two
  show [a, b] ++ (List.replicate k (0x04 : Byte)).take k = _
  rw [List.take_replicate, Nat.min_self]

variable {l head}

/-- R178: the bytes of a message short of its CRC byte decide nothing, and the link stays in REQUEST. -/
theorem Link.clock_message {bs : List Byte} (request : l.state = .request) (begun : 2 ≤ l.byteCount)
    (short : l.byteCount + bs.length ≤ l.length + 2) : ∃ m, l.clock head bs = some m ∧ m.state = .request ∧
      m.crcErrors = l.crcErrors ∧ m.framingErrors = l.framingErrors := by
  induction bs generalizing l with
  | nil => exact ⟨l, rfl, request, rfl, rfl⟩
  | cons b bs ih =>
    rw [List.length_cons] at short
    have early : l.decisive = false := by
      rw [Link.decisive, request]
      exact decide_eq_false (by omega)
    have read : l.byte b head = { l.drive 1 with buffer := l.buffer ++ [b], crc := crcByte l.crc b } := by
      simp only [Link.byte, request]
      exact if_neg (by omega)
    rw [Link.clock, early, read]
    exact ih request (Nat.le_succ_of_le begun) (show l.byteCount + 1 + bs.length ≤ l.length + 2 by omega)

/-- R178: a REQUEST cut short before its CRC byte. -/
theorem Link.clock_cutShort {n : Byte} (inside : ¬ (n.toNat < 3 ∨ 40 < n.toNat)) {body : List Byte}
    (short : body.length ≤ n.toNat) : ∃ m, (l.fall summary).clock head (0xA5 :: n :: body) = some m ∧
      m.state = .request ∧ m.crcErrors = l.crcErrors ∧ m.framingErrors = l.framingErrors := by
  have read : ((l.asking summary).drive 1).readLength n =
      { (l.asking summary).drive 1 with length := n.toNat, buffer := [], crc := crcByte 0 n } := if_neg inside
  rw [Link.clock_asking, Link.clock_length, read]
  exact Link.clock_message rfl (Nat.le_refl 2) (show 2 + body.length ≤ n.toNat + 2 by omega)

end

/-! ### Void transactions -/

/-- R178: PCSn's rise in REQUEST, before the CRC byte, is a framing error. -/
theorem Link.rise_request {l : Link} (request : l.state = .request) :
    l.rise.framingErrors = min 255 (l.framingErrors + 1) := by
  simp only [Link.rise, request]
  rfl

section
variable {s : State} {p : Port} {bs : List Byte} {m : Link}

/-- R175: a transaction of its own, from the fall to the rise of PCSn, whose bytes decide nothing. -/
theorem exec_voidWhole (running : s.inReset = false) (settled : (s.port p).link.Settled)
    (clock : ((s.port p).link.fall (s.summary p)).clock (s.port p).queue.entries.head? bs = some m)
    (state : m.state ≠ .confirm) :
    exec (.voidTransaction p ⟨true, bs, true⟩) s = .next (s.modLink p fun _ => m.rise) := by
  show execVoidTransaction p ⟨true, bs, true⟩ s = _
  simp [execVoidTransaction, running, Link.void, settled.rise_fall, clock, state]

/-- R175, R180: what such a transaction leaves, by the link at its rise of PCSn. -/
theorem State.leaves_void (running : s.inReset = false) (settled : (s.port p).link.Settled)
    (clock : ((s.port p).link.fall (s.summary p)).clock (s.port p).queue.entries.head? bs = some m)
    (state : m.state ≠ .confirm) (crc : m.crcErrors = (s.port p).link.crcErrors) {framing : Nat}
    (framingErrors : m.rise.framingErrors = framing) :
    s.Leaves p (.voidTransaction p ⟨true, bs, true⟩) .resting (s.port p).link.crcErrors framing [] := by
  obtain ⟨rest, out, pad, crcErrors, -⟩ := m.rise_spec
  exact State.leaves_of_modLink (exec_voidWhole running settled clock state) rest (crcErrors.trans crc) framingErrors out pad

/-- R177, R178: a transaction that ends in IGNORE counts no error at the rise of PCSn. -/
theorem State.leaves_ignored (running : s.inReset = false) (settled : (s.port p).link.Settled)
    (clock : ((s.port p).link.fall (s.summary p)).clock (s.port p).queue.entries.head? bs = some m)
    (ignore : m.state = .ignore) (crc : m.crcErrors = (s.port p).link.crcErrors) {framing : Nat}
    (framingErrors : m.framingErrors = framing) :
    s.Leaves p (.voidTransaction p ⟨true, bs, true⟩) .resting (s.port p).link.crcErrors framing [] := by
  refine State.leaves_void running settled clock (by rw [ignore]; exact nofun) crc ?_
  rw [Link.rise_settled (by rw [ignore]; exact ⟨nofun, nofun⟩)]
  exact framingErrors

/-- R178: a REQUEST that PCSn cuts short is a framing error. -/
theorem State.leaves_cutShort (running : s.inReset = false) (settled : (s.port p).link.Settled)
    (clock : ((s.port p).link.fall (s.summary p)).clock (s.port p).queue.entries.head? bs = some m)
    (request : m.state = .request) (crc : m.crcErrors = (s.port p).link.crcErrors)
    (framing : m.framingErrors = (s.port p).link.framingErrors) :
    s.Leaves p (.voidTransaction p ⟨true, bs, true⟩) .resting (s.port p).link.crcErrors
      (min 255 ((s.port p).link.framingErrors + 1)) [] :=
  State.leaves_void running settled clock (by rw [request]; exact nofun) crc
    ((Link.rise_request request).trans (by rw [framing]))

/-- R178: a REQUEST whose length is outside 3 to 40, or that is cut short. -/
theorem State.leaves_noMessage (running : s.inReset = false) (settled : (s.port p).link.Settled) {n : Byte}
    {body : List Byte} (h : n.toNat < 3 ∨ 40 < n.toNat ∨ body.length ≤ n.toNat) :
    s.Leaves p (.voidTransaction p ⟨true, 0xA5 :: n :: body, true⟩) .resting (s.port p).link.crcErrors
      (min 255 ((s.port p).link.framingErrors + 1)) [] := by
  by_cases outside : n.toNat < 3 ∨ 40 < n.toNat
  · exact State.leaves_ignored running settled (Link.clock_outside _ _ _ outside body) rfl rfl rfl
  · obtain ⟨m, clock, request, crc, framing⟩ := Link.clock_cutShort (l := (s.port p).link) (s.summary p)
      (head := (s.port p).queue.entries.head?) outside (show body.length ≤ n.toNat by omega)
    exact State.leaves_cutShort running settled clock request crc framing

end

/-! ### Failed confirms -/

/-- R183: on a settled link a LINK_RESET's bytes begin with the fall of PCSn. -/
theorem exec_failedConfirm {s : State} {p : Port} (running : s.inReset = false) (settled : (s.port p).link.Settled)
    {confirm : Option Byte} (wrong : confirm ≠ some 0x3C) : exec (.failedConfirm p confirm) s =
      .next (s.modLink p fun l => (l.rise.fall (s.summary p)).confirmFailed confirm) := by
  have own : ¬ ((s.port p).link.state = .kind ∨ (s.port p).link.state = .confirm) := by
    rcases settled with h | h | h <;> simp [h]
  have fails : ¬ (s.inReset = true ∨ confirm = some Config.confirmByte) := not_or.2 ⟨by simp [running], wrong⟩
  show execFailedConfirm p confirm s = _
  rw [execFailedConfirm, if_neg fails, State.begunReset, decide_eq_false own]
  exact congrArg Host.Outcome.next (s.modLink_modLink p (fun l => l.rise.fall (s.summary p)) _)

/-! ### Requests that are not taken -/

/-- R180: the error count that a refusal raises. -/
def Acceptance.count (a : Acceptance) (l : Link) : Link :=
  match a with
  | .crcFail => l.crcError
  | .framing => l.framingError
  | .accepted | .backpressure => l

/-- R179: a refused REQUEST in a transaction of its own. -/
theorem State.refuse_settled {s : State} {p : Port} (settled : (s.port p).link.Settled) (msg : List Byte) (crc : Byte)
    (a : Acceptance) : s.refuse p msg crc a =
      s.modLink p fun l => a.count ((l.rise.fall (s.summary p)).answered msg crc a) := by
  have own : (s.port p).link.leadsTo (requestBytes msg crc) = false := by
    rcases settled with h | h | h <;> simp [Link.leadsTo, h]
  have answered : s.answered p msg crc a =
      s.modLink p fun l => (l.rise.fall (s.summary p)).answered msg crc a := by
    rw [State.answered_eq, own]
    rfl
  cases a with
  | accepted | backpressure => exact answered
  | crcFail | framing =>
    rw [State.refuse, answered]
    exact s.modLink_modLink p _ _

/-- R179: a REQUEST with a message of its right length, judged, is refused and counted as judged. -/
theorem State.leaves_refused {s : State} {p : Port} (running : s.inReset = false) (settled : (s.port p).link.Settled)
    {msg : List Byte} {crc : Byte} {a : Acceptance} (long : 3 ≤ msg.length) (fits : msg.length ≤ 40)
    (judged : s.judge p msg crc = a) (refused : a ≠ .accepted) :
    s.Leaves p (.requestNotTaken p msg crc) .answer (a.count (s.port p).link).crcErrors
      (a.count (s.port p).link).framingErrors [a.code] := by
  have row : exec (.requestNotTaken p msg crc) s =
      .next (s.modLink p fun l => a.count ((l.rise.fall (s.summary p)).answered msg crc a)) := by
    rw [← State.refuse_settled settled]
    show execRequestNotTaken p msg crc s = _
    have whole : ¬ (s.inReset = true ∨ msg.length < Config.headBytes ∨ Config.maxMessage < msg.length) :=
      not_or.2 ⟨by simp [running], not_or.2 ⟨Nat.not_lt.2 long, Nat.not_lt.2 fits⟩⟩
    rw [execRequestNotTaken, if_neg whole, judged]
    cases a with
    | accepted => exact absurd rfl refused
    | backpressure | crcFail | framing => rfl
  refine State.leaves_of_modLink row ?_ ?_ ?_ ?_ ?_ <;> rw [settled.rise_fall] <;> cases a <;> rfl

/-- R179: a whole REQUEST is judged by its CRC, then by its field count, then by the room for its REPLY. -/
theorem State.judge_refuses {s : State} {p : Port} {code tag n : Byte} {rest : List Byte} {crc : Byte} :
    let msg := code :: tag :: n :: rest
    (crc ≠ messageCrc msg → s.judge p msg crc = .crcFail) ∧
    (crc = messageCrc msg → n.toNat ≠ rest.length → s.judge p msg crc = .framing) ∧
    (crc = messageCrc msg → n.toNat = rest.length → 24 ≤ s.used p + s.reserved p →
      s.judge p msg crc = .backpressure) := by
  intro msg
  have count : (n.toNat + Config.headBytes ≠ msg.length) = (n.toNat ≠ rest.length) := by
    simp [msg, Config.headBytes]
  have judged : s.judge p msg crc = if crc ≠ messageCrc msg then .crcFail
      else if n.toNat ≠ rest.length then .framing else if s.roomFor p 1 then .accepted else .backpressure := by
    simp only [← count]
    rfl
  refine ⟨fun wrong => ?_, fun right field => ?_, fun right field full => ?_⟩
  · rw [judged, if_pos wrong]
  · rw [judged, if_neg (not_not_intro right), if_pos field]
  · have none : ¬ s.roomFor p 1 = true := fun room => by
      have := of_decide_eq_true room
      rw [Config.queueSize] at this
      omega
    rw [judged, if_neg (not_not_intro right), if_neg (not_not_intro field), if_neg none]

/-! ### Bytes that are ignored -/

/-- R177, R179: after a REQUEST's CRC byte, and in IGNORE, bytes read what is fixed for them, and PCSn's rise ends the
transaction. -/
theorem exec_ignoredBytes {s : State} {p : Port} (running : s.inReset = false)
    (state : (s.port p).link.state = .answer ∨ (s.port p).link.state = .ignore) (bytes : List Byte) (rises : Bool) :
    exec (.voidTransaction p ⟨false, bytes, rises⟩) s = .next (s.modLink p fun _ =>
      if rises then ((s.port p).link.drive bytes.length).rise else (s.port p).link.drive bytes.length) := by
  have low : (s.port p).link.state ≠ .resting := by rcases state with h | h <;> simp [h]
  have unasked : (s.port p).link.state ≠ .confirm := by rcases state with h | h <;> simp [h]
  show execVoidTransaction p ⟨false, bytes, rises⟩ s = _
  cases rises <;> simp [execVoidTransaction, running, Link.void, Link.clock_ignored _ _ state, low, unasked]

/-- Settles O49: the transactions that come to nothing, the requests not taken or not known, and the bytes ignored. -/
theorem linkRefusals : Obligations.LinkRefusals := by
  refine ⟨fun p s running settled => ?_, fun p code tag fields s takes unknown => ?_,
    fun p bytes rises s running state => ?_⟩
  · refine ⟨?_, fun r => ?_, fun b r zero request poll reset => ?_, ?_, fun n body h => ?_, fun n body outside => ?_,
      fun b wrong => ?_, ?_, fun code tag n rest crc fits => ?_⟩
    · exact State.leaves_void running settled (m := (s.port p).link.fall (s.summary p)) rfl (fun h => nomatch h) rfl rfl
    · have clock := Link.clock_kind (s.port p).link (s.summary p) (s.port p).queue.entries.head? 0x00 r
      rw [Link.readKind_zero, Link.clock_ignored _ r (.inr rfl)] at clock
      exact State.leaves_ignored running settled clock rfl rfl rfl
    · have clock := Link.clock_kind (s.port p).link (s.summary p) (s.port p).queue.entries.head? b r
      rw [Link.readKind_unnamed _ zero request poll reset, Link.clock_ignored _ r (.inr rfl)] at clock
      exact State.leaves_ignored running settled clock rfl rfl rfl
    · exact State.leaves_cutShort running settled (m := (s.port p).link.asking (s.summary p)) rfl rfl rfl rfl
    · exact State.leaves_noMessage running settled h
    · have clock := Link.clock_outside (s.port p).link (s.summary p) (s.port p).queue.entries.head? outside body
      refine ⟨_, exec_voidWhole running settled clock (fun h => nomatch h), ?_⟩
      rw [State.port_modLink, if_pos rfl]
      exact (Link.rise_spec _).2.2.2.2.1.trans (Link.misframed_miso _ rfl _)
    · refine State.leaves_of_modLink (exec_failedConfirm running settled fun h => wrong (Option.some.inj h)) ?_ ?_ ?_ ?_ ?_
      all_goals rw [settled.rise_fall]; rfl
    · refine State.leaves_of_modLink (exec_failedConfirm running settled nofun) ?_ ?_ ?_ ?_ ?_
      all_goals rw [settled.rise_fall]; rfl
    · obtain ⟨wrongCrc, wrongCount, noRoom⟩ := State.judge_refuses (s := s) (p := p) (code := code) (tag := tag) (n := n)
        (rest := rest) (crc := crc)
      have length : (code :: tag :: n :: rest).length = rest.length + 3 := rfl
      have refused {a : Acceptance} := State.leaves_refused running settled (a := a) (crc := crc)
        (show 3 ≤ (code :: tag :: n :: rest).length by omega) (by omega)
      exact ⟨fun wrong => refused (wrongCrc wrong) nofun, fun right field => refused (wrongCount right field) nofun,
        fun right field full => refused (noRoom right field full) nofun⟩
  · refine s.replies_of_reply _ p code tag fields (fun t => t.reply p code tag .unknownCommand) _ _ takes ?_ rfl
    have none : ¬ Config.knownCodes.contains code = true := fun h => unknown (List.contains_iff_mem.1 h)
    exact if_neg none
  · refine ⟨_, exec_ignoredBytes running state bytes rises, s.samePart_modPort p _, s.sameOthers_modPort p _, ?_⟩
    rw [State.port_modLink, if_pos rfl]
    cases rises with
    | false => exact ⟨⟨rfl, rfl, rfl, rfl, rfl, rfl, rfl, rfl⟩, rfl⟩
    | true =>
      have apart : ((s.port p).link.drive bytes.length).state ≠ .request ∧
          ((s.port p).link.drive bytes.length).state ≠ .confirm := by
        rcases state with h | h <;> simp [h]
      simp only [if_true, Link.rise_settled apart]
      exact ⟨⟨rfl, rfl, rfl, rfl, rfl, rfl, rfl, rfl⟩, rfl⟩

end Sys2Proof.Machine
end

section
/-! A chip reset holds the part, and its release gives every block its reset value (O2, O3). -/

namespace Sys2Proof.Machine

/-! ### While RESETn is low -/

section
variable {s : State}

/-- R185: while RESETn is low no request is taken. -/
theorem State.request_inReset (low : s.inReset = true) (p : Port) (code tag : Byte) (fields : List Byte)
    (act : State → State) : s.request p code tag fields act = s := if_pos low

/-- R185: while RESETn is low no lease reaches its threshold. -/
theorem State.leaseLowDue_inReset (low : s.inReset = true) (p : Port) : s.leaseLowDue p = false := by
  unfold State.leaseLowDue
  split <;> simp [low]

/-- R185: while RESETn is low no event of the frame on the line is due. -/
theorem State.frameEvents_inReset (low : s.inReset = true) : s.preambleEnded = none ∧ s.bodyEnded = none ∧
    s.gapEnded = none ∧ s.comparing = none ∧ s.stopDue = none := by
  cases slot : s.disp.slot <;>
    simp [State.preambleEnded, State.bodyEnded, State.gapEnded, State.comparing, State.stopDue, slot, low]

/-- R185: while RESETn is low no row has an effect but CHIP_RESET, RESET_RELEASE and LSENSE_CHANGE: no event is due, and
no transaction is taken. -/
theorem exec_inReset (i : Instr) (low : s.inReset = true) (reset : i ≠ .chipReset)
    (release : ∀ a b, i ≠ .resetRelease a b) (lsense : ∀ n l, i ≠ .lsenseChange n l) : exec i s = .next s := by
  obtain ⟨preamble, body, gap, compare, stop⟩ := State.frameEvents_inReset low
  cases i with
  | chipReset => exact absurd rfl reset
  | resetRelease a b => exact absurd rfl (release a b)
  | lsenseChange n l => exact absurd rfl (lsense n l)
  | tick | captureEdge | poll | linkReset | carrierBurstEnd => exact if_pos low
  | voidTransaction | failedConfirm | requestNotTaken => exact if_pos (.inl low)
  | leaseLow p => exact if_neg (by simp [State.leaseLowDue_inReset low])
  | lapse => exact if_neg (by simp [State.lapseDue, low])
  | timedStartReached => exact if_neg (by simp [State.startDue, low])
  | notBeforeReached => exact if_neg (by simp [State.notBeforeDue, low])
  | windowExpiry => exact if_neg (by simp [State.windowPassed, low])
  | asapExpiry => exact if_neg (by simp [State.asapExpiryDue, low])
  | heldExpiryPassed => exact if_neg (by simp [State.heldExpiryDue, low])
  | guardEnd => exact if_neg (by simp [State.guardEnded, low])
  | holdEnd => exact if_neg (by simp [State.holdEnded, low])
  | strobePulseEnd => exact if_neg (by simp [low])
  | preambleEnd =>
    show execPreambleEnd s = _
    rw [execPreambleEnd, preamble]
  | bodyEnd =>
    show execBodyEnd s = _
    rw [execBodyEnd, body]
  | gapEnd =>
    show execGapEnd s = _
    rw [execGapEnd, gap]
  | comparisonEvent =>
    show execComparisonEvent s = _
    rw [execComparisonEvent, compare]
  | echoStop =>
    show execEchoStop s = _
    rw [execEchoStop, stop]
  | unknownCommand p code tag fields =>
    show execUnknownCommand p code tag fields s = _
    rw [execUnknownCommand, State.request_inReset low, ite_self]
  | openSession | renew | close | loadBegin | loadData | queryFrame | submit | cancel | queryFree | lineEnable
  | lineDisable | queryLine | recover | claim | release | stage | commit | queryProfile | queryTime | readCapture
  | setTime | queryLink => exact congrArg Host.Outcome.next (State.request_inReset low ..)

end

/-- Settles O2: CHIP_RESET leaves every output at its reset level, and while RESETn is low only the three rows act. -/
theorem resetHoldsThePart : Obligations.ResetHoldsThePart := by
  refine ⟨fun s => ⟨{ s.blocksReset with inReset := true }, rfl, rfl, rfl, rfl, rfl, rfl, rfl, fun p => ⟨rfl, ?_⟩⟩,
    fun i _ => exec_inReset i⟩
  cases p <;> rfl

/-! ### The release -/

/-- R185: the part as RESET_RELEASE leaves it. -/
def State.afterRelease (s : State) (tbsel : BitVec 2) (pcsLow : BitVec 4) : State :=
  { s.blocksReset with
    clock := { divisor := tickDivisor tbsel }
    ports :=
      { hp0 := PortState.released {} (pcsLow.getLsbD 0)
        hp1 := PortState.released {} (pcsLow.getLsbD 1)
        hp2 := PortState.released {} (pcsLow.getLsbD 2)
        hp3 := PortState.released {} (pcsLow.getLsbD 3) } }

section
variable {s : State} {tbsel : BitVec 2} {pcsLow : BitVec 4}

theorem exec_resetRelease (low : s.inReset = true) :
    exec (.resetRelease tbsel pcsLow) s = .next (s.afterRelease tbsel pcsLow) := if_pos low

/-- R175, R185: a port after the release: its reset value, but for a link that its PCSn finds low. -/
theorem State.port_afterRelease (p : Port) :
    (s.afterRelease tbsel pcsLow).port p = PortState.released {} (pcsLow.getLsbD (Port.number p)) := by
  cases p <;> rfl

theorem State.desc_afterRelease (d : DescIdx) : (s.afterRelease tbsel pcsLow).desc d = Desc.blank :=
  State.desc_reset d

/-- R20, R169: after the release no port owns a descriptor or has a session, so nothing is reserved. -/
theorem State.counts_afterRelease (p : Port) : (s.afterRelease tbsel pcsLow).liveCount p = 0 ∧
    (s.afterRelease tbsel pcsLow).heldCount p = 0 ∧ (s.afterRelease tbsel pcsLow).reserved p = 0 := by
  have live : (s.afterRelease tbsel pcsLow).liveCount p = 0 := State.reset_liveCount p
  have sessionless : (s.afterRelease tbsel pcsLow).hasSession p = false := by
    rw [State.hasSession, State.port_afterRelease]
    rfl
  refine ⟨live, ?_, by rw [State.reserved, live, sessionless]; rfl⟩
  rw [State.heldCount_eq]
  exact Finset.sum_eq_zero fun d _ => by rw [State.desc_afterRelease]; rfl

end

/-- R13, R19: after reset the whole table and the whole pool are free. -/
theorem State.reset_free : State.reset.freeDescs = 48 ∧ State.reset.freeSegs.length = 192 := by
  have descs : State.reset.store.descs.toList = List.replicate 48 Desc.blank := by
    rw [State.reset, Vector.toList_replicate]
  have segments := State.reset_storeSound.segments_count
  refine ⟨by rw [State.freeDescs, descs, List.countP_replicate]; rfl, ?_⟩
  simpa [descs, Desc.blank] using segments

/-- Settles O3: the blocks one after another, the pool by its count of segments, and the ports. -/
theorem releaseGivesResetValues : Obligations.ReleaseGivesResetValues := by
  intro tbsel pcsLow s low
  refine ⟨_, exec_resetRelease low, rfl, rfl, rfl, rfl, rfl, ?_, ?_, ?_, ?_, State.desc_afterRelease,
    State.reset_free.1, State.reset_free.2, rfl, rfl, rfl, rfl, rfl, rfl, rfl, rfl, rfl, rfl, rfl, rfl, rfl, rfl, rfl, rfl,
    rfl, rfl, rfl, fun p => ?_⟩
  case refine_5 =>
    obtain ⟨live, held, reserved⟩ := State.counts_afterRelease (s := s) (tbsel := tbsel) (pcsLow := pcsLow) p
    rw [State.attention, State.port_afterRelease]
    exact ⟨live, held, reserved, rfl, rfl, rfl, rfl, rfl, rfl, rfl, rfl, rfl, rfl⟩
  all_goals
    rintro rfl
    rfl

end Sys2Proof.Machine
end

section
/-! A REQUEST in stretches: its bytes reach their end from wherever a stretch leaves the link; and QUERY_LINK (O51). -/

namespace Sys2Proof.Machine

/-! ### Where the bytes of a REQUEST begin -/

/-- The part with another link on p. -/
def State.onLink (s : State) (p : Port) (k : Link) : State := s.modLink p fun _ => k

theorem State.modLink_eq_onLink (s : State) (p : Port) (f : Link → Link) :
    s.modLink p f = s.onLink p (f (s.port p).link) := by
  refine congrArg (fun ps => { s with ports := ps }) (Ports.ext_get fun q => ?_)
  by_cases hq : q = p <;> simp [hq, State.port]

/-- R175: the link on which a REQUEST's bytes go on: the one it finds, or that one after the rise and the fall of PCSn. -/
def Link.toward (l : Link) (summary sent : List Byte) : Link :=
  if l.leadsTo sent then l else l.rise.fall summary

section
variable {l : Link} {summary sent : List Byte}

theorem Link.toward_of_leadsTo (h : l.leadsTo sent = true) : l.toward summary sent = l := if_pos h

theorem Link.toward_of_not_leadsTo (h : l.leadsTo sent = false) : l.toward summary sent = l.rise.fall summary :=
  if_neg (by simp [h])

/-- R175: only a link in KIND or in REQUEST can go on. -/
theorem Link.not_leadsTo (kind : l.state ≠ .kind) (request : l.state ≠ .request) : l.leadsTo sent = false := by
  simp [Link.leadsTo, kind, request]

theorem Link.leadsTo_of_received (request : l.state = .request) {rest : List Byte} (h : sent = l.received ++ rest) :
    l.leadsTo sent = true := by
  simp [Link.leadsTo, request, h]

/-- R175: on a settled link a REQUEST begins a transaction of its own. -/
theorem Link.Settled.not_leadsTo (h : l.Settled) : l.leadsTo sent = false := by
  rcases h with h | h | h <;> exact Link.not_leadsTo (by simp [h]) (by simp [h])

/-- R175: a rise of PCSn that ends a transaction comes before a REQUEST anyway. -/
theorem Link.toward_rise (h : l.leadsTo sent = false) : l.rise.toward summary sent = l.toward summary sent := by
  have resting : l.rise.Settled := .inl l.rise_spec.1
  rw [Link.toward_of_not_leadsTo h, Link.toward_of_not_leadsTo resting.not_leadsTo, Link.rise_rise]

end

/-- R175, R179: where the bytes of a REQUEST leave the link. -/
theorem State.answered_toward (s : State) (p : Port) (msg : List Byte) (crc : Byte) (a : Acceptance) :
    s.answered p msg crc a = s.onLink p
      (((s.port p).link.toward (s.summary p) (requestBytes msg crc)).answered msg crc a) := by
  rw [State.answered_eq, State.modLink_eq_onLink]
  rfl

/-! ### Rows that are REQUESTs -/

/-- R168, R179: the row is a REQUEST of p with this message: it hands a command, which may turn on the lease remaining
(R152), to the link. -/
def IsRequest (i : Instr) (p : Port) (msg : List Byte) : Prop :=
  ∃ code tag fields, msg = message code tag fields ∧ ∃ act : Nat → State → State, ∀ s : State,
    exec i s = .next (s.request p code tag fields (act (s.port p).session.remaining))

theorem IsRequest.of_act {i : Instr} {p : Port} {code tag : Byte} {fields : List Byte} {act : State → State}
    (h : ∀ s : State, exec i s = .next (s.request p code tag fields act)) : IsRequest i p (message code tag fields) :=
  ⟨_, _, _, rfl, fun _ => act, h⟩

theorem IsRequest.of_requestOf {i : Instr} {p : Port} {msg : List Byte} (row : requestOf i = some (p, msg)) :
    IsRequest i p msg := by
  cases i with
  | renew q tag fields =>
    obtain ⟨rfl, rfl⟩ := Prod.mk.inj (Option.some.inj row)
    exact ⟨_, _, _, rfl, State.doRenew q tag fields, fun _ => rfl⟩
  | unknownCommand q code tag fields =>
    by_cases known : Config.knownCodes.contains code = true
    · rw [requestOf, if_pos known] at row
      cases row
    · rw [requestOf, if_neg known] at row
      obtain ⟨rfl, rfl⟩ := Prod.mk.inj (Option.some.inj row)
      exact .of_act fun _ => if_neg known
  | openSession | close | loadBegin | loadData | queryFrame | submit | cancel | queryFree | lineEnable | lineDisable
  | queryLine | recover | claim | release | stage | commit | queryProfile | queryTime | readCapture | setTime
  | queryLink =>
    obtain ⟨rfl, rfl⟩ := Prod.mk.inj (Option.some.inj row)
    exact .of_act fun _ => rfl
  | chipReset | resetRelease | tick | leaseLow | lapse | captureEdge | timedStartReached | notBeforeReached
  | windowExpiry | asapExpiry | heldExpiryPassed | preambleEnd | bodyEnd | gapEnd | guardEnd | comparisonEvent | echoStop
  | holdEnd | strobePulseEnd | poll | voidTransaction | linkReset | failedConfirm | requestNotTaken | lsenseChange
  | carrierBurstEnd => cases row

theorem IsRequest.three_le_length {i : Instr} {p : Port} {msg : List Byte} (h : IsRequest i p msg) :
    3 ≤ msg.length := by
  obtain ⟨code, tag, fields, rfl, -⟩ := h
  rw [message_length]
  exact Nat.le_add_left 3 _

/-! ### Rows on another link -/

section
variable (s : State) (p : Port) (k : Link)

theorem State.link_onLink : ((s.onLink p k).port p).link = k := by simp [State.onLink]

/-- R163, R169, R176: the summary and the room of a queue do not turn on the link. -/
theorem State.queue_onLink : (s.onLink p k).summary p = s.summary p ∧ (s.onLink p k).roomFor p 1 = s.roomFor p 1 := by
  have session : ((s.onLink p k).port p).session = (s.port p).session := by simp [State.onLink]
  have queue : ((s.onLink p k).port p).queue = (s.port p).queue := by simp [State.onLink]
  have live : (s.onLink p k).liveCount p = s.liveCount p := rfl
  constructor
  · simp only [State.summary, State.used, session, queue]
    rfl
  · simp only [State.roomFor, State.used, State.reserved, State.hasSession, session, queue, live]
    rfl

/-- R175, R179: a REQUEST's bytes come to the same end from link k as from the link of p. -/
def State.EndsAlike (msg : List Byte) : Prop := ∀ a,
  (k.toward (s.summary p) (requestBytes msg (messageCrc msg))).answered msg (messageCrc msg) a =
    ((s.port p).link.toward (s.summary p) (requestBytes msg (messageCrc msg))).answered msg (messageCrc msg) a

variable {s p k} {msg : List Byte}

theorem State.EndsAlike.answered (h : s.EndsAlike p k msg) (a : Acceptance) :
    (s.onLink p k).answered p msg (messageCrc msg) a = s.answered p msg (messageCrc msg) a := by
  rw [State.answered_toward, State.answered_toward, State.link_onLink, (s.queue_onLink p k).1, h a]
  exact State.modLink_modLink s p _ _

/-- R179: what is refused is refused alike. -/
theorem State.EndsAlike.refuse (h : s.EndsAlike p k msg) (a : Acceptance) :
    (s.onLink p k).refuse p msg (messageCrc msg) a = s.refuse p msg (messageCrc msg) a := by
  simp only [State.refuse, h.answered]

/-- R179: a REQUEST does the same on such a link. -/
theorem State.EndsAlike.request {code tag : Byte} {fields : List Byte} (h : s.EndsAlike p k (message code tag fields))
    (running : s.inReset = false) (fits : (message code tag fields).length ≤ 40) (act : State → State) :
    (s.onLink p k).request p code tag fields act = s.request p code tag fields act := by
  have same : (s.onLink p k).inReset = s.inReset := rfl
  have short : ¬ Config.maxMessage < (message code tag fields).length := Nat.not_lt.2 fits
  have judged (crc : Byte) : (s.onLink p k).judge p (message code tag fields) crc =
      s.judge p (message code tag fields) crc := by
    simp only [State.judge, (s.queue_onLink p k).2]
  simp only [State.request, same, running, short, judged, h.answered, h.refuse, Bool.false_eq_true, if_false]

/-- R168, R179: every row that is a REQUEST does the same on such a link. -/
theorem State.EndsAlike.exec_eq {i : Instr} (h : s.EndsAlike p k msg) (row : requestOf i = some (p, msg))
    (running : s.inReset = false) (fits : msg.length ≤ 40) : exec i (s.onLink p k) = exec i s := by
  obtain ⟨code, tag, fields, rfl, act, asks⟩ := IsRequest.of_requestOf row
  have session : ((s.onLink p k).port p).session = (s.port p).session := by simp [State.onLink]
  rw [asks, asks, session, h.request running fits]

end

/-! ### A first stretch of the bytes -/

section
variable {l : Link} {msg : List Byte} {crc : Byte}

/-- R178: the bytes of a message short of its CRC byte are kept and counted into the CRC. -/
theorem Link.clock_buffer {head : Option Entry} {bs : List Byte} (request : l.state = .request) (begun : 2 ≤ l.byteCount)
    (short : l.byteCount + bs.length ≤ l.length + 2) : l.clock head bs =
      some { l.drive bs.length with buffer := l.buffer ++ bs, crc := bs.foldl crcByte l.crc } := by
  induction bs generalizing l with
  | nil => simp [Link.clock]
  | cons b bs ih =>
    rw [List.length_cons] at short
    have early : l.decisive = false := by
      rw [Link.decisive, request]
      exact decide_eq_false (by omega)
    have read : l.byte b head = { l.drive 1 with buffer := l.buffer ++ [b], crc := crcByte l.crc b } := by
      simp only [Link.byte, request]
      exact if_neg (by omega)
    rw [Link.clock, early, read]
    refine (ih (l := { l.drive 1 with buffer := l.buffer ++ [b], crc := crcByte l.crc b }) request
      (Nat.le_succ_of_le begun) (show l.byteCount + 1 + bs.length ≤ l.length + 2 by omega)).trans ?_
    have both : (l.drive 1).drive bs.length = l.drive (bs.length + 1) := by rw [Link.drive_drive, Nat.add_comm]
    rw [List.length_cons, ← both, List.foldl_cons, List.append_cons l.buffer b bs]
    rfl

/-- R178: the link when the length n and the first bytes of a message have come after the fall of PCSn. -/
def Link.collecting (l : Link) (summary : List Byte) (n : Byte) (bs : List Byte) : Link :=
  { (l.fall summary).drive (2 + bs.length) with
    state := .request, length := n.toNat, buffer := bs, crc := bs.foldl crcByte (crcByte 0 n) }

theorem Link.clock_collecting (l : Link) (summary : List Byte) (head : Option Entry) {n : Byte}
    (inside : ¬ (n.toNat < 3 ∨ 40 < n.toNat)) {bs : List Byte} (short : bs.length ≤ n.toNat) :
    (l.fall summary).clock head (0xA5 :: n :: bs) = some (l.collecting summary n bs) := by
  have read : ((l.asking summary).drive 1).readLength n =
      { (l.asking summary).drive 1 with length := n.toNat, buffer := [], crc := crcByte 0 n } := if_neg inside
  rw [Link.clock_asking, Link.clock_length, read, Link.clock_buffer rfl (Nat.le_refl 2)
    (show 2 + bs.length ≤ n.toNat + 2 by omega), Link.collecting, ← Link.drive_drive, ← Link.drive_drive _ 1 1]
  rfl

theorem Link.received_collecting (l : Link) (summary : List Byte) (n : Byte) (bs : List Byte) :
    (l.collecting summary n bs).received = Config.kindRequest :: n :: bs := by
  have begun : ¬ (l.collecting summary n bs).byteCount ≤ 1 := show ¬ 0 + (2 + bs.length) ≤ 1 by omega
  rw [Link.received, if_neg begun]
  exact congrArg (Config.kindRequest :: · :: bs) (byteOf_toNat n)

/-- R175, R179: the link at the end of a REQUEST does not turn on how far a stretch had brought it. -/
theorem Link.answered_drive {j : Nat} (short : l.byteCount + j ≤ msg.length + 3) (st : LinkState) (n : Nat)
    (buffer : List Byte) (c : Byte) (a : Acceptance) :
    Link.answered { l.drive j with state := st, length := n, buffer := buffer, crc := c } msg crc a =
      l.answered msg crc a := by
  have rest : j + (msg.length + 3 - (l.byteCount + j)) = msg.length + 3 - l.byteCount := by omega
  rw [Link.answered, Link.answered, ← rest, ← Link.drive_drive]
  rfl

/-- R175, R178: a first stretch of a REQUEST's bytes after the fall of PCSn leaves the link on the way to their end. -/
theorem Link.clock_stretch (l : Link) (summary : List Byte) (head : Option Entry) (long : 3 ≤ msg.length)
    (fits : msg.length ≤ 40) {a b : List Byte} (sent : requestBytes msg crc = a ++ b) (more : b ≠ []) :
    ∃ k, (l.fall summary).clock head a = some k ∧ k.leadsTo (requestBytes msg crc) = true ∧
      ∀ x, k.answered msg crc x = (l.fall summary).answered msg crc x := by
  have total : a.length + b.length = msg.length + 3 := by
    rw [← List.length_append, ← sent]
    simp [requestBytes]
  have left : 0 < b.length := List.length_pos_iff.2 more
  match a with
  | [] => exact ⟨_, rfl, rfl, fun _ => rfl⟩
  | [_] =>
    obtain ⟨rfl, -⟩ := List.cons.inj sent
    exact ⟨l.asking summary, rfl, rfl, fun x => Link.answered_drive (l := l.fall summary) (by simp) _ _ _ _ x⟩
  | _ :: _ :: bs =>
    obtain ⟨rfl, rest⟩ := List.cons.inj sent
    obtain ⟨rfl, rest⟩ := List.cons.inj rest
    have length : (byteOf (min 255 msg.length)).toNat = msg.length := by
      rw [byteOf, BitVec.toNat_ofNat]
      omega
    have short : bs.length ≤ msg.length := by
      simp only [List.length_cons] at total
      omega
    refine ⟨_, Link.clock_collecting l summary head (by omega) (short.trans length.ge), ?_,
      fun x => Link.answered_drive (l := l.fall summary) (show 0 + (2 + bs.length) ≤ msg.length + 3 by omega) _ _ _ _ x⟩
    refine Link.leadsTo_of_received (rest := b) rfl ?_
    rw [Link.received_collecting]
    exact congrArg (Config.kindRequest :: ·) rest

end

/-- R175: a first stretch of a transaction's bytes, on a settled link. -/
theorem exec_firstStretch {s : State} {p : Port} {a : List Byte} {k : Link} (running : s.inReset = false)
    (settled : (s.port p).link.Settled)
    (clock : ((s.port p).link.fall (s.summary p)).clock (s.port p).queue.entries.head? a = some k) :
    exec (.voidTransaction p ⟨true, a, false⟩) s = .next (s.onLink p k) := by
  show execVoidTransaction p ⟨true, a, false⟩ s = _
  simp [execVoidTransaction, running, Link.void, settled.rise_fall, clock, State.onLink]

/-- R175, R178, R179: a REQUEST sent in two stretches is the REQUEST sent whole. -/
theorem exec_request_inStretches {i : Instr} {p : Port} {msg a b : List Byte} {s : State}
    (row : requestOf i = some (p, msg)) (fits : msg.length ≤ 40) (settled : (s.port p).link.Settled)
    (sent : requestBytes msg (messageCrc msg) = a ++ b) (more : b ≠ []) :
    ∃ u, exec (.voidTransaction p ⟨true, a, false⟩) s = .next u ∧ exec i u = exec i s := by
  cases running : s.inReset with
  | true => exact ⟨s, if_pos (.inl running), rfl⟩
  | false =>
    obtain ⟨k, clock, leads, answered⟩ := (s.port p).link.clock_stretch (s.summary p) (s.port p).queue.entries.head?
      (IsRequest.of_requestOf row).three_le_length fits sent more
    have alike : s.EndsAlike p k msg := fun x => by
      rw [Link.toward_of_leadsTo leads, Link.toward_of_not_leadsTo settled.not_leadsTo, settled.rise_fall, answered]
    exact ⟨_, exec_firstStretch running settled clock, alike.exec_eq row running fits⟩

/-! ### A transaction that the row does not go on with -/

/-- R175, R180: the rise of PCSn that ends a REQUEST or a LINK_RESET under way. -/
theorem State.risen {s : State} {p : Port} (cut : (s.port p).link.state = .request ∨ (s.port p).link.state = .confirm) :
    ((s.onLink p (s.port p).link.rise).port p).Agrees { s.port p with link := { (s.port p).link with
      state := .resting, framingErrors := min 255 ((s.port p).link.framingErrors + 1) } } := by
  obtain ⟨state, -, -, crc, -⟩ := (s.port p).link.rise_spec
  have framing : (s.port p).link.rise.framingErrors = min 255 ((s.port p).link.framingErrors + 1) := by
    rcases cut with h | h <;> simp only [Link.rise, h] <;> rfl
  rw [State.onLink, State.port_modLink, if_pos rfl]
  exact ⟨rfl, rfl, rfl, rfl, rfl, state, crc, framing⟩

/-- R175: a row that does not go on with the transaction under way begins with the rise of PCSn that ends it. -/
theorem exec_afterRise {i : Instr} {p : Port} {msg : List Byte} {s : State} (row : requestOf i = some (p, msg))
    (fits : msg.length ≤ 40) (running : s.inReset = false)
    (other : (s.port p).link.leadsTo (requestBytes msg (messageCrc msg)) = false) :
    exec i (s.onLink p (s.port p).link.rise) = exec i s :=
  State.EndsAlike.exec_eq (fun a => by rw [Link.toward_rise other]) row running fits

/-- R175, R178: PCSn rises in a REQUEST. -/
theorem exec_riseInRequest {s : State} {p : Port} (running : s.inReset = false)
    (request : (s.port p).link.state = .request) :
    exec (.voidTransaction p ⟨false, [], true⟩) s = .next (s.onLink p (s.port p).link.rise) := by
  show execVoidTransaction p ⟨false, [], true⟩ s = _
  simp [execVoidTransaction, running, Link.void, Link.clock, request, State.onLink]

/-- R183: PCSn rises before the confirm byte. -/
theorem exec_riseInConfirm {s : State} {p : Port} (running : s.inReset = false)
    (confirm : (s.port p).link.state = .confirm) (one : (s.port p).link.byteCount = 1) :
    exec (.failedConfirm p none) s = .next (s.onLink p (s.port p).link.rise) := by
  have failed : (s.port p).link.confirmFailed none = (s.port p).link.rise := by
    rw [Link.confirmFailed, one, Nat.sub_self, Link.drive_zero, ← confirm]
  have step : exec (.failedConfirm p none) s = .next (s.modLink p fun l => l.confirmFailed none) := by
    show execFailedConfirm p none s = _
    simp [execFailedConfirm, running, State.begunReset, State.begun, confirm]
  rw [step, State.modLink_eq_onLink, failed]

/-! ### QUERY_LINK -/

/-- R181: QUERY_LINK answers the error counts of the link that its bytes leave. -/
theorem State.doQueryLink_taken {s : State} {p : Port} {tag : Byte} {fields : List Byte} {crc framing : Nat}
    (crcErrors : (s.sentLink p Config.codeQueryLink tag fields).crcErrors = crc)
    (framingErrors : (s.sentLink p Config.codeQueryLink tag fields).framingErrors = framing) (bare : fields = []) :
    State.doQueryLink p tag fields (s.taken p Config.codeQueryLink tag fields) =
      (s.taken p Config.codeQueryLink tag fields).reply p Config.codeQueryLink tag .ok (.link crc framing p) := by
  have link : ((s.taken p Config.codeQueryLink tag fields).port p).link = s.sentLink p Config.codeQueryLink tag fields := by
    simp [State.taken_eq]
  rw [State.doQueryLink, if_neg (not_not_intro bare), link, crcErrors, framingErrors]

/-- R175, R181: QUERY_LINK in a transaction under way. -/
theorem exec_queryLink_goesOn {s : State} {p : Port} {tag : Byte} (running : s.inReset = false)
    (room : s.used p + s.reserved p < 24)
    (leads : (s.port p).link.leadsTo (requestBytes (message 0x70 tag []) (messageCrc (message 0x70 tag []))) = true) :
    ∃ t, exec (.queryLink p tag []) s = .next t ∧
      t.port p = { (s.port p).renewed.withEntries
        [.reply 0x70 tag .ok (.link (s.port p).link.crcErrors (s.port p).link.framingErrors p)] with
        link := (s.port p).link.answered (message 0x70 tag []) (messageCrc (message 0x70 tag [])) .accepted } := by
  have sent : s.sentLink p Config.codeQueryLink tag [] =
      (s.port p).link.answered (message 0x70 tag []) (messageCrc (message 0x70 tag [])) .accepted :=
    congrArg (fun l => Link.answered l _ _ _) (if_pos leads)
  have done : State.doQueryLink p tag [] (s.taken p Config.codeQueryLink tag []) = _ :=
    State.doQueryLink_taken (congrArg Link.crcErrors sent) (congrArg Link.framingErrors sent) rfl
  refine ⟨_, congrArg Host.Outcome.next ((s.request_accepted p _ tag [] _ running (by simp) room).trans done), ?_⟩
  rw [State.port_reply, if_pos rfl, State.taken_eq, State.port_modPort, if_pos rfl, sent]
  rfl

/-- Settles O51: QUERY_LINK by its one check, the stretches of a REQUEST by the end that its bytes come to, and a
transaction under way by the rise of PCSn that ends it. -/
theorem queryLinkAnswers : Obligations.QueryLinkAnswers := by
  refine ⟨fun p tag fields s takes => ⟨fun extra => ?_, fun bare => ?_⟩, fun i p msg a b s => exec_request_inStretches,
    fun p tag s running room leads => ?_, fun i p msg s row fits running => ⟨fun request other => ?_, fun confirm one => ?_⟩⟩
  · exact s.replies_of_reply _ p Config.codeQueryLink tag fields _ _ _ takes rfl (by simp [State.doQueryLink, extra])
  · obtain ⟨-, crc, framing, -⟩ := s.sentLink_spec p Config.codeQueryLink tag fields takes.settled
    exact s.replies_of_reply _ p Config.codeQueryLink tag fields _ _ _ takes rfl (State.doQueryLink_taken crc framing bare)
  · obtain ⟨t, ht, own⟩ := exec_queryLink_goesOn running room leads
    refine ⟨t, ht, ?_, ?_, ?_⟩
    · have link := (s.port p).renewed_link
      rw [own]
      exact ⟨rfl, rfl, rfl, rfl, rfl, (congrArg Link.state link).symm, (congrArg Link.crcErrors link).symm,
        (congrArg Link.framingErrors link).symm⟩
    · rw [own]
      rfl
    · rw [own]
      rfl
  · exact ⟨_, exec_riseInRequest running request, exec_afterRise row fits running other, s.samePart_modPort p _,
      s.sameOthers_modPort p _, State.risen (.inl request)⟩
  · have other : (s.port p).link.leadsTo (requestBytes msg (messageCrc msg)) = false :=
      Link.not_leadsTo (by simp [confirm]) (by simp [confirm])
    exact ⟨_, exec_riseInConfirm running confirm one, exec_afterRise row fits running other, s.samePart_modPort p _,
      s.sameOthers_modPort p _, State.risen (.inr confirm)⟩

end Sys2Proof.Machine
end

section
/-! What a step does with the queue of waiting commands (O1). -/

namespace Sys2Proof.Machine

/-- A waiting command leaves the queue before it is carried out, so `exec` sees the queue's rest only. -/
theorem step_of_pending_cons {s : State} {c : Instr} {rest : List Instr} (front : s.pending = c :: rest) :
    step s = exec c { s with pending := rest } := by
  rw [step, front]

/-- The model's choice (log 3): without a command the block idles. -/
theorem step_of_pending_nil {s : State} (idle : s.pending = []) : step s = .next s := by
  rw [step, idle]

/-- Settles O1: the two branches of `step`, for a queue with a command at its front and for the empty one. -/
theorem stepTakesFront : Obligations.StepTakesFront := fun _ _ _ =>
  ⟨step_of_pending_cons rfl, step_of_pending_nil rfl⟩

end Sys2Proof.Machine
end
